-- ==== Sys2Proof/Word.lean ====
section
/-! DEFINITION. The word types of the unit (R5): a register or window word has 16 bits, memory is addressed by bytes. -/
namespace Sys2Proof

/-- A byte of an addressed memory. -/
abbrev Byte := BitVec 8

/-- A register or window word (R5). -/
abbrev Word := BitVec 16

end Sys2Proof
end

