-- ==== Sys2Proof/Syntax.lean ====
section
/-! DEFINITION. The commands of the unit: one constructor for each row of spec/opcode_table.json, with what its environment
supplies: an instance, a written value, an arriving frame, a measurement. An operand with a default stands for the plain case: an access
that finds no error, a level that holds, an edge that is not late. -/
namespace Sys2Proof

/-- TCLK edges since the last beat strobe, 2 ns each (R15, R226). -/
abbrev Dt := BitVec 20

/-- What BOOT meets (R83): the seconds D0 counted without power (R64), whether the SRAM was retained (R355), and the tally counters with
a cell found partly programmed (R359). -/
structure PowerIn where
  offSecs : BitVec 32
  retained : Bool
  partly : List (Fin 32) := []
deriving DecidableEq, Repr

/-- An error found in an Orchard word (R29): a single-bit or a double-bit one, the word's byte address and, for a word of the packet
buffers, the frame that it belongs to: its port and its place in that port's TQ. -/
structure EccIn where
  double : Bool
  addr : BitVec 21
  port : Fin 4
  slot : Fin 32
deriving DecidableEq, Repr

/-- An engine's request for the line that HB reaches in the same cycle (R32): a local write of the word, or a local read. -/
structure LineReq where
  e : Fin 3
  word : Option (Fin 8 × BitVec 64)
deriving DecidableEq, Repr

/-- What one beat brings at a reference input, REF0 to REF3, REF8 or REF9 (R154): the filtered rising edges, in 2⁻¹⁶ ns from
the strobe that began the beat, their count, the phase and the frequency offset that the TDC measures (2⁻¹⁶ ns and the
format of R4), a stale sample, the two peaks in mV plus 4,096, and how long each new level of the input holds at least, in 2 ns
(R147). -/
structure RefIn where
  n : Fin 10
  edges : List (BitVec 37)
  count : BitVec 20
  phase : Option (BitVec 48)
  foff : Option (BitVec 48)
  stale : Bool
  vmax : BitVec 16
  vmin : BitVec 16
  hold : BitVec 16
deriving DecidableEq, Repr

/-- A frame that arrives at a port (R253): its bytes from the destination address to the FCS, whether the FCS is right, and
an error that the frame memory finds in it (R257). -/
structure FrameIn where
  bytes : List (BitVec 8)
  fcsOk : Bool
  ce : Bool
  ue : Bool
deriving DecidableEq, Repr

/-- A received PTP message (R267), as its fields: the sender, the flags, the correction in 2⁻¹⁶ ns, the timestamp of its body,
the requesting port of a response, and the data of an Announce. -/
structure PtpMsg where
  domain : BitVec 8
  clk : BitVec 64
  port : BitVec 16
  seq : BitVec 16
  twoStep : Bool
  ptpTimescale : Bool
  utcValid : Bool
  leap61 : Bool
  leap59 : Bool
  corr : BitVec 64
  sec : BitVec 48
  ns : BitVec 32
  reqClk : BitVec 64
  reqPort : BitVec 16
  utcOff : BitVec 16
  prio1 : BitVec 8
  cls : BitVec 8
  acc : BitVec 8
  var : BitVec 16
  prio2 : BitVec 8
  gm : BitVec 64
  steps : BitVec 16
deriving DecidableEq, Repr

/-- A report entry of a beacon (R293): the peer, the sequence number of its beacon, and its arrival as seconds, nanoseconds
and fraction. -/
structure LepReport where
  peer : BitVec 64
  seq : BitVec 16
  sec : BitVec 48
  ns : BitVec 32
  frac : BitVec 16
deriving DecidableEq, Repr

/-- A received LEP frame (R291 to R293), as its fields; `extra` holds the octets after the last report. -/
structure BeaconIn where
  domain : BitVec 8
  clk : BitVec 64
  port : BitVec 16
  seq : BitVec 16
  log : BitVec 8
  version : BitVec 8
  state : BitVec 8
  mq : BitVec 8
  digest : BitVec 32
  hops : BitVec 8
  resacc : BitVec 64
  sec : BitVec 48
  ns : BitVec 32
  frac : BitVec 16
  srcid : BitVec 64
  srckind : BitVec 8
  test : BitVec 32
  ensid : BitVec 16
  reports : List LepReport
  extra : List (BitVec 8)
deriving DecidableEq, Repr

/-- What a margin read finds in its page (R357): weak cells or a codeword corrected by two or more bits, how many codewords
were corrected, and whether the page cannot be corrected. -/
structure MarginIn where
  weak : Bool
  fixed : BitVec 8
  ue : Bool
deriving DecidableEq, Repr

/-- What a calibration item measures (R366, R369): the bandgap group, one value, or the hits of each tap in the two passes on a
TDC channel. -/
inductive CalMeas where
  | bandgap (gain off temp avs5 avs6 : BitVec 16) (swing : List (BitVec 16))
  | value (v : BitVec 16)
  | tdc (pass1 pass2 : List (BitVec 24))
deriving DecidableEq, Repr

/-- A record of an uploaded recording: BEAT, a gap marker, and the status fields that its replay publishes, by key. -/
structure UpRec where
  beat : BitVec 32
  gap : Bool
  res : List (Nat × Nat)
deriving DecidableEq, Repr

/-- A recording uploaded for RSRC 2 (R408): what its checks find, and its records. -/
structure UploadIn where
  crcOk : Bool
  verOk : Bool
  hashOk : Bool
  cfgOk : Bool
  recs : List UpRec
deriving DecidableEq, Repr

/-- What one beat brings, as it ends. -/
structure BeatIn where
  /-- SYSCLK cycles of the beat, and the highest cycle that SC, QC and PC reached (R38). -/
  len : BitVec 32
  hwSc : BitVec 32
  hwQc : BitVec 32
  hwPc : BitVec 32
  /-- Errors that the scrub of the beat's line finds (R29). -/
  ecc : List EccIn
  refs : List RefIn
  /-- The B-mode reading: RTEMP and RTEMPF, or none where it is lost (R186, R187). -/
  temp : Option (BitVec 24)
  /-- The input in mV, the plate temperature and the bank voltage (R57, R59), and the smallest AVS margins of D5 and D6 in ps (R70). -/
  vin : BitVec 20
  plate : BitVec 16
  huv : BitVec 16
  margin5 : BitVec 16
  margin6 : BitVec 16
  /-- The mean-square error and the echo residual of P2 in 0.1 dB (R250). -/
  mse : BitVec 16
  echo : BitVec 16
  margin : MarginIn
  /-- Tenants whose slice work did not finish (R341). -/
  sliceDef : BitVec 4
  /-- Press (R397 to R399): the RESCRC of the beat's results, the state blocks of a checkpoint, and whether an uploaded
  recording diverges in this beat (R409). -/
  rescrc : BitVec 32
  ckpt : List (BitVec 8)
  diverged : Bool
deriving DecidableEq, Repr

/-- The commands, in the order of spec/opcode_table.json, those without operands last. -/
inductive Instr where
  /-- POWER_UP (R83). -/
  | powerUp (p : PowerIn)
  /-- BOOT_END (R83). -/
  | bootEnd (huvMs huv : BitVec 16)
  /-- SUPPLY_LOW (R56). -/
  | supplyLow (dt : Dt)
  /-- SUPPLY_OV (R56). -/
  | supplyOv (dt : Dt)
  /-- OVERVOLTAGE_TIMEOUT (R56). -/
  | overvoltageTimeout (dt : Dt)
  /-- POWER_FAIL (R61). -/
  | powerFail (dt : Dt)
  /-- POWER_FAIL_STORE_DONE (R61). -/
  | powerFailStoreDone (inputGood : Bool)
  /-- RESTART_AFTER_SHUTDOWN (R62). -/
  | restartAfterShutdown (p : PowerIn)
  /-- HOLDUP_TEST_END (R60). -/
  | holdupTestEnd (drop : BitVec 16) (dt : Dt)
  /-- DOMAIN_FAIL (R69). -/
  | domainFail (d : Fin 14) (dt : Dt)
  /-- DOMAIN_POWER_GOOD_RETURN (R69). -/
  | domainPowerGoodReturn (d : Fin 14)
  /-- DOMAIN_TURN_ON_DONE (R65). -/
  | domainTurnOnDone (d : Fin 14)
  /-- AVS_STEP (R70). -/
  | avsStep (l : Fin 2) (margin : BitVec 16)
  /-- AVS_FAST_RAISE (R70). -/
  | avsFastRaise (l : Fin 2) (margin : BitVec 16)
  /-- AVS_LIMIT (R70). -/
  | avsLimit (l : Fin 2) (dt : Dt)
  /-- AUX_LOW (R52). -/
  | auxLow (cycle : Bool) (dt : Dt)
  /-- BEAT_STROBE (R15). -/
  | beatStrobe (b : BeatIn)
  /-- BEAT_OVERRUN (R21). -/
  | beatOverrun (e : Fin 3) (dt : Dt)
  /-- DEFERRABLE_ABANDON (R21). -/
  | deferrableAbandon (item : Fin 3)
  /-- MAILBOX_CHANGEOVER (R26). -/
  | mailboxChangeover (e : Fin 3)
  /-- CACHE_GETS (R31). -/
  | cacheGets (e : Fin 3) (line : BitVec 15) (ecc : List EccIn := []) (dt : Dt := 0)
  /-- CACHE_GETM (R31). -/
  | cacheGetm (e : Fin 3) (line : BitVec 15) (idx : Fin 8) (data : BitVec 64) (rivals : BitVec 3) (ecc : List EccIn := []) (dt : Dt := 0)
  /-- CACHE_EVICT (R31). -/
  | cacheEvict (e : Fin 3) (line : BitVec 15)
  /-- HB_LINE_READ (R32). -/
  | hbLineRead (line : BitVec 15) (req : Option LineReq := none) (ecc : List EccIn := []) (dt : Dt := 0)
  /-- HB_LINE_WRITE (R32). -/
  | hbLineWrite (line : BitVec 15) (idx : Fin 8) (data : BitVec 64) (req : Option LineReq := none) (ecc : List EccIn := []) (dt : Dt := 0)
  /-- OWNERSHIP_CLAIM_RETRY (R33). -/
  | ownershipClaimRetry (line : BitVec 15) (idx : Fin 8) (data : BitVec 64)
  /-- UCODE_PARITY (R37). -/
  | ucodeParity (e : Fin 3) (dt : Dt)
  /-- UCODE_RELOAD_DONE (R37). -/
  | ucodeReloadDone (e : Fin 3) (dt : Dt)
  /-- MODE_REQ_INVALID (R74). -/
  | modeReqInvalid (four : Bool)
  /-- COLD_RESET (R91). -/
  | coldReset (heldMs : BitVec 16)
  /-- COLD_RESET_STORE_DONE (R91). -/
  | coldResetStoreDone (inputGood : Bool) (p : PowerIn)
  /-- RESET_STUCK (R92). -/
  | resetStuck (dt : Dt)
  /-- WDATA_READ (R99). -/
  | wdataRead (ext : BitVec 16) (ecc : List EccIn) (dt : Dt)
  /-- WDATA_WRITE (R109). -/
  | wdataWrite (w : Word) (ext : BitVec 16) (dt : Dt)
  /-- RC_FIELD_READ (R6). -/
  | rcFieldRead (sp : BitVec 5) (addr : BitVec 24) (dt : Dt)
  /-- REGISTER_WRITE (R118). -/
  | registerWrite (addr : BitVec 7) (w : Word) (dt : Dt)
  /-- BUS_PROTOCOL (R100). -/
  | busProtocol (dt : Dt)
  /-- HOST_ACCESS_ABANDON (R101). -/
  | hostAccessAbandon (ext : BitVec 16)
  /-- BUS_TIMEOUT (R102). -/
  | busTimeout (read : Bool) (ext : BitVec 16) (dt : Dt)
  /-- TIME_LATCH (R229). -/
  | timeLatch (dt : Dt)
  /-- CMD_STORE (R125). -/
  | cmdStore (arg : BitVec 4)
  /-- CMD_COMMIT (R353). -/
  | cmdCommit (arg : BitVec 4)
  /-- CMD_ABORT_TXN (R125). -/
  | cmdAbortTxn (arg : BitVec 4)
  /-- CMD_BEGIN_TXN (R352). -/
  | cmdBeginTxn (arg : BitVec 4)
  /-- CMD_CAL_ALL (R368). -/
  | cmdCalAll (arg : BitVec 4)
  /-- CMD_CAL_TDC (R368). -/
  | cmdCalTdc (arg : BitVec 4)
  /-- CMD_CAL_THRESH (R368). -/
  | cmdCalThresh (arg : BitVec 4)
  /-- CMD_CAL_SKEW (R368). -/
  | cmdCalSkew (arg : BitVec 4)
  /-- CMD_PRESS_SNAP (R402). -/
  | cmdPressSnap (arg : BitVec 4)
  /-- CMD_GRAFT_NOW (R159). -/
  | cmdGraftNow (arg : BitVec 4)
  /-- CMD_REQUALIFY (R155). -/
  | cmdRequalify (arg : BitVec 4)
  /-- CMD_ACCEPT_JUMP (R183). -/
  | cmdAcceptJump (arg : BitVec 4)
  /-- CMD_LEARN_RESET (R194). -/
  | cmdLearnReset (arg : BitVec 4)
  /-- CMD_WIPE_TENANT (R333). -/
  | cmdWipeTenant (arg : BitVec 4)
  /-- WIPE_DONE (R333). -/
  | wipeDone (k : Fin 4)
  /-- CMD_LOCK_SERVICE (R415). -/
  | cmdLockService (arg : BitVec 4)
  /-- CMD_UNKNOWN_CODE (R125). -/
  | cmdUnknownCode (code : BitVec 8) (arg : BitVec 4)
  /-- RIN_INDETERMINATE (R150). -/
  | rinIndeterminate (n : Fin 4)
  /-- THRESHOLD_SETTLED (R148). -/
  | thresholdSettled (n : Fin 4)
  /-- RIN_TRANSITIONS_COUNTED (R151). -/
  | rinTransitionsCounted (n : Fin 4)
  /-- RIN_MIDBAND (R152). -/
  | rinMidband (n : Fin 4) (dt : Dt)
  /-- REF_ENABLE (R155). -/
  | refEnable (n : Fin 10)
  /-- REF_DISABLE (R155). -/
  | refDisable (n : Fin 10)
  /-- REF_QUALIFY (R155). -/
  | refQualify (n : Fin 10)
  /-- REF_FAIL (R155). -/
  | refFail (n : Fin 10)
  /-- REF_SUSPECT_CLEAR (R155). -/
  | refSuspectClear (n : Fin 10)
  /-- REF_FAILHOLD_END (R155). -/
  | refFailholdEnd (n : Fin 10)
  /-- REF_SOURCE_ABSENT (R155). -/
  | refSourceAbsent (n : Fin 10)
  /-- WTR_EXPIRY (R158). -/
  | wtrExpiry (n : Fin 10)
  /-- NMEA_SENTENCE (R162). -/
  | nmeaSentence (text : List (BitVec 8)) (dt : Dt)
  /-- UART_OVERFLOW (R160). -/
  | uartOverflow (bytes : List (BitVec 8))
  /-- JUMP_REFUSED (R180). -/
  | jumpRefused (n : Fin 10)
  /-- THERMO_LOST (R187). -/
  | thermoLost (dt : Dt)
  /-- OSC_FAIL (R187). -/
  | oscFail (dt : Dt)
  /-- SYNA_UNLOCK (R209). -/
  | synaUnlock (dt : Dt)
  /-- SYNB_UNLOCK (R224). -/
  | synbUnlock (dt : Dt)
  /-- SYNB_RANGE (R207). -/
  | synbRange (dt : Dt)
  /-- CK_UNLOCK (R224). -/
  | ckUnlock (n : Fin 8) (dt : Dt)
  /-- RAMP_CLAMP (R220). -/
  | rampClamp (dt : Dt)
  /-- FREQSET_COMMIT (R216). -/
  | freqsetCommit (n : Fin 8) (v : BitVec 112)
  /-- RANGE_CHANGE_RESUME (R216). -/
  | rangeChangeResume (n : Fin 8)
  /-- CHANNEL_ENABLE (R214). -/
  | channelEnable (n : Fin 8) (dt : Dt)
  /-- CHANNEL_FIRST_EDGE (R214). -/
  | channelFirstEdge (n : Fin 8)
  /-- CHANNEL_DISABLE (R215). -/
  | channelDisable (n : Fin 8)
  /-- SRC_COMMIT (R211). -/
  | srcCommit (n : Fin 8) (a : Bool)
  /-- FMT_CHANGE (R212). -/
  | fmtChange (n : Fin 8) (fmt : BitVec 2)
  /-- PIP_ARM (R233). -/
  | pipArm (n : Fin 16)
  /-- PIP_DISARM (R236). -/
  | pipDisarm (n : Fin 16)
  /-- PIP_EDGE (R234). -/
  | pipEdge (n : Fin 16) (late : BitVec 20 := 0)
  /-- PIP_PULSE_END (R234). -/
  | pipPulseEnd (n : Fin 16)
  /-- CAPTURE_EDGE (R239). -/
  | captureEdge (n : Fin 16) (fall : Bool) (dt : Dt) (sub : BitVec 17) (hold : BitVec 16 := 0xFFFF)
  /-- CAPTURE_HEAD_READ (R240). -/
  | captureHeadRead (n : Fin 16) (k : Fin 5) (dt : Dt := 0)
  /-- TIO_CONFIG (R241). -/
  | tioConfig (n : Fin 16) (w : Word)
  /-- TIO_SHORT (R394). -/
  | tioShort (n : Fin 16) (dt : Dt)
  /-- SFP_INSERT (R247). -/
  | sfpInsert (n : Fin 2) (a0 a2 : List (BitVec 8)) (dt : Dt)
  /-- SFP_REMOVE (R247). -/
  | sfpRemove (n : Fin 2) (inTx : Bool) (dt : Dt)
  /-- SFP_TXFAULT (R247). -/
  | sfpTxfault (n : Fin 2) (dt : Dt)
  /-- SFP_DIAG_READ (R249). -/
  | sfpDiagRead (n : Fin 2) (a2 : List (BitVec 8)) (dt : Dt)
  /-- DIAGNOW (R249). -/
  | diagnow (n : Fin 2)
  /-- LINK_UP (R261). -/
  | linkUp (n : Fin 4)
  /-- LINK_DOWN (R261). -/
  | linkDown (n : Fin 4) (inTx cut : Bool) (dt : Dt)
  /-- PORT_DISABLE (R261). -/
  | portDisable (n : Fin 4)
  /-- CMHOLD_START (R250). -/
  | cmholdStart (volts : BitVec 16)
  /-- T1L_RETRAIN (R250). -/
  | t1lRetrain (inTx : Bool) (dt : Dt)
  /-- PHY_FAIL (R263). -/
  | phyFail (n : Fin 4) (inTx : Bool) (dt : Dt)
  /-- FRAME_RECEIVE (R253). -/
  | frameReceive (n : Fin 4) (f : FrameIn) (dt : Dt)
  /-- FRAME_TRANSMIT_START (R256). -/
  | frameTransmitStart (n : Fin 4)
  /-- ADDRESS_AGE_OUT (R255). -/
  | addressAgeOut (mac : BitVec 48) (v : Fin 64)
  /-- FLUSH_ADDRESSES (R264). -/
  | flushAddresses (mask : BitVec 4)
  /-- VLAN_COMMIT (R328). -/
  | vlanCommit (v : Fin 64) (w : BitVec 64)
  /-- PTP_SYNC_RX (R274). -/
  | ptpSyncRx (n : Fin 4) (m : PtpMsg) (dt : Dt) (sub : BitVec 17)
  /-- PTP_FOLLOW_UP_RX (R274). -/
  | ptpFollowUpRx (n : Fin 4) (m : PtpMsg)
  /-- PTP_DELAY_REQ_RX (R280). -/
  | ptpDelayReqRx (n : Fin 4) (m : PtpMsg) (dt : Dt) (sub : BitVec 17)
  /-- PTP_DELAY_RESP_RX (R274). -/
  | ptpDelayRespRx (n : Fin 4) (m : PtpMsg)
  /-- PTP_PDELAY_REQ_RX (R280). -/
  | ptpPdelayReqRx (n : Fin 4) (m : PtpMsg) (dt : Dt) (sub : BitVec 17) (turn : BitVec 48) (twoTags : Bool)
  /-- PTP_PDELAY_RESP_RX (R274). -/
  | ptpPdelayRespRx (n : Fin 4) (m : PtpMsg) (dt : Dt) (sub : BitVec 17)
  /-- PTP_PDELAY_RESP_FUP_RX (R274). -/
  | ptpPdelayRespFupRx (n : Fin 4) (m : PtpMsg)
  /-- PTP_ANNOUNCE_RX (R272). -/
  | ptpAnnounceRx (n : Fin 4) (m : PtpMsg)
  /-- PTP_MANAGEMENT_RX (R267). -/
  | ptpManagementRx (n : Fin 4) (f : FrameIn)
  /-- PTP_UNSUPPORTED_RX (R267). -/
  | ptpUnsupportedRx (n : Fin 4)
  /-- PTP_SYNC_TX (R273). -/
  | ptpSyncTx (n : Fin 4) (dt : Dt) (sub : BitVec 17) (twoTags : Bool)
  /-- PTP_ANNOUNCE_TX (R273). -/
  | ptpAnnounceTx (n : Fin 4)
  /-- PTP_DELAY_REQ_TX (R274). -/
  | ptpDelayReqTx (n : Fin 4) (dt : Dt) (sub : BitVec 17)
  /-- TC_FORWARD (R278). -/
  | tcForward (n e : Fin 4) (msg : List (BitVec 8)) (resid : BitVec 48)
  /-- TC_FOLLOW_UP_TIMEOUT (R279). -/
  | tcFollowUpTimeout (e : Fin 4)
  /-- FOLLOW_UP_HOLD_EXPIRE (R288). -/
  | followUpHoldExpire (n : Fin 4)
  /-- ANNOUNCE_RECEIPT_TIMEOUT (R276). -/
  | announceReceiptTimeout (n : Fin 4)
  /-- PORT_SLAVE (R271). -/
  | portSlave (n : Fin 4)
  /-- PTP_OVERLOAD (R282). -/
  | ptpOverload (dt : Dt)
  /-- ESMC_INFO_TX (R285). -/
  | esmcInfoTx (n : Fin 2)
  /-- ESMC_EVENT_TX (R285). -/
  | esmcEventTx (n : Fin 2)
  /-- ESMC_RX (R285). -/
  | esmcRx (n : Fin 2) (ql : BitVec 4)
  /-- ESMC_TIMEOUT (R285). -/
  | esmcTimeout (n : Fin 2)
  /-- LEP_BEACON_TX (R294). -/
  | lepBeaconTx (dt : Dt) (sub : BitVec 17)
  /-- LEP_LEAVE_TX (R294). -/
  | lepLeaveTx (dt : Dt) (sub : BitVec 17)
  /-- LEP_BEACON_RX (R298). -/
  | lepBeaconRx (n : Fin 2) (b : BeaconIn) (resid : BitVec 48) (dt : Dt) (sub : BitVec 17)
  /-- LEP_LEAVE_RX (R298). -/
  | lepLeaveRx (n : Fin 2) (b : BeaconIn) (resid : BitVec 48) (dt : Dt)
  /-- PEER_QUALIFY (R298). -/
  | peerQualify (k : Fin 16)
  /-- PEER_STALE (R298). -/
  | peerStale (k : Fin 16)
  /-- PEER_LOST (R298). -/
  | peerLost (k : Fin 16)
  /-- PEER_FREE (R298). -/
  | peerFree (k : Fin 16)
  /-- BRAMBLE_EVENT (R312). -/
  | brambleEvent (prods : BitVec 48) (cyc : BitVec 19) (dt : Dt)
  /-- BRAMBLE_FIRE (R317). -/
  | brambleFire (k : Fin 5) (chan : Fin 32) (cyc : BitVec 19) (dt : Dt)
  /-- BRAMBLE_FIFO_HEAD_READ (R320). -/
  | brambleFifoHeadRead (k : Fin 5)
  /-- TIO_PULSE_END (R321). -/
  | tioPulseEnd (n : Fin 16)
  /-- ALARMOK_CLEAR (R319). -/
  | alarmokClear (k : Fin 4)
  /-- TL_FRAME_START (R337). -/
  | tlFrameStart (k : Fin 5)
  /-- TL_READ (R336). -/
  | tlRead (k : Fin 5) (bytes : List (BitVec 8)) (dt : Dt) (ecc : List EccIn := [])
  /-- TL_WRITE (R336). -/
  | tlWrite (k : Fin 5) (bytes : List (BitVec 8)) (dt : Dt)
  /-- TL_NOP (R335). -/
  | tlNop (k : Fin 5) (bytes : List (BitVec 8)) (dt : Dt)
  /-- TL_FRAME_DISCARD (R336). -/
  | tlFrameDiscard (k : Fin 5) (bytes : List (BitVec 8)) (extra : Fin 8) (dt : Dt)
  /-- TL_RESPONSE_PUSH (R337). -/
  | tlResponsePush (k : Fin 5)
  /-- TNEN_CHANGE (R334). -/
  | tnenChange (v : BitVec 4)
  /-- TL_TXN_BEGIN (R352). -/
  | tlTxnBegin (k : Fin 4)
  /-- TL_TXN_COMMIT (R354). -/
  | tlTxnCommit (k : Fin 4)
  /-- TL_TXN_ABORT (R365). -/
  | tlTxnAbort (k : Fin 4)
  /-- TXNSTAT_REPORT (R354). -/
  | txnstatReport (k : Fin 4)
  /-- LOGPUSH (R365). -/
  | logpush (k : Fin 4) (w : Word)
  /-- STORE_VERIFY_FAIL (R351). -/
  | storeVerifyFail (dt : Dt)
  /-- COMMIT_DONE (R353). -/
  | commitDone (k : Fin 5) (ok : Bool) (dt : Dt)
  /-- TALLY_INCREMENT (R359). -/
  | tallyIncrement (worn : Bool) (dt : Dt)
  /-- TALLYINC (R360). -/
  | tallyinc (n : BitVec 5)
  /-- CAL_ITEM_END (R372). -/
  | calItemEnd (m : CalMeas)
  /-- CAL_HOST_WRITE (R378). -/
  | calHostWrite (addr : BitVec 12) (v : BitVec 2048)
  /-- FAULT_RECOVER (R388). -/
  | faultRecover (b : Fin 14) (c : Fin 16)
  /-- FAULT_ACK (R389). -/
  | faultAck (w : Word)
  /-- FAULT_ACK_CLASS (R389). -/
  | faultAckClass (b : Fin 14) (w : Word)
  /-- FAULT_FORCE (R393). -/
  | faultForce (b : Fin 14) (w : Word) (dt : Dt)
  /-- RETURN_TO_SERVICE (R390). -/
  | returnToService (b : Fin 14) (c : Fin 16)
  /-- QUIET_WRITE (R395). -/
  | quietWrite (b : Fin 14) (v : BitVec 32)
  /-- SNAPSHOT_DONE (R404). -/
  | snapshotDone (ok : Bool)
  /-- SLOTFREE (R405). -/
  | slotfree (n : Fin 2)
  /-- SLOW_RECORD_ENTRY (R407). -/
  | slowRecordEntry (ok : Bool)
  /-- REPLAY_CHECK (R408). -/
  | replayCheck (u : UploadIn)
  /-- SUBMITPW (R421). -/
  | submitpw (svc : Bool) (dt : Dt)
  /-- SUBMITRSP (R421). -/
  | submitrsp (svc : Bool) (dt : Dt)
  /-- CHALREQ (R419). -/
  | chalreq (svc : Bool) (dt : Dt)
  /-- RELOCK (R415). -/
  | relock (svc : Bool) (dt : Dt)
  /-- SETPW (R417). -/
  | setpw (dt : Dt)
  /-- PWCLEAR (R415). -/
  | pwclear (svc : Bool) (dt : Dt)
  /-- MICROCODE_UPDATE (R425). -/
  | microcodeUpdate (w : Word)
  /-- MICROCODE_UPDATE_DONE (R425). -/
  | microcodeUpdateDone (ok : Bool)
  /-- CK_RELOCK (R224). -/
  | ckRelock (n : Fin 8)
  /-- SFP_TXFAULT_CLEAR (R247). -/
  | sfpTxfaultClear (n : Fin 2)
  /-- PHY_MANAGEMENT_RETURN (R263). -/
  | phyManagementReturn (n : Fin 4)
  /-- TIO_SHORT_END (R394). -/
  | tioShortEnd (n : Fin 16)
  /-- RIN_LEVEL_CHANGE (R151). -/
  | rinLevelChange (n : Fin 4) (level : Fin 3) (hold : BitVec 16)
  /-- RANGE_CHANGE_HOLD (R216). -/
  | rangeChangeHold (n : Fin 8) (dt : Dt)
  /-- START_ABANDONED (R56). -/
  | startAbandoned
  /-- AUTORUN (R82). -/
  | autorun
  /-- HOLDUP_TEST (R60). -/
  | holdupTest
  /-- HUTEST (R73). -/
  | hutest
  /-- POWREQ_APPLY (R141). -/
  | powreqApply
  /-- AUX_RESTORE (R52). -/
  | auxRestore
  /-- TIME_STEP (R16). -/
  | timeStep
  /-- ENGINE_RESUME (R27). -/
  | engineResume
  /-- MODE_REQ_PROVISION (R74). -/
  | modeReqProvision
  /-- MODE_REQ_RUN (R74). -/
  | modeReqRun
  /-- MODE_REQ_HOLD (R75). -/
  | modeReqHold
  /-- MODE_REQ_DORMANT (R79). -/
  | modeReqDormant
  /-- MODE_REQ_REPLAY (R408). -/
  | modeReqReplay
  /-- MODE_REQ_SAFE (R74). -/
  | modeReqSafe
  /-- MODE_EVALUATION (R76). -/
  | modeEvaluation
  /-- PEERS_RISE (R77). -/
  | peersRise
  /-- PEERS_FALL (R77). -/
  | peersFall
  /-- WARM_RESET (R90). -/
  | warmReset
  /-- RESET_PIN_RECOVER (R92). -/
  | resetPinRecover
  /-- WINDOW_DROP (R128). -/
  | windowDrop
  /-- STAGED_WRITE_APPLY (R111). -/
  | stagedWriteApply
  /-- TIME_RELEASE (R133). -/
  | timeRelease
  /-- GNSS_TOD_TIMEOUT (R163). -/
  | gnssTodTimeout
  /-- GNSS_TX (R164). -/
  | gnssTx
  /-- GRAFT_START (R168). -/
  | graftStart
  /-- GRAFT_COMPLETE (R168). -/
  | graftComplete
  /-- SERVO_LOCK (R173). -/
  | servoLock
  /-- SERVO_UNLOCK (R173). -/
  | servoUnlock
  /-- BANDWIDTH_UPDATE (R175). -/
  | bandwidthUpdate
  /-- SERVO_LIMIT (R177). -/
  | servoLimit
  /-- SLEW_END (R178). -/
  | slewEnd
  /-- MODEL_FIT_UPDATE (R191). -/
  | modelFitUpdate
  /-- TAUFIT_ADJUST (R192). -/
  | taufitAdjust
  /-- MODEL_DIVERGE (R192). -/
  | modelDiverge
  /-- MQ_UPDATE (R197). -/
  | mqUpdate
  /-- MODEL_COPY (R196). -/
  | modelCopy
  /-- HOLD_BOUND (R199). -/
  | holdBound
  /-- WAKE_WINDOW_START (R200). -/
  | wakeWindowStart
  /-- WAKE_WINDOW_END (R202). -/
  | wakeWindowEnd
  /-- RAMP_LOAD (R223). -/
  | rampLoad
  /-- RAMP_ENABLE (R223). -/
  | rampEnable
  /-- RAMP_DISABLE (R223). -/
  | rampDisable
  /-- RAMP_STOP (R223). -/
  | rampStop
  /-- LEAP_SECOND (R231). -/
  | leapSecond
  /-- CMHOLD_END (R250). -/
  | cmholdEnd
  /-- OVERLOAD_CLEAR (R282). -/
  | overloadClear
  /-- ENS_SAMPLE (R306). -/
  | ensSample
  /-- ALLOCATION_APPLY (R331). -/
  | allocationApply
  /-- SCHEDULED_STORE (R350). -/
  | scheduledStore
  /-- STORE_DONE (R349). -/
  | storeDone
  /-- RESUMED_STORE_SEAL (R356). -/
  | resumedStoreSeal
  /-- SCHEDULED_CAL (R370). -/
  | scheduledCal
  /-- CAL_RUN_END (R372). -/
  | calRunEnd
  /-- FACLOAD (R379). -/
  | facload
  /-- SNAPSHOT_TRIGGER (R402). -/
  | snapshotTrigger
  /-- SNAPSHOT_COPY_START (R404). -/
  | snapshotCopyStart
  /-- REPLAY_SPAN_END (R409). -/
  | replaySpanEnd
  /-- VERDICT (R421). -/
  | verdict
  /-- CHALLENGE_EXPIRE (R419). -/
  | challengeExpire
  /-- BACKOFF_EXPIRE (R422). -/
  | backoffExpire
  /-- RELOCK_TIMEOUT (R415). -/
  | relockTimeout
  /-- SVC_SESSION_TIMEOUT (R416). -/
  | svcSessionTimeout
  /-- UPLOAD_ENABLE (R424). -/
  | uploadEnable
  /-- UPLOAD_DISABLE (R424). -/
  | uploadDisable
  /-- FLOOR_RAISE (R426). -/
  | floorRaise
  /-- FLOOR_RAISE_DONE (R426). -/
  | floorRaiseDone
  /-- INPUT_IN_RANGE (R56). -/
  | inputInRange
  /-- SYNB_RELOCK (R224). -/
  | synbRelock
  /-- C_MODE_RETURN (R187). -/
  | cModeReturn
  /-- BACKUP_CAPACITOR_EXHAUSTED (R64). -/
  | backupCapacitorExhausted
deriving DecidableEq, Repr

end Sys2Proof
end

