-- ==== Sys2Proof/Machine/FaultTable.lean ====
section
/-! DEFINITION. The fault sources of R394: every class with its block, its bit, its default level, its ceiling and its
kind, as the table of R394 gives them. -/
namespace Sys2Proof.Machine

/-- A fault class of R394. -/
inductive FC where
  /-- SUPPLY bit 0 (R56). -/
  | supplyLow
  /-- SUPPLY bit 1 (R56). -/
  | supplyOv
  /-- SUPPLY bit 2 (R61). -/
  | powerFail
  /-- SUPPLY bit 3 (R60). -/
  | holdupWeak
  /-- SUPPLY bit 4 (R69). -/
  | domainFail
  /-- SUPPLY bit 5 (R70). -/
  | avsLimit
  /-- SUPPLY bit 6 (R52). -/
  | auxLow
  /-- SUPPLY bit 7 (R64). -/
  | rtcLost
  /-- SUPPLY bit 8 (R92). -/
  | resetStuck
  /-- CLOCK bit 0 (R187). -/
  | thermoLost
  /-- CLOCK bit 1 (R187). -/
  | oscFail
  /-- CLOCK bit 2 (R209). -/
  | synaUnlock
  /-- CLOCK bit 3 (R224). -/
  | synbUnlock
  /-- CLOCK bit 4 (R207). -/
  | synbRange
  /-- CLOCK bit 5 (R224). -/
  | ckUnlock
  /-- CLOCK bit 6 (R220). -/
  | rampClamp
  /-- MEAS bit 0 (R380). -/
  | calReject
  /-- MEAS bit 1 (R380). -/
  | tdcFail
  /-- REF bit 0 (R152). -/
  | rinMidband
  /-- REF bit 1 (R155). -/
  | refFailed
  /-- REF bit 2 (R163). -/
  | gnssTod
  /-- SERVO bit 0 (R171). -/
  | graftWide
  /-- SERVO bit 1 (R181). -/
  | jumpRefused
  /-- SERVO bit 2 (R177). -/
  | servoLimit
  /-- SERVO bit 3 (R192). -/
  | modelDiverge
  /-- SERVO bit 4 (R199). -/
  | holdBound
  /-- TIME bit 0 (R228). -/
  | teStep
  /-- TIME bit 1 (R394). -/
  | tioShort
  /-- ENGINE bit 0 (R21). -/
  | beatOverrun
  /-- ENGINE bit 1 (R29). -/
  | orchardCe
  /-- ENGINE bit 2 (R29). -/
  | orchardUe
  /-- ENGINE bit 3 (R36). -/
  | ucodeAuth
  /-- ENGINE bit 4 (R37). -/
  | ucodeParity
  /-- PORT bit 0 (R261). -/
  | linkDown
  /-- PORT bit 1 (R247). -/
  | sfpUnsupported
  /-- PORT bit 2 (R247). -/
  | sfpTxfault
  /-- PORT bit 3 (R249). -/
  | sfpAlarm
  /-- PORT bit 4 (R250). -/
  | t1lRetrain
  /-- PORT bit 5 (R263). -/
  | phyFail
  /-- PORT bit 6 (R257). -/
  | fmemUe
  /-- PTP bit 0 (R282). -/
  | ptpOverload
  /-- ENS bit 0 (R303). -/
  | peerSplit
  /-- ENS bit 1 (R306). -/
  | ensWide
  /-- ENS bit 2 (R299). -/
  | lepVersion
  /-- ENS bit 3 (R300). -/
  | peerTableFull
  /-- ENS bit 4 (R309). -/
  | digestMismatch
  /-- BRAMBLE bit 0 (R320). -/
  | bramOvf
  /-- LINK bit 0 (R100). -/
  | busProtocol
  /-- LINK bit 1 (R102). -/
  | busTimeout
  /-- LINK bit 2 (R342). -/
  | tlErrburst
  /-- LINK bit 3 (R422). -/
  | unlockBackoff
  /-- STONE bit 0 (R357). -/
  | stoneWeak
  /-- STONE bit 1 (R356). -/
  | stoneRollback
  /-- STONE bit 2 (R358). -/
  | stoneUe
  /-- STONE bit 3 (R356). -/
  | stoneRecallOld
  /-- STONE bit 4 (R356). -/
  | stoneEmpty
  /-- STONE bit 5 (R359). -/
  | tallyWear
  /-- STONE bit 6 (R351). -/
  | stoneProg
  /-- PRESS bit 0 (R397). -/
  | pressGap
  /-- PRESS bit 1 (R406). -/
  | pressSnapFail
deriving DecidableEq, Repr

/-- The block of a class, in the order of R136. -/
def FC.blk : FC → Nat
  | .supplyLow => 0
  | .supplyOv => 0
  | .powerFail => 0
  | .holdupWeak => 0
  | .domainFail => 0
  | .avsLimit => 0
  | .auxLow => 0
  | .rtcLost => 0
  | .resetStuck => 0
  | .thermoLost => 1
  | .oscFail => 1
  | .synaUnlock => 1
  | .synbUnlock => 1
  | .synbRange => 1
  | .ckUnlock => 1
  | .rampClamp => 1
  | .calReject => 2
  | .tdcFail => 2
  | .rinMidband => 3
  | .refFailed => 3
  | .gnssTod => 3
  | .graftWide => 4
  | .jumpRefused => 4
  | .servoLimit => 4
  | .modelDiverge => 4
  | .holdBound => 4
  | .teStep => 5
  | .tioShort => 5
  | .beatOverrun => 6
  | .orchardCe => 6
  | .orchardUe => 6
  | .ucodeAuth => 6
  | .ucodeParity => 6
  | .linkDown => 7
  | .sfpUnsupported => 7
  | .sfpTxfault => 7
  | .sfpAlarm => 7
  | .t1lRetrain => 7
  | .phyFail => 7
  | .fmemUe => 7
  | .ptpOverload => 8
  | .peerSplit => 9
  | .ensWide => 9
  | .lepVersion => 9
  | .peerTableFull => 9
  | .digestMismatch => 9
  | .bramOvf => 10
  | .busProtocol => 11
  | .busTimeout => 11
  | .tlErrburst => 11
  | .unlockBackoff => 11
  | .stoneWeak => 12
  | .stoneRollback => 12
  | .stoneUe => 12
  | .stoneRecallOld => 12
  | .stoneEmpty => 12
  | .tallyWear => 12
  | .stoneProg => 12
  | .pressGap => 13
  | .pressSnapFail => 13

/-- The class code of a class within its block: its force, live, IRQEN and ACK bit (R394). -/
def FC.bit : FC → Nat
  | .supplyLow => 0
  | .supplyOv => 1
  | .powerFail => 2
  | .holdupWeak => 3
  | .domainFail => 4
  | .avsLimit => 5
  | .auxLow => 6
  | .rtcLost => 7
  | .resetStuck => 8
  | .thermoLost => 0
  | .oscFail => 1
  | .synaUnlock => 2
  | .synbUnlock => 3
  | .synbRange => 4
  | .ckUnlock => 5
  | .rampClamp => 6
  | .calReject => 0
  | .tdcFail => 1
  | .rinMidband => 0
  | .refFailed => 1
  | .gnssTod => 2
  | .graftWide => 0
  | .jumpRefused => 1
  | .servoLimit => 2
  | .modelDiverge => 3
  | .holdBound => 4
  | .teStep => 0
  | .tioShort => 1
  | .beatOverrun => 0
  | .orchardCe => 1
  | .orchardUe => 2
  | .ucodeAuth => 3
  | .ucodeParity => 4
  | .linkDown => 0
  | .sfpUnsupported => 1
  | .sfpTxfault => 2
  | .sfpAlarm => 3
  | .t1lRetrain => 4
  | .phyFail => 5
  | .fmemUe => 6
  | .ptpOverload => 0
  | .peerSplit => 0
  | .ensWide => 1
  | .lepVersion => 2
  | .peerTableFull => 3
  | .digestMismatch => 4
  | .bramOvf => 0
  | .busProtocol => 0
  | .busTimeout => 1
  | .tlErrburst => 2
  | .unlockBackoff => 3
  | .stoneWeak => 0
  | .stoneRollback => 1
  | .stoneUe => 2
  | .stoneRecallOld => 3
  | .stoneEmpty => 4
  | .tallyWear => 5
  | .stoneProg => 6
  | .pressGap => 0
  | .pressSnapFail => 1

/-- The default level of a class for the instance an occurrence names (R394): DOMAIN_FAIL by domain (R69), ORCHARD_UE by
the line's region (R29: lines below 20,480 hold the Press ring and the packet buffers), UCODE_AUTH by engine (R36). -/
def FC.dflt (c : FC) (d : Nat) : Nat :=
  match c with
  | .supplyLow => 0
  | .supplyOv => 1
  | .powerFail => 1
  | .holdupWeak => 1
  | .domainFail => if d = 2 ∨ (6 ≤ d ∧ d ≤ 11) then 2 else 3
  | .avsLimit => 1
  | .auxLow => 0
  | .rtcLost => 0
  | .resetStuck => 1
  | .thermoLost => 1
  | .oscFail => 3
  | .synaUnlock => 3
  | .synbUnlock => 3
  | .synbRange => 1
  | .ckUnlock => 2
  | .rampClamp => 0
  | .calReject => 0
  | .tdcFail => 2
  | .rinMidband => 0
  | .refFailed => 0
  | .gnssTod => 1
  | .graftWide => 0
  | .jumpRefused => 0
  | .servoLimit => 1
  | .modelDiverge => 1
  | .holdBound => 1
  | .teStep => 0
  | .tioShort => 2
  | .beatOverrun => 1
  | .orchardCe => 0
  | .orchardUe => if d < 20480 then 1 else 3
  | .ucodeAuth => if d = 3 then 2 else 3
  | .ucodeParity => 1
  | .linkDown => 0
  | .sfpUnsupported => 1
  | .sfpTxfault => 2
  | .sfpAlarm => 0
  | .t1lRetrain => 0
  | .phyFail => 2
  | .fmemUe => 1
  | .ptpOverload => 1
  | .peerSplit => 1
  | .ensWide => 0
  | .lepVersion => 0
  | .peerTableFull => 0
  | .digestMismatch => 0
  | .bramOvf => 0
  | .busProtocol => 0
  | .busTimeout => 1
  | .tlErrburst => 0
  | .unlockBackoff => 0
  | .stoneWeak => 0
  | .stoneRollback => 0
  | .stoneUe => 1
  | .stoneRecallOld => 1
  | .stoneEmpty => 1
  | .tallyWear => 1
  | .stoneProg => 2
  | .pressGap => 0
  | .pressSnapFail => 1

/-- The ceiling of a class for the instance an occurrence names; 'As default' is the default level of the same instance. -/
def FC.ceil (c : FC) (d : Nat) : Nat :=
  match c with
  | .supplyLow => 0
  | .supplyOv => 1
  | .powerFail => 1
  | .holdupWeak => 1
  | .domainFail => if d = 2 ∨ (6 ≤ d ∧ d ≤ 11) then 2 else 3
  | .avsLimit => 1
  | .auxLow => 0
  | .rtcLost => 0
  | .resetStuck => 1
  | .thermoLost => 1
  | .oscFail => 3
  | .synaUnlock => 3
  | .synbUnlock => 3
  | .synbRange => 1
  | .ckUnlock => 2
  | .rampClamp => 0
  | .calReject => 1
  | .tdcFail => 2
  | .rinMidband => 0
  | .refFailed => 0
  | .gnssTod => 1
  | .graftWide => 0
  | .jumpRefused => 0
  | .servoLimit => 1
  | .modelDiverge => 1
  | .holdBound => 1
  | .teStep => 0
  | .tioShort => 2
  | .beatOverrun => 3
  | .orchardCe => 1
  | .orchardUe => if d < 20480 then 1 else 3
  | .ucodeAuth => if d = 3 then 2 else 3
  | .ucodeParity => 1
  | .linkDown => 0
  | .sfpUnsupported => 1
  | .sfpTxfault => 2
  | .sfpAlarm => 0
  | .t1lRetrain => 1
  | .phyFail => 2
  | .fmemUe => 1
  | .ptpOverload => 1
  | .peerSplit => 1
  | .ensWide => 0
  | .lepVersion => 0
  | .peerTableFull => 0
  | .digestMismatch => 0
  | .bramOvf => 0
  | .busProtocol => 0
  | .busTimeout => 1
  | .tlErrburst => 1
  | .unlockBackoff => 0
  | .stoneWeak => 0
  | .stoneRollback => 0
  | .stoneUe => 2
  | .stoneRecallOld => 1
  | .stoneEmpty => 1
  | .tallyWear => 1
  | .stoneProg => 2
  | .pressGap => 1
  | .pressSnapFail => 1

/-- The lower default level of a class, which a forced occurrence takes (R393) and REC shows before any record (R396). -/
def FC.lowDflt (c : FC) : Nat :=
  match c with
  | .domainFail => 2
  | .orchardUe => 1
  | .ucodeAuth => 2
  | c => c.dflt 0

/-- The ceiling that goes with the lower default level. -/
def FC.lowCeil (c : FC) : Nat :=
  match c with
  | .domainFail => 2
  | .orchardUe => 1
  | .ucodeAuth => 2
  | c => c.ceil 0

/-- Whether the default level of a class depends on the instance (R386, R393). -/
def FC.byInst : FC → Bool
  | .domainFail => true
  | .orchardUe => true
  | .ucodeAuth => true
  | _ => false

/-- Event class (R385): an occurrence is each event. The other classes are condition classes. -/
def FC.isEvent : FC → Bool
  | .rtcLost => true
  | .calReject => true
  | .gnssTod => true
  | .graftWide => true
  | .jumpRefused => true
  | .modelDiverge => true
  | .teStep => true
  | .beatOverrun => true
  | .orchardCe => true
  | .orchardUe => true
  | .ucodeParity => true
  | .t1lRetrain => true
  | .fmemUe => true
  | .lepVersion => true
  | .peerTableFull => true
  | .bramOvf => true
  | .busProtocol => true
  | .busTimeout => true
  | .tlErrburst => true
  | .stoneWeak => true
  | .stoneRollback => true
  | .stoneUe => true
  | .stoneRecallOld => true
  | .stoneEmpty => true
  | .tallyWear => true
  | .stoneProg => true
  | .pressGap => true
  | .pressSnapFail => true
  | _ => false

/-- Every class of R394. -/
def FC.all : List FC :=
  [.supplyLow, .supplyOv, .powerFail, .holdupWeak, .domainFail, .avsLimit, .auxLow, .rtcLost,
   .resetStuck, .thermoLost, .oscFail, .synaUnlock, .synbUnlock, .synbRange, .ckUnlock, .rampClamp,
   .calReject, .tdcFail, .rinMidband, .refFailed, .gnssTod, .graftWide, .jumpRefused, .servoLimit,
   .modelDiverge, .holdBound, .teStep, .tioShort, .beatOverrun, .orchardCe, .orchardUe, .ucodeAuth,
   .ucodeParity, .linkDown, .sfpUnsupported, .sfpTxfault, .sfpAlarm, .t1lRetrain, .phyFail, .fmemUe,
   .ptpOverload, .peerSplit, .ensWide, .lepVersion, .peerTableFull, .digestMismatch, .bramOvf, .busProtocol,
   .busTimeout, .tlErrburst, .unlockBackoff, .stoneWeak, .stoneRollback, .stoneUe, .stoneRecallOld, .stoneEmpty,
   .tallyWear, .stoneProg, .pressGap, .pressSnapFail]

/-- The key of a class in the fault records: block × 16 + bit. -/
def FC.key (c : FC) : Nat := c.blk * 16 + c.bit

/-- The class at a bit of a block; `none` where R394 lists none. -/
def FC.at? (b c : Nat) : Option FC := FC.all.find? (fun k => k.blk == b && k.bit == c)

/-- Whether an occurrence at L2 takes a named resource out of service (R394, last column). -/
def FC.hasResource : FC → Bool
  | .domainFail => true
  | .ckUnlock => true
  | .tdcFail => true
  | .tioShort => true
  | .beatOverrun => true
  | .ucodeAuth => true
  | .sfpTxfault => true
  | .phyFail => true
  | .stoneUe => true
  | .stoneProg => true
  | _ => false

/-- Whether an INFO value names an instance of the class (R393: a FORCEINFO that names none isolates nothing). -/
def FC.names (c : FC) (i : Nat) : Bool :=
  match c with
  | .domainFail => i < 14
  | .ckUnlock => i < 8
  | .tdcFail => i < 22
  | .tioShort => i < 16
  | .beatOverrun => 1 ≤ i && i ≤ 3
  | .ucodeAuth => 1 ≤ i && i ≤ 3
  | .sfpTxfault => i < 2
  | .phyFail => i < 4
  | _ => true

end Sys2Proof.Machine
end

