-- ==== Sys2Proof/Config.lean ====
section
/-! DEFINITION. What one unit fixes for life and what the spec leaves open. Every constant here is opaque: no proof can see
a value of it, so a statement about the unit holds whatever it is. The assumption log names each one. -/
namespace Sys2Proof.Config

/-! ## Free values -/

/-- A fresh value where the spec states none; the model applies it to its counter `freeCount` (log 3). -/
opaque freeNat : Nat → Nat

/-- The direction a result that the spec does not round takes when `n / d` is not whole (log 8). -/
opaque roundUp : Int → Nat → Bool

/-- A word of a record whose layout the spec does not give, from what the record holds and the word's place: the configuration,
model and snapshot-header records (R196, R348, R404; log 18), and CFGDIG over the configuration record's engine-read fields
(R399). -/
opaque recWord : List Nat → Nat → BitVec 16
opaque cfgDig : List (Nat × Nat) → BitVec 32

/-! ## Fixed at the factory (log 5) -/

/-- CLKID: the unit's clockIdentity (R289). -/
opaque clkid : BitVec 64

/-- The security-version floor fused at the factory (R36, R38). -/
opaque secFloor : BitVec 16

/-- SHA-256 of the fused public key (R38). -/
opaque keyId : BitVec 256

/-- The image version and the instruction count of the shipped image of each engine (R461). -/
opaque shipVersion : Nat → BitVec 32
opaque shipInstrs : Nat → BitVec 12
/-- Its body, digest and signature, as bytes (R34). -/
opaque shipBody : Nat → List (BitVec 8)
opaque shipHash : Nat → List (BitVec 8)
opaque shipSig : Nat → List (BitVec 8)

/-- Factory calibration values (R379, R382). -/
opaque facSupgain : BitVec 16
opaque facSupoff : BitVec 16
opaque facTempoff : BitVec 16
opaque facAvsref : Nat → BitVec 16
opaque facSwing : Nat → BitVec 16
opaque facThroff : Nat → BitVec 16
opaque facSkew : Nat → BitVec 8
/-- The 128 tap weights of TDC channel `c`, one 16-bit word each, weight of tap 0 most significant. -/
opaque facTdcw : Nat → BitVec 2048

/-- The factory model prior (R188, R194): A0 to A5, AGEA, AGEB, RETK as binary64 words, in that order. -/
opaque facModel : Nat → BitVec 64

/-! ## The fit (R191; log 11) -/

/-- The gain of coefficient `i` in the recursive least-squares step, in 2⁻³², and AGESIG after it, under a TAUFIT, for each step. -/
opaque fitGain : Nat → Nat → Nat → Int
opaque ageSig : Nat → Nat → BitVec 64

/-- The set of the address table, 0 to 255, for a MAC address and a VLAN entry (R255; log 12). -/
opaque atSet : Nat → Nat → BitVec 8

/-- The MAC address that each port sends from, which the spec does not give (log 14). -/
opaque mac : Nat → BitVec 48

/-- clockClass, clockAccuracy and offsetScaledLogVariance where no row of R283 applies (log 15). -/
opaque openClass : BitVec 8
opaque openAcc : BitVec 8
opaque openVar : BitVec 16

/-- The unit key of the vendor response (R420), and whether a signature over a digest passes ECDSA P-256 under the fused public key
(R34, R35; log 20). -/
opaque unitKey : BitVec 256
opaque sigOk : List (BitVec 8) → List (BitVec 8) → Bool

end Sys2Proof.Config
end

