-- ==== Sys2Proof/Machine/Num.lean ====
section
/-! DEFINITION. Number formats of R4 and the arithmetic the rules use: fields as natural numbers below their width, two's
complement, saturating counters, clamps, and division with the rounding the spec leaves open. -/
namespace Sys2Proof.Machine

/-- The signed value of a `w`-bit field (two's complement, R4). -/
def sgn (w v : Nat) : Int := if v % 2 ^ w < 2 ^ (w - 1) then (v % 2 ^ w : Nat) else ((v % 2 ^ w : Nat) : Int) - (2 ^ w : Nat)

/-- The `w`-bit two's complement field that holds `i`, wrapping. -/
def uns (w : Nat) (i : Int) : Nat := (i % ((2 ^ w : Nat) : Int)).toNat

/-- `i` held between the ends of a signed `w`-bit field. -/
def satSgn (w : Nat) (i : Int) : Int := max (-((2 ^ (w - 1) : Nat) : Int)) (min i ((2 ^ (w - 1) : Nat) - 1))

/-- `v` held at the top of a `w`-bit field. -/
def satUns (w v : Nat) : Nat := min v (2 ^ w - 1)

/-- `i` as an unsigned `w`-bit field, held at 0 and at the top. -/
def satNat (w : Nat) (i : Int) : Nat := satUns w i.toNat

/-- A value held in the range from `lo` to `hi` (R9). -/
def clampNat (lo hi v : Nat) : Nat := if v < lo then lo else if hi < v then hi else v

/-- An integer held in the range from `lo` to `hi`. -/
def clampInt (lo hi v : Int) : Int := if v < lo then lo else if hi < v then hi else v

/-- `n / d` where the rule names no rounding: exact when whole, otherwise one of its two neighbours (log 8). -/
def rdiv (n : Int) (d : Nat) : Int :=
  n / (d : Int) + (if n % (d : Int) = 0 then 0 else if Config.roundUp n d then 1 else 0)

/-- `n / d` rounded to the nearest, halves upward. -/
def ndiv (n : Int) (d : Nat) : Int := (2 * n + (d : Int)) / (2 * (d : Int))

/-- `n / d` toward zero. -/
def tdiv (n : Int) (d : Nat) : Int := if n < 0 then -((-n) / (d : Int)) else n / (d : Int)

/-- The integer square root, rounded down: the greatest number whose square is at most `n`, found bit by bit from bit `k`. -/
def isqrtFrom : Nat → Nat → Nat → Nat
  | 0, _, r => r
  | k + 1, n, r => isqrtFrom k n (if (r + 2 ^ k) * (r + 2 ^ k) ≤ n then r + 2 ^ k else r)

/-- The integer square root of a number below 2^128, rounded down. -/
def isqrt (n : Nat) : Nat := isqrtFrom 64 n 0

/-- A square root where the rule names no rounding (log 8). -/
def rsqrt (n : Nat) : Nat :=
  isqrt n + (if isqrt n * isqrt n = n then 0 else if Config.roundUp (n : Int) 0 then 1 else 0)

/-- Bit `i` of `v`. -/
def bit (v i : Nat) : Bool := v.testBit i

/-- Bits `lo + w - 1` to `lo` of `v`. -/
def bits (v lo w : Nat) : Nat := v / 2 ^ lo % 2 ^ w

/-- `v` with bit `i` set to `b`. -/
def setBit (v i : Nat) (b : Bool) : Nat :=
  if v.testBit i = b then v else if b then v + 2 ^ i else v - 2 ^ i

/-- A Bool as a one-bit field. -/
def b2n (b : Bool) : Nat := if b then 1 else 0

/-- How many of bits 0 to `n - 1` of `v` are set. -/
def popcount : Nat → Nat → Nat
  | 0, _ => 0
  | n + 1, v => popcount n v + b2n (v.testBit n)

/-- The mask with bit `i` set for each `i` below `n` that `p` holds of. -/
def maskOf (n : Nat) (p : Nat → Bool) : Nat :=
  match n with
  | 0 => 0
  | m + 1 => maskOf m p + (if p m then 2 ^ m else 0)

/-- The `n` least significant bytes of `v`, most significant first (R5). -/
def bytesBE : Nat → Nat → List Byte
  | 0, _ => []
  | n + 1, v => BitVec.ofNat 8 (v / 2 ^ (8 * n)) :: bytesBE n v

/-- The number that a list of bytes spells, most significant first. -/
def ofBytesBE : List Byte → Nat
  | [] => 0
  | b :: bs => b.toNat * 2 ^ (8 * bs.length) + ofBytesBE bs

/-- The CRC-32 register of IEEE 802.3 after one more bit, and after one more byte, least significant bit first. -/
def crcBit (c : Nat) (b : Bool) : Nat :=
  if (c.testBit 0) != b then (c / 2) ^^^ 0xEDB88320 else c / 2
def crcByte (c : Nat) (b : Byte) : Nat := (List.range 8).foldl (fun c i => crcBit c (b.toNat.testBit i)) c

/-- The CRC-32 of IEEE 802.3, as the FCS is computed (R297). -/
def crc32 (l : List Byte) : Nat := (l.foldl crcByte 0xFFFFFFFF) ^^^ 0xFFFFFFFF

/-- CRC-8 with polynomial 0x2F and initial value 0xFF, not reflected, without a final XOR (R335). -/
def crc8Byte (c : Nat) (b : Byte) : Nat :=
  (List.range 8).foldl (fun c _ => if c.testBit 7 then (c * 2 % 256) ^^^ 0x2F else c * 2 % 256) (c ^^^ b.toNat)
def crc8 (l : List Byte) : Nat := l.foldl crc8Byte 0xFF

/-- The sum of a list. -/
def sumInt (l : List Int) : Int := l.foldr (· + ·) 0

/-- A list sorted from the least to the greatest, by insertion. -/
def insInt (x : Int) : List Int → List Int
  | [] => [x]
  | y :: ys => if x ≤ y then x :: y :: ys else y :: insInt x ys

/-- The sorted list. -/
def sortInt : List Int → List Int
  | [] => []
  | x :: xs => insInt x (sortInt xs)

end Sys2Proof.Machine
end

