-- ==== Sys2Proof/Machine/RegTable.lean ====
section
/-! DEFINITION. The register table: every field of the direct registers and of the sixteen window spaces, with its
place, width, access, reset value, behaviour at a warm reset and reader, as the register tables of the spec give them
(R5 to R9). A field whose Reset column is Recalled, Counted, Measured, Started or Computed has reset 0 here and is
filled by POWER_UP (notes/assumptions/4.md). -/
namespace Sys2Proof.Machine

/-- Access codes of R6. -/
inductive Acc where
  | ro | rw | w1c | wo | rc | rwl
deriving DecidableEq, Repr

/-- One register field (R5). `sp` is the window space (16 is the direct area, 17 the tenants' own view blocks), `addr`
the lowest word address of the group of words that is snapped and committed together (R107, R109), `words` the length
of that group, `lo` and `w` the field's place in the group's value with the most significant word first, `kept` its
Warm column (R7) and `eng` whether it is engine-read (R111, R118). -/
structure Fld where
  sp : Nat
  addr : Nat
  words : Nat
  lo : Nat
  w : Nat
  acc : Acc
  rst : Nat
  kept : Bool
  eng : Bool
deriving DecidableEq, Repr

/-- The key of a field in the register file: its space, its group's lowest address and its lowest bit. -/
def Fld.key (f : Fld) : Nat := (f.sp * 16777216 + f.addr) * 128 + f.lo

/-- A family of word groups: the group at index `i`, `j` starts at `base + i * s1 + j * s2` and holds `flds i j`. -/
structure Grp where
  base : Nat
  words : Nat
  n1 : Nat
  s1 : Nat
  n2 : Nat
  s2 : Nat
  flds : Nat → Nat → List Fld

namespace F

/-! Fields of FABRIC (R38). -/
def fabBeatcnt : Fld := ⟨15, 0, 3, 0, 48, .ro, 0, true, false⟩
def fabRot : Fld := ⟨15, 3, 1, 0, 2, .ro, 0, true, false⟩
def fabLong : Fld := ⟨15, 3, 1, 2, 1, .ro, 0, true, false⟩
def fabOvr : Fld := ⟨15, 3, 1, 3, 1, .ro, 0, false, false⟩
def fabSkip : Fld := ⟨15, 3, 1, 4, 1, .ro, 0, false, false⟩
def fabPlan : Fld := ⟨15, 4, 2, 0, 32, .ro, 0x38A40, true, false⟩
def fabLastlen : Fld := ⟨15, 6, 2, 0, 32, .ro, 0, false, false⟩
def fabHw (e : Nat) : Fld := ⟨15, 0x10 + 2 * e, 2, 0, 32, .rc, 0, false, false⟩
def fabOvrs (e : Nat) : Fld := ⟨15, 0x18 + e, 1, 0, 16, .rc, 0, false, false⟩
def fabDefcnt : Fld := ⟨15, 0x1b, 1, 0, 16, .rc, 0, false, false⟩
def fabLoss (e : Nat) : Fld := ⟨15, 0x20 + e, 1, 0, 16, .rc, 0, false, false⟩
def fabMaxwait : Fld := ⟨15, 0x23, 1, 0, 16, .rc, 0, false, false⟩
def fabEccce : Fld := ⟨15, 0x30, 1, 0, 16, .rc, 0, true, false⟩
def fabEccue : Fld := ⟨15, 0x31, 1, 0, 16, .rc, 0, true, false⟩
def fabEccaddr : Fld := ⟨15, 0x32, 2, 0, 21, .ro, 0, true, false⟩
def fabScrubpos : Fld := ⟨15, 0x34, 1, 0, 15, .ro, 0, true, false⟩
def fabLoaded (e : Nat) : Fld := ⟨15, 0x40 + e, 1, 0, 1, .ro, 0, true, false⟩
def fabSlot (e : Nat) : Fld := ⟨15, 0x40 + e, 1, 1, 1, .ro, 0, true, false⟩
def fabSlotfail (e : Nat) : Fld := ⟨15, 0x40 + e, 1, 2, 2, .ro, 0, true, false⟩
def fabReason (e : Nat) : Fld := ⟨15, 0x40 + e, 1, 4, 4, .ro, 0, true, false⟩
def fabVer (e : Nat) : Fld := ⟨15, 0x44 + 2 * e, 2, 0, 32, .ro, 0, true, false⟩
def fabSecfloor : Fld := ⟨15, 0x4c, 1, 0, 16, .ro, Config.secFloor.toNat, true, false⟩
def fabKeyid : Fld := ⟨15, 0x50, 16, 0, 256, .ro, Config.keyId.toNat, true, false⟩
/-! Fields of SYS (R73, R93 and R116). -/
def sysAutorun : Fld := ⟨0, 0x100, 1, 0, 1, .rwl, 0, true, false⟩
def sysSafeAutoexit : Fld := ⟨0, 0x100, 1, 1, 1, .rw, 0, true, false⟩
def sysHoldreq : Fld := ⟨0, 0x100, 1, 2, 1, .ro, 0, true, false⟩
def sysUntraced : Fld := ⟨0, 0x100, 1, 3, 1, .ro, 1, true, false⟩
def sysPrevmode : Fld := ⟨0, 0x101, 1, 0, 3, .ro, 0, true, false⟩
def sysCause : Fld := ⟨0, 0x101, 1, 4, 4, .ro, 0, true, false⟩
def sysModerej : Fld := ⟨0, 0x102, 1, 0, 16, .rc, 0, false, false⟩
def sysRejreason : Fld := ⟨0, 0x103, 1, 0, 4, .ro, 0, false, false⟩
def sysBootms : Fld := ⟨0, 0x104, 1, 0, 16, .ro, 0, true, false⟩
def sysPwrup : Fld := ⟨0, 0x105, 1, 0, 1, .ro, 1, true, false⟩
def sysCold : Fld := ⟨0, 0x105, 1, 1, 1, .ro, 0, true, false⟩
def sysWarm : Fld := ⟨0, 0x105, 1, 2, 1, .w1c, 0, true, false⟩
def sysRstlive : Fld := ⟨0, 0x105, 1, 3, 1, .ro, 0, true, false⟩
def sysRstdeaf : Fld := ⟨0, 0x105, 1, 4, 1, .ro, 0, true, false⟩
def sysFreeze (d : Nat) : Fld := ⟨0, 0x200 + 4 * d, 1, 0, 1, .rw, 0, true, false⟩
def sysAvsv (d : Nat) : Fld := ⟨0, 0x201 + 4 * d, 1, 0, 16, .ro, 900, true, false⟩
def sysAvsmarg (d : Nat) : Fld := ⟨0, 0x202 + 4 * d, 1, 0, 16, .ro, 0, true, false⟩
def sysAvsfast (d : Nat) : Fld := ⟨0, 0x203 + 4 * d, 1, 0, 16, .rc, 0, true, false⟩
def sysHuv : Fld := ⟨0, 0x210, 1, 0, 16, .ro, 0, true, false⟩
def sysHums : Fld := ⟨0, 0x211, 1, 0, 16, .ro, 0, true, false⟩
def sysHutest : Fld := ⟨0, 0x212, 1, 0, 1, .wo, 0, true, false⟩
def sysPflive : Fld := ⟨0, 0x213, 1, 0, 1, .ro, 0, true, false⟩
def sysSeq : Fld := ⟨0, 0x213, 1, 1, 1, .ro, 0, true, false⟩
def sysLaststoreOk : Fld := ⟨0, 0x213, 1, 2, 1, .ro, 0, true, false⟩
def sysResumed : Fld := ⟨0, 0x213, 1, 3, 1, .w1c, 0, true, false⟩
def sysOfftime : Fld := ⟨0, 0x214, 2, 0, 32, .ro, 0, true, false⟩
def sysVinmin : Fld := ⟨0, 0x216, 1, 0, 16, .rc, 0xFFFF, true, false⟩
def sysVinmax : Fld := ⟨0, 0x217, 1, 0, 16, .rc, 0, true, false⟩
def sysPowrej : Fld := ⟨0, 0x218, 1, 0, 16, .rc, 0, false, false⟩
def sysHbproto : Fld := ⟨0, 0x300, 1, 0, 16, .rc, 0, false, false⟩
def sysHbtmo : Fld := ⟨0, 0x301, 1, 0, 16, .rc, 0, false, false⟩
def sysHbguard : Fld := ⟨0, 0x302, 1, 0, 16, .rc, 0, false, false⟩
def sysHbbootwr : Fld := ⟨0, 0x303, 1, 0, 16, .rc, 0, false, false⟩
def sysHbstagerej : Fld := ⟨0, 0x304, 1, 0, 16, .rc, 0, false, false⟩
def sysHbabandon : Fld := ⟨0, 0x305, 1, 0, 16, .rc, 0, false, false⟩
def sysHbtorn : Fld := ⟨0, 0x306, 1, 0, 16, .rc, 0, false, false⟩
def sysHbdiscard : Fld := ⟨0, 0x307, 1, 0, 16, .rc, 0, false, false⟩
def sysHbextmax : Fld := ⟨0, 0x308, 1, 0, 16, .rc, 0, false, false⟩
/-! Fields of the direct area (R121 to R142). -/
def dDevid : Fld := ⟨16, 0, 1, 0, 16, .ro, 0xA7A7, true, false⟩
def dMinor : Fld := ⟨16, 1, 1, 0, 4, .ro, 1, true, false⟩
def dMajor : Fld := ⟨16, 1, 1, 4, 4, .ro, 0xB, true, false⟩
def dModereqReq : Fld := ⟨16, 2, 1, 0, 3, .rw, 0, false, true⟩
def dModereqPending : Fld := ⟨16, 2, 1, 3, 1, .ro, 0, false, false⟩
def dMode : Fld := ⟨16, 3, 1, 0, 3, .ro, 0, true, false⟩
def dRej : Fld := ⟨16, 3, 1, 3, 1, .w1c, 0, false, false⟩
def dModeChg : Fld := ⟨16, 3, 1, 4, 1, .w1c, 0, true, false⟩
def dWake : Fld := ⟨16, 3, 1, 5, 1, .ro, 0, true, false⟩
def dUntraced : Fld := ⟨16, 3, 1, 6, 1, .ro, 1, true, false⟩
def dErrlive : Fld := ⟨16, 3, 1, 7, 1, .ro, 1, true, false⟩
def dCmdCode : Fld := ⟨16, 4, 1, 0, 8, .wo, 0, true, true⟩
def dCmdArg : Fld := ⟨16, 4, 1, 8, 4, .wo, 0, true, true⟩
def dCmdGuard : Fld := ⟨16, 4, 1, 12, 4, .wo, 0, true, true⟩
def dStatCode : Fld := ⟨16, 5, 1, 0, 8, .ro, 0, true, false⟩
def dStatState : Fld := ⟨16, 5, 1, 8, 2, .ro, 0, true, false⟩
def dStatErr : Fld := ⟨16, 5, 1, 10, 3, .ro, 0, true, false⟩
def dBusyrej : Fld := ⟨16, 5, 1, 13, 1, .w1c, 0, true, false⟩
def dCmdDone : Fld := ⟨16, 5, 1, 14, 1, .w1c, 0, true, false⟩
def dIrqstat : Fld := ⟨16, 6, 1, 0, 16, .ro, 0, true, false⟩
def dIrqmask : Fld := ⟨16, 7, 1, 0, 16, .rw, 0, true, false⟩
def dWspace : Fld := ⟨16, 8, 1, 0, 4, .rw, 0, false, false⟩
def dWaddrh : Fld := ⟨16, 9, 1, 0, 8, .rw, 0, false, false⟩
def dWaddrl : Fld := ⟨16, 0xa, 1, 0, 16, .rw, 0, false, false⟩
def dWdata : Fld := ⟨16, 0xb, 1, 0, 16, .rw, 0, false, false⟩
def dAinc : Fld := ⟨16, 0xc, 1, 0, 1, .rw, 0, false, false⟩
def dDrop : Fld := ⟨16, 0xc, 1, 1, 1, .wo, 0, true, false⟩
def dWsUnmap : Fld := ⟨16, 0xd, 1, 0, 1, .w1c, 0, false, false⟩
def dWsNotready : Fld := ⟨16, 0xd, 1, 1, 1, .w1c, 0, false, false⟩
def dWsOffdom : Fld := ⟨16, 0xd, 1, 2, 1, .w1c, 0, false, false⟩
def dWsDenied : Fld := ⟨16, 0xd, 1, 3, 1, .w1c, 0, false, false⟩
def dWsTorn : Fld := ⟨16, 0xd, 1, 4, 1, .w1c, 0, false, false⟩
def dWsWrap : Fld := ⟨16, 0xd, 1, 5, 1, .w1c, 0, false, false⟩
def dWsTmo : Fld := ⟨16, 0xd, 1, 6, 1, .w1c, 0, false, false⟩
def dWsFull : Fld := ⟨16, 0xd, 1, 7, 1, .w1c, 0, false, false⟩
def dWsPend : Fld := ⟨16, 0xd, 1, 8, 1, .ro, 0, false, false⟩
def dWsSnap : Fld := ⟨16, 0xd, 1, 9, 1, .ro, 0, false, false⟩
def dWsStaged : Fld := ⟨16, 0xd, 1, 10, 1, .ro, 0, false, false⟩
def dManref : Fld := ⟨16, 0xe, 1, 0, 4, .rw, 0, true, true⟩
def dManual : Fld := ⟨16, 0xe, 1, 4, 1, .rw, 0, true, true⟩
def dRevert : Fld := ⟨16, 0xe, 1, 5, 1, .rwl, 1, true, true⟩
def dSelref : Fld := ⟨16, 0xf, 1, 0, 4, .ro, 11, true, false⟩
def dGraftref : Fld := ⟨16, 0xf, 1, 4, 4, .ro, 0xF, true, false⟩
def dGrafting : Fld := ⟨16, 0xf, 1, 8, 1, .ro, 0, true, false⟩
def dTimeref : Fld := ⟨16, 0xf, 1, 9, 1, .ro, 0, true, false⟩
def dRefChg : Fld := ⟨16, 0xf, 1, 10, 1, .w1c, 0, true, false⟩
def dManbad : Fld := ⟨16, 0xf, 1, 11, 1, .w1c, 0, true, false⟩
def dGnsstod : Fld := ⟨16, 0xf, 1, 12, 1, .ro, 0, true, false⟩
def dTodrin : Fld := ⟨16, 0xf, 1, 13, 2, .ro, 0, true, false⟩
def dQuala : Fld := ⟨16, 0x10, 1, 0, 16, .ro, 0, true, false⟩
def dQualb : Fld := ⟨16, 0x11, 1, 0, 8, .ro, 0, true, false⟩
def dQualCount : Fld := ⟨16, 0x11, 1, 8, 4, .ro, 0, true, false⟩
def dServoState : Fld := ⟨16, 0x12, 1, 0, 3, .ro, 0, true, false⟩
def dServoStale : Fld := ⟨16, 0x12, 1, 3, 1, .ro, 0, true, false⟩
def dSlewing : Fld := ⟨16, 0x12, 1, 4, 1, .ro, 0, true, false⟩
def dSteplim : Fld := ⟨16, 0x12, 1, 5, 1, .ro, 0, true, false⟩
def dServoChg : Fld := ⟨16, 0x12, 1, 6, 1, .w1c, 0, true, false⟩
def dBwfrozen : Fld := ⟨16, 0x12, 1, 7, 1, .ro, 0, true, false⟩
def dMq : Fld := ⟨16, 0x13, 1, 0, 8, .ro, 0, true, false⟩
def dLearning : Fld := ⟨16, 0x13, 1, 8, 1, .ro, 0, true, false⟩
def dReady : Fld := ⟨16, 0x13, 1, 9, 1, .ro, 0, true, false⟩
def dRetrace : Fld := ⟨16, 0x13, 1, 10, 1, .ro, 0, true, false⟩
def dHoldChg : Fld := ⟨16, 0x13, 1, 11, 1, .w1c, 0, true, false⟩
def dLatch : Fld := ⟨16, 0x14, 1, 0, 1, .wo, 0, true, false⟩
def dRelease : Fld := ⟨16, 0x14, 1, 1, 1, .wo, 0, true, false⟩
def dHeld : Fld := ⟨16, 0x14, 1, 8, 1, .ro, 0, false, false⟩
def dTlUntraced : Fld := ⟨16, 0x14, 1, 9, 1, .ro, 1, true, false⟩
def dTsec : Fld := ⟨16, 0x15, 4, 0, 64, .ro, 0, true, false⟩
def dTns : Fld := ⟨16, 0x19, 2, 0, 30, .ro, 0, true, false⟩
def dTfrac : Fld := ⟨16, 0x1b, 1, 0, 16, .ro, 0, true, false⟩
def dThresh : Fld := ⟨16, 0x1c, 1, 0, 12, .rwl, 250, true, true⟩
def dAutoconf : Fld := ⟨16, 0x1c, 1, 12, 1, .rwl, 1, true, true⟩
def dJref : Fld := ⟨16, 0x1d, 1, 0, 4, .ro, 0xF, true, false⟩
def dJumpPend : Fld := ⟨16, 0x1d, 1, 4, 1, .ro, 0, true, false⟩
def dJumpConf : Fld := ⟨16, 0x1d, 1, 5, 1, .w1c, 0, true, false⟩
def dJumpAcc : Fld := ⟨16, 0x1d, 1, 6, 1, .w1c, 0, true, false⟩
def dJumpStepped : Fld := ⟨16, 0x1d, 1, 7, 1, .w1c, 0, true, false⟩
def dJumpNeg : Fld := ⟨16, 0x1d, 1, 8, 1, .ro, 0, true, false⟩
def dJumpMag : Fld := ⟨16, 0x1d, 1, 9, 7, .ro, 0, true, false⟩
def dPipctl : Fld := ⟨16, 0x1e, 1, 0, 16, .rw, 0, true, true⟩
def dPipstat : Fld := ⟨16, 0x1f, 1, 0, 16, .w1c, 0, true, false⟩
def dBfChan : Fld := ⟨16, 0x20, 1, 0, 5, .wo, 0, true, false⟩
def dBfGo : Fld := ⟨16, 0x20, 1, 15, 1, .wo, 0, true, false⟩
def dBramEvt : Fld := ⟨16, 0x21, 1, 0, 1, .w1c, 0, true, false⟩
def dBramCoal : Fld := ⟨16, 0x21, 1, 1, 1, .w1c, 0, true, false⟩
def dBramDeny : Fld := ⟨16, 0x21, 1, 2, 1, .w1c, 0, true, false⟩
def dBramOvf : Fld := ⟨16, 0x21, 1, 3, 1, .w1c, 0, true, false⟩
def dLastch : Fld := ⟨16, 0x21, 1, 4, 5, .ro, 0, true, false⟩
def dFaultBlk : Fld := ⟨16, 0x22, 1, 0, 14, .ro, 0, true, false⟩
def dMaxlvl : Fld := ⟨16, 0x22, 1, 14, 2, .ro, 0, true, false⟩
def dFaultack : Fld := ⟨16, 0x23, 1, 0, 14, .wo, 0, true, false⟩
def dRecovcnt : Fld := ⟨16, 0x24, 1, 0, 16, .ro, 0, true, false⟩
def dErrlvl : Fld := ⟨16, 0x25, 1, 0, 2, .rw, 0, true, false⟩
def dErrforce : Fld := ⟨16, 0x25, 1, 2, 1, .rw, 0, true, false⟩
def dAutoen : Fld := ⟨16, 0x26, 1, 0, 1, .rw, 1, true, true⟩
def dInterval : Fld := ⟨16, 0x26, 1, 2, 2, .rw, 1, true, true⟩
def dCalBusy : Fld := ⟨16, 0x27, 1, 0, 1, .ro, 0, true, false⟩
def dCalDone : Fld := ⟨16, 0x27, 1, 1, 1, .w1c, 0, true, false⟩
def dCalFail : Fld := ⟨16, 0x27, 1, 2, 1, .w1c, 0, true, false⟩
def dCalStale : Fld := ⟨16, 0x27, 1, 3, 1, .ro, 0, true, false⟩
def dLastkind : Fld := ⟨16, 0x27, 1, 4, 4, .ro, 0, true, false⟩
def dCalReason : Fld := ⟨16, 0x27, 1, 8, 4, .ro, 0, true, false⟩
def dCalcnt : Fld := ⟨16, 0x28, 1, 0, 16, .ro, 0, false, false⟩
def dMarginen : Fld := ⟨16, 0x29, 1, 0, 1, .rw, 1, true, false⟩
def dAutorefresh : Fld := ⟨16, 0x29, 1, 1, 1, .rw, 1, true, false⟩
def dStBusy : Fld := ⟨16, 0x2a, 1, 0, 1, .ro, 0, true, false⟩
def dStTxn : Fld := ⟨16, 0x2a, 1, 1, 1, .ro, 0, true, false⟩
def dStBank : Fld := ⟨16, 0x2a, 1, 2, 1, .ro, 0, true, false⟩
def dPuact : Fld := ⟨16, 0x2a, 1, 4, 2, .ro, 0, true, false⟩
def dStWeak : Fld := ⟨16, 0x2a, 1, 6, 1, .w1c, 0, true, false⟩
def dRefreshed : Fld := ⟨16, 0x2a, 1, 7, 1, .w1c, 0, true, false⟩
def dStoredone : Fld := ⟨16, 0x2a, 1, 8, 1, .w1c, 0, true, false⟩
def dCommitdone : Fld := ⟨16, 0x2a, 1, 9, 1, .w1c, 0, true, false⟩
def dBufull : Fld := ⟨16, 0x2a, 1, 10, 1, .ro, 0, true, false⟩
def dStIsol : Fld := ⟨16, 0x2a, 1, 11, 1, .ro, 0, true, false⟩
def dPowstat : Fld := ⟨16, 0x2b, 1, 0, 14, .ro, 1, true, false⟩
def dPowreq : Fld := ⟨16, 0x2c, 1, 0, 14, .rw, 0x3FFF, true, true⟩
def dSupply : Fld := ⟨16, 0x2d, 1, 0, 16, .ro, 0, true, false⟩
def dTemp : Fld := ⟨16, 0x2e, 1, 0, 16, .ro, 0, true, false⟩
def dLock : Fld := ⟨16, 0x2f, 1, 0, 2, .ro, 1, true, false⟩
def dBackoff : Fld := ⟨16, 0x2f, 1, 2, 1, .ro, 0, true, false⟩
def dAttempts : Fld := ⟨16, 0x2f, 1, 3, 3, .ro, 0, true, false⟩
def dSvcsess : Fld := ⟨16, 0x2f, 1, 6, 1, .ro, 0, true, false⟩
def dAccChg : Fld := ⟨16, 0x2f, 1, 7, 1, .w1c, 0, true, false⟩
def dTlalloc : Fld := ⟨16, 0x2f, 1, 8, 4, .ro, 0, true, false⟩
/-! Fields of REF (R165 and R166). -/
def refEnable (n : Nat) : Fld := ⟨1, 0 + 0x20 * n, 1, 0, 1, .rw, 1, true, true⟩
def refPrio (n : Nat) : Fld := ⟨1, 0 + 0x20 * n, 1, 1, 4, .rw, n+1, true, true⟩
def refTerm50 (n : Nat) : Fld := ⟨1, 0 + 0x20 * n, 1, 5, 1, .rwl, 0, true, false⟩
def refThrfrz (n : Nat) : Fld := ⟨1, 0 + 0x20 * n, 1, 6, 1, .rw, 0, true, false⟩
def refState (n : Nat) : Fld := ⟨1, 1 + 0x20 * n, 1, 0, 3, .ro, 0, true, false⟩
def refReason (n : Nat) : Fld := ⟨1, 1 + 0x20 * n, 1, 3, 4, .ro, 0, true, false⟩
def refStale (n : Nat) : Fld := ⟨1, 1 + 0x20 * n, 1, 7, 1, .ro, 0, true, false⟩
def refSettled (n : Nat) : Fld := ⟨1, 1 + 0x20 * n, 1, 8, 1, .ro, 0, true, false⟩
def refMidband (n : Nat) : Fld := ⟨1, 1 + 0x20 * n, 1, 9, 1, .ro, 0, true, false⟩
def refLevel (n : Nat) : Fld := ⟨1, 1 + 0x20 * n, 1, 10, 2, .ro, 2, true, false⟩
def refTimer (n : Nat) : Fld := ⟨1, 2 + 0x20 * n, 1, 0, 16, .ro, 0, true, false⟩
def refQualtime (n : Nat) : Fld := ⟨1, 3 + 0x20 * n, 1, 0, 13, .rw, (if 4 ≤ n ∧ n < 8 then 30 else 10), true, true⟩
def refSusptime (n : Nat) : Fld := ⟨1, 4 + 0x20 * n, 1, 0, 16, .rw, 2048, true, true⟩
def refSuspclr (n : Nat) : Fld := ⟨1, 5 + 0x20 * n, 1, 0, 16, .rw, 1024, true, true⟩
def refFailhold (n : Nat) : Fld := ⟨1, 6 + 0x20 * n, 1, 0, 12, .rw, 10, true, true⟩
def refWtr (n : Nat) : Fld := ⟨1, 7 + 0x20 * n, 1, 0, 12, .rw, 60, true, true⟩
def refFofflim (n : Nat) : Fld := ⟨1, 8 + 0x20 * n, 1, 0, 8, .rw, 150, true, true⟩
def refNoiselim (n : Nat) : Fld := ⟨1, 9 + 0x20 * n, 1, 0, 16, .rw, (if 4 ≤ n ∧ n < 8 then 400 else 40), true, true⟩
def refNomfreq (n : Nat) : Fld := ⟨1, 0xa + 0x20 * n, 2, 0, 32, .rwl, 0x09896800, true, true⟩
def refGlitch (n : Nat) : Fld := ⟨1, 0xc + 0x20 * n, 1, 0, 9, .rw, 1, true, false⟩
def refQlmin (n : Nat) : Fld := ⟨1, 0xd + 0x20 * n, 1, 0, 4, .rw, 0xB, true, true⟩
def refQlrx (n : Nat) : Fld := ⟨1, 0xd + 0x20 * n, 1, 4, 4, .ro, 0xF, true, false⟩
def refFoff (n : Nat) : Fld := ⟨1, 0x10 + 0x20 * n, 3, 0, 48, .ro, 0, true, false⟩
def refNoise (n : Nat) : Fld := ⟨1, 0x13 + 0x20 * n, 1, 0, 16, .ro, 0, true, false⟩
def refThrmid (n : Nat) : Fld := ⟨1, 0x14 + 0x20 * n, 1, 0, 16, .ro, 4496, true, false⟩
def refThrhalf (n : Nat) : Fld := ⟨1, 0x15 + 0x20 * n, 1, 0, 16, .ro, 20, true, false⟩
def refVmax (n : Nat) : Fld := ⟨1, 0x16 + 0x20 * n, 1, 0, 16, .ro, 4096, true, false⟩
def refVmin (n : Nat) : Fld := ⟨1, 0x17 + 0x20 * n, 1, 0, 16, .ro, 4096, true, false⟩
def refRisecnt (n : Nat) : Fld := ⟨1, 0x18 + 0x20 * n, 1, 0, 5, .ro, 0, true, false⟩
def refFallcnt (n : Nat) : Fld := ⟨1, 0x18 + 0x20 * n, 1, 8, 5, .ro, 0, true, false⟩
def refMisscnt (n : Nat) : Fld := ⟨1, 0x19 + 0x20 * n, 1, 0, 16, .rc, 0, false, false⟩
def refFailcnt (n : Nat) : Fld := ⟨1, 0x1a + 0x20 * n, 1, 0, 16, .rc, 0, false, false⟩
def refGnssen : Fld := ⟨1, 0x200, 1, 0, 1, .rwl, 0, true, true⟩
def refGnssrin : Fld := ⟨1, 0x200, 1, 1, 2, .rwl, 0, true, true⟩
def refBaud : Fld := ⟨1, 0x200, 1, 3, 2, .rwl, 1, true, true⟩
def refTodedge : Fld := ⟨1, 0x200, 1, 5, 1, .rwl, 0, true, true⟩
def refBadcfg : Fld := ⟨1, 0x200, 1, 6, 1, .ro, 0, true, false⟩
def refLastlabel : Fld := ⟨1, 0x201, 4, 0, 64, .ro, 0, true, false⟩
def refNmeabad : Fld := ⟨1, 0x205, 1, 0, 16, .rc, 0, false, false⟩
def refNmealate : Fld := ⟨1, 0x206, 1, 0, 16, .rc, 0, false, false⟩
def refUartovf : Fld := ⟨1, 0x207, 1, 0, 16, .rc, 0, false, false⟩
def refGnsstxlen : Fld := ⟨1, 0x210, 1, 0, 7, .rw, 0, true, false⟩
def refGnsstxgo : Fld := ⟨1, 0x210, 1, 15, 1, .wo, 0, true, false⟩
def refGnsstx (i : Nat) : Fld := ⟨1, 0x211 + i, 1, 0, 16, .rw, 0, true, false⟩
def refCandref : Fld := ⟨1, 0x240, 1, 0, 4, .ro, 0xF, true, false⟩
def refWtrleft : Fld := ⟨1, 0x241, 1, 0, 12, .ro, 0, true, false⟩
/-! Fields of SERVO (R185 and R205). -/
def servoBwfrz : Fld := ⟨2, 0, 1, 0, 1, .rw, 0, true, true⟩
def servoBwmanual : Fld := ⟨2, 0, 1, 1, 1, .rw, 0, true, true⟩
def servoGwin : Fld := ⟨2, 1, 1, 0, 12, .rw, 50, true, true⟩
def servoSlewlim : Fld := ⟨2, 2, 1, 0, 11, .rw, 10, true, true⟩
def servoJslew : Fld := ⟨2, 3, 1, 0, 11, .rw, 1000, true, true⟩
def servoBwkphys : Fld := ⟨2, 4, 1, 0, 16, .rw, 200, true, true⟩
def servoBwkpkt : Fld := ⟨2, 5, 1, 0, 16, .rw, 50, true, true⟩
def servoBwman : Fld := ⟨2, 6, 1, 0, 11, .rw, 100, true, true⟩
def servoLockphys : Fld := ⟨2, 7, 1, 0, 16, .rw, 4, true, true⟩
def servoLockpkt : Fld := ⟨2, 8, 1, 0, 16, .rw, 40, true, true⟩
def servoPhit : Fld := ⟨2, 9, 1, 0, 16, .rw, 40, true, true⟩
def servoFword : Fld := ⟨2, 0x10, 3, 0, 48, .ro, 0, true, false⟩
def servoFcorr : Fld := ⟨2, 0x13, 3, 0, 48, .ro, 0, true, false⟩
def servoFslew : Fld := ⟨2, 0x16, 3, 0, 48, .ro, 0, true, false⟩
def servoFmodel : Fld := ⟨2, 0x19, 3, 0, 48, .ro, 0, true, false⟩
def servoErr : Fld := ⟨2, 0x20, 3, 0, 48, .ro, 0, true, false⟩
def servoBwcur : Fld := ⟨2, 0x23, 2, 0, 32, .ro, 200000, true, false⟩
def servoBwtgt : Fld := ⟨2, 0x25, 2, 0, 32, .ro, 0, true, false⟩
def servoNin : Fld := ⟨2, 0x27, 1, 0, 16, .ro, 0, true, false⟩
def servoSlewrem : Fld := ⟨2, 0x30, 3, 0, 48, .ro, 0, true, false⟩
def servoGstate : Fld := ⟨2, 0x33, 1, 0, 2, .ro, 0, true, false⟩
def servoGtime : Fld := ⟨2, 0x33, 1, 2, 1, .ro, 0, true, false⟩
def servoBuildout : Fld := ⟨2, 0x34, 3, 0, 48, .ro, 0, true, false⟩
def servoGraftcnt : Fld := ⟨2, 0x37, 1, 0, 16, .rc, 0, false, false⟩
def servoPhitcnt : Fld := ⟨2, 0x38, 1, 0, 16, .rc, 0, false, false⟩
def servoAbandcnt : Fld := ⟨2, 0x39, 1, 0, 16, .rc, 0, false, false⟩
def servoJoffsec : Fld := ⟨2, 0x40, 2, 0, 32, .ro, 0, true, false⟩
def servoJoffns : Fld := ⟨2, 0x42, 2, 0, 32, .ro, 0, true, false⟩
def servoConfref : Fld := ⟨2, 0x44, 1, 0, 4, .ro, 0xF, true, false⟩
def servoJrefmask : Fld := ⟨2, 0x45, 1, 0, 10, .ro, 0, true, false⟩
def servoStepcnt : Fld := ⟨2, 0x46, 1, 0, 16, .rc, 0, false, false⟩
def servoFitfrz : Fld := ⟨2, 0x100, 1, 0, 1, .rw, 0, true, true⟩
def servoLearnstop : Fld := ⟨2, 0x100, 1, 1, 1, .rw, 0, true, true⟩
def servoHlimit : Fld := ⟨2, 0x101, 1, 0, 16, .rw, 1000, true, true⟩
def servoLearns : Fld := ⟨2, 0x102, 2, 0, 32, .ro, 0, true, false⟩
def servoTscore : Fld := ⟨2, 0x104, 1, 0, 8, .ro, 0, true, false⟩
def servoRscore : Fld := ⟨2, 0x105, 1, 0, 8, .ro, 0, true, false⟩
def servoResid : Fld := ⟨2, 0x106, 3, 0, 48, .ro, 0, true, false⟩
def servoRtemp : Fld := ⟨2, 0x109, 1, 0, 16, .ro, 0, true, false⟩
def servoRtempf : Fld := ⟨2, 0x10a, 1, 0, 8, .ro, 0, true, false⟩
def servoA (i : Nat) : Fld := ⟨2, 0x110 + 4 * i, 4, 0, 64, .ro, 0, true, false⟩
def servoAgea : Fld := ⟨2, 0x128, 4, 0, 64, .ro, 0, true, false⟩
def servoAgeb : Fld := ⟨2, 0x12c, 4, 0, 64, .ro, 0, true, false⟩
def servoRetk : Fld := ⟨2, 0x130, 4, 0, 64, .ro, 0, true, false⟩
def servoAget : Fld := ⟨2, 0x134, 2, 0, 32, .ro, 0, true, false⟩
def servoPuage : Fld := ⟨2, 0x136, 2, 0, 32, .ro, 0, true, false⟩
def servoRetnow : Fld := ⟨2, 0x138, 3, 0, 48, .ro, 0, true, false⟩
def servoAgesig : Fld := ⟨2, 0x13c, 4, 0, 64, .ro, 0, true, false⟩
def servoTaufit : Fld := ⟨2, 0x140, 2, 0, 32, .ro, 0, true, false⟩
def servoInnov : Fld := ⟨2, 0x142, 1, 0, 16, .ro, 0, true, false⟩
def servoHoldt : Fld := ⟨2, 0x150, 2, 0, 32, .ro, 0, true, false⟩
def servoHest : Fld := ⟨2, 0x152, 2, 0, 32, .ro, 0, true, false⟩
def servoWper : Fld := ⟨2, 0x160, 2, 0, 32, .rw, 300, true, true⟩
def servoWlen : Fld := ⟨2, 0x162, 1, 0, 6, .rw, 8, true, true⟩
def servoWmeas : Fld := ⟨2, 0x163, 1, 0, 6, .rw, 4, true, true⟩
def servoWoff : Fld := ⟨2, 0x164, 2, 0, 32, .rw, 0, true, true⟩
def servoDkf : Fld := ⟨2, 0x166, 1, 0, 8, .rw, 128, true, true⟩
def servoWakeset : Fld := ⟨2, 0x167, 1, 0, 2, .rw, 3, true, true⟩
def servoLastdelta : Fld := ⟨2, 0x168, 2, 0, 32, .ro, 0, true, false⟩
def servoEmptywin : Fld := ⟨2, 0x16a, 1, 0, 2, .ro, 0, true, false⟩
def servoWincnt : Fld := ⟨2, 0x16b, 1, 0, 16, .rc, 0, false, false⟩
def servoNextwake : Fld := ⟨2, 0x16c, 2, 0, 32, .ro, 0, true, false⟩
/-! Fields of SYNTH (R225). -/
def synAlock : Fld := ⟨3, 0, 1, 0, 1, .ro, 0, true, false⟩
def synBlock : Fld := ⟨3, 0, 1, 1, 1, .ro, 0, true, false⟩
def synFallback : Fld := ⟨3, 0, 1, 2, 1, .ro, 0, true, false⟩
def synBclamp : Fld := ⟨3, 0, 1, 3, 1, .ro, 0, true, false⟩
def synCken (n : Nat) : Fld := ⟨3, 0x20 + 0x10 * n, 1, 0, 1, .rw, 0, true, false⟩
def synSrc (n : Nat) : Fld := ⟨3, 0x20 + 0x10 * n, 1, 1, 1, .rwl, 0, true, false⟩
def synFmt (n : Nat) : Fld := ⟨3, 0x20 + 0x10 * n, 1, 2, 2, .rw, 0, true, false⟩
def synSlew (n : Nat) : Fld := ⟨3, 0x20 + 0x10 * n, 1, 4, 2, .rw, 2, true, false⟩
def synInt (n : Nat) : Fld := ⟨3, 0x21 + 0x10 * n, 7, 96, 4, .rw, 5, true, false⟩
def synNum (n : Nat) : Fld := ⟨3, 0x21 + 0x10 * n, 7, 64, 24, .rw, 0, true, false⟩
def synDen (n : Nat) : Fld := ⟨3, 0x21 + 0x10 * n, 7, 32, 24, .rw, 1, true, false⟩
def synOdiv (n : Nat) : Fld := ⟨3, 0x21 + 0x10 * n, 7, 0, 22, .rw, 250, true, false⟩
def synLocked (n : Nat) : Fld := ⟨3, 0x28 + 0x10 * n, 1, 0, 1, .ro, 0, true, false⟩
def synRunning (n : Nat) : Fld := ⟨3, 0x28 + 0x10 * n, 1, 1, 1, .ro, 0, true, false⟩
def synHeld (n : Nat) : Fld := ⟨3, 0x28 + 0x10 * n, 1, 2, 1, .ro, 0, true, false⟩
def synUnaligned (n : Nat) : Fld := ⟨3, 0x28 + 0x10 * n, 1, 3, 1, .ro, 0, true, false⟩
def synPlanerr (n : Nat) : Fld := ⟨3, 0x28 + 0x10 * n, 1, 4, 4, .ro, 0, true, false⟩
def synFact (n : Nat) : Fld := ⟨3, 0x29 + 0x10 * n, 3, 0, 48, .ro, 0x009896800000, true, false⟩
def synRangecnt (n : Nat) : Fld := ⟨3, 0x2c + 0x10 * n, 1, 0, 16, .rc, 0, false, false⟩
def synRealigncnt (n : Nat) : Fld := ⟨3, 0x2d + 0x10 * n, 1, 0, 16, .rc, 0, false, false⟩
def synSepoch (n : Nat) : Fld := ⟨3, 0x2e + 0x10 * n, 2, 0, 32, .ro, 0, true, false⟩
def synRampen : Fld := ⟨3, 0x200, 1, 0, 1, .rw, 0, true, false⟩
def synRampMode : Fld := ⟨3, 0x200, 1, 1, 1, .rw, 0, true, false⟩
def synRampload : Fld := ⟨3, 0x200, 1, 2, 1, .wo, 0, true, false⟩
def synRampRunning : Fld := ⟨3, 0x200, 1, 3, 1, .ro, 0, true, false⟩
def synRclamp : Fld := ⟨3, 0x200, 1, 4, 1, .w1c, 0, true, false⟩
def synSprrate : Fld := ⟨3, 0x201, 1, 0, 16, .rw, 31250, true, false⟩
def synSegnow : Fld := ⟨3, 0x202, 1, 0, 4, .ro, 0, true, false⟩
def synRoff : Fld := ⟨3, 0x203, 2, 0, 24, .ro, 0, true, false⟩
def synRdepth : Fld := ⟨3, 0x205, 2, 0, 24, .ro, 0, true, false⟩
def synLooppass : Fld := ⟨3, 0x207, 1, 0, 16, .ro, 0, true, false⟩
def synSegbeats : Fld := ⟨3, 0x208, 2, 0, 32, .ro, 0, true, false⟩
def synShadow (i : Nat) : Fld := ⟨3, 0x300 + i, 1, 0, 16, .rw, 0, true, false⟩
def synActive (i : Nat) : Fld := ⟨3, 0x380 + i, 1, 0, 16, .ro, 0, true, false⟩
/-! Fields of TIME (R244). -/
def timeUtcoff : Fld := ⟨4, 0, 1, 0, 16, .rw, 37, true, true⟩
def timeUtcauto : Fld := ⟨4, 1, 1, 0, 1, .rw, 1, true, true⟩
def timeLeappend : Fld := ⟨4, 1, 1, 1, 1, .rw, 0, true, true⟩
def timeLeapdir : Fld := ⟨4, 1, 1, 2, 1, .rw, 0, true, true⟩
def timeUtcsrc : Fld := ⟨4, 1, 1, 3, 1, .ro, 0, true, false⟩
def timeLeapat : Fld := ⟨4, 2, 4, 0, 64, .rw, 0, true, true⟩
def timeTstepcnt : Fld := ⟨4, 6, 1, 0, 16, .rc, 0, false, false⟩
def timeRearmcnt : Fld := ⟨4, 7, 1, 0, 16, .rc, 0, false, false⟩
def timeLaststepat : Fld := ⟨4, 8, 4, 0, 64, .ro, 0, true, false⟩
def timeFmterr : Fld := ⟨4, 0xc, 1, 0, 1, .w1c, 0, true, false⟩
def timePipPeriodic (n : Nat) : Fld := ⟨4, 0x100 + 0x10 * n, 1, 0, 1, .rw, 0, true, false⟩
def timePipPol (n : Nat) : Fld := ⟨4, 0x100 + 0x10 * n, 1, 1, 1, .rw, 0, true, false⟩
def timePipPin (n : Nat) : Fld := ⟨4, 0x100 + 0x10 * n, 1, 2, 4, .rw, 0, true, false⟩
def timePipPinen (n : Nat) : Fld := ⟨4, 0x100 + 0x10 * n, 1, 6, 1, .rw, 0, true, false⟩
def timePipBramen (n : Nat) : Fld := ⟨4, 0x100 + 0x10 * n, 1, 7, 1, .rw, 0, true, false⟩
def timePipStart (n : Nat) : Fld := ⟨4, 0x101 + 0x10 * n, 7, 0, 112, .rw, 0, true, false⟩
def timePipPeriod (n : Nat) : Fld := ⟨4, 0x108 + 0x10 * n, 5, 0, 80, .rw, 0, true, false⟩
def timePipWidth (n : Nat) : Fld := ⟨4, 0x10d + 0x10 * n, 2, 0, 30, .rw, 8, true, false⟩
def timePipArmed (n : Nat) : Fld := ⟨4, 0x10f + 0x10 * n, 1, 0, 1, .ro, 0, true, false⟩
def timePipMissed (n : Nat) : Fld := ⟨4, 0x10f + 0x10 * n, 1, 1, 1, .w1c, 0, true, false⟩
def timePipWrbusy (n : Nat) : Fld := ⟨4, 0x10f + 0x10 * n, 1, 2, 1, .w1c, 0, true, false⟩
def timePipRearmed (n : Nat) : Fld := ⟨4, 0x10f + 0x10 * n, 1, 3, 1, .w1c, 0, true, false⟩
def timePipArmerr (n : Nat) : Fld := ⟨4, 0x10f + 0x10 * n, 1, 4, 3, .ro, 0, true, false⟩
def timeCapSrc (n : Nat) : Fld := ⟨4, 0x400 + 0x10 * n, 1, 0, 6, .rw, 0x3F, true, false⟩
def timeCapEdge (n : Nat) : Fld := ⟨4, 0x400 + 0x10 * n, 1, 6, 2, .rw, 0, true, false⟩
def timeCapDepth (n : Nat) : Fld := ⟨4, 0x401 + 0x10 * n, 1, 0, 5, .ro, 0, true, false⟩
def timeCapOvf (n : Nat) : Fld := ⟨4, 0x401 + 0x10 * n, 1, 5, 1, .w1c, 0, true, false⟩
def timeCapSrcerr (n : Nat) : Fld := ⟨4, 0x401 + 0x10 * n, 1, 6, 1, .ro, 0, true, false⟩
def timeCapLostcnt (n : Nat) : Fld := ⟨4, 0x402 + 0x10 * n, 1, 0, 16, .rc, 0, false, false⟩
def timeCapHead (n : Nat) : Fld := ⟨4, 0x408 + 0x10 * n, 8, 0, 128, .rc, 0, true, false⟩
def timeTioDir (n : Nat) : Fld := ⟨4, 0x600 + n, 1, 0, 2, .rw, 0, true, false⟩
def timeTioSlew (n : Nat) : Fld := ⟨4, 0x600 + n, 1, 2, 2, .rw, 2, true, false⟩
def timeTioGlitch (n : Nat) : Fld := ⟨4, 0x600 + n, 1, 4, 9, .rw, 1, true, false⟩
def timeTioOutsrc (n : Nat) : Fld := ⟨4, 0x600 + n, 1, 13, 1, .rw, 0, true, false⟩
def timeTioLevel (n : Nat) : Fld := ⟨4, 0x600 + n, 1, 14, 1, .ro, 0, true, false⟩
/-! Fields of PORT (R264 to R266). -/
def portAgetime : Fld := ⟨5, 0, 1, 0, 16, .rw, 300, true, false⟩
def portPcpmap : Fld := ⟨5, 1, 1, 0, 16, .rw, 0xFA41, true, false⟩
def portAtcount : Fld := ⟨5, 2, 1, 0, 11, .ro, 0, true, false⟩
def portAtfull : Fld := ⟨5, 3, 1, 0, 16, .rc, 0, false, false⟩
def portMoves : Fld := ⟨5, 4, 1, 0, 16, .rc, 0, false, false⟩
def portFlush : Fld := ⟨5, 5, 1, 0, 4, .wo, 0, true, false⟩
def portFmemce : Fld := ⟨5, 6, 1, 0, 16, .rc, 0, true, false⟩
def portPen (n : Nat) : Fld := ⟨5, 0x100 + 0x100 * n, 1, 0, 1, .rw, 0, true, false⟩
def portPmode (n : Nat) : Fld := ⟨5, 0x100 + 0x100 * n, 1, 1, 2, .rw, 0, true, false⟩
def portCutthru (n : Nat) : Fld := ⟨5, 0x100 + 0x100 * n, 1, 3, 1, .rw, 0, true, false⟩
def portAccept (n : Nat) : Fld := ⟨5, 0x100 + 0x100 * n, 1, 4, 2, .rw, 0, true, false⟩
def portIngfilt (n : Nat) : Fld := ⟨5, 0x100 + 0x100 * n, 1, 6, 1, .rw, 1, true, false⟩
def portLearn (n : Nat) : Fld := ⟨5, 0x100 + 0x100 * n, 1, 7, 1, .rw, 1, true, false⟩
def portEqfrz (n : Nat) : Fld := ⟨5, 0x100 + 0x100 * n, 1, 8, 1, .rw, 0, true, false⟩
def portAn1g (n : Nat) : Fld := ⟨5, 0x100 + 0x100 * n, 1, 9, 1, .rw, 1, true, false⟩
def portPvid (n : Nat) : Fld := ⟨5, 0x101 + 0x100 * n, 1, 0, 12, .rw, 1, true, false⟩
def portPpcp (n : Nat) : Fld := ⟨5, 0x101 + 0x100 * n, 1, 12, 3, .rw, 0, true, false⟩
def portEglim (n : Nat) : Fld := ⟨5, 0x102 + 0x100 * n, 1, 0, 11, .rw, 256, true, false⟩
def portTxlat (n : Nat) : Fld := ⟨5, 0x103 + 0x100 * n, 1, 0, 16, .rw, 0, true, false⟩
def portRxlat (n : Nat) : Fld := ⟨5, 0x104 + 0x100 * n, 1, 0, 16, .rw, 0, true, false⟩
def portDiagper (n : Nat) : Fld := ⟨5, 0x105 + 0x100 * n, 1, 0, 14, .rw, 0, true, true⟩
def portDiagdorm (n : Nat) : Fld := ⟨5, 0x105 + 0x100 * n, 1, 14, 1, .rw, 1, true, true⟩
def portDiagnow (n : Nat) : Fld := ⟨5, 0x105 + 0x100 * n, 1, 15, 1, .wo, 0, true, true⟩
def portPirqen (n : Nat) : Fld := ⟨5, 0x106 + 0x100 * n, 1, 0, 5, .rw, 0, true, false⟩
def portPirqstat (n : Nat) : Fld := ⟨5, 0x107 + 0x100 * n, 1, 0, 5, .w1c, 0, true, false⟩
def portLink (n : Nat) : Fld := ⟨5, 0x108 + 0x100 * n, 1, 0, 1, .ro, 0, true, false⟩
def portSpeed (n : Nat) : Fld := ⟨5, 0x108 + 0x100 * n, 1, 1, 2, .ro, 0, true, false⟩
def portSfppres (n : Nat) : Fld := ⟨5, 0x108 + 0x100 * n, 1, 3, 1, .ro, 0, true, false⟩
def portLos (n : Nat) : Fld := ⟨5, 0x108 + 0x100 * n, 1, 4, 1, .ro, 1, true, false⟩
def portTxfault (n : Nat) : Fld := ⟨5, 0x108 + 0x100 * n, 1, 5, 1, .ro, 0, true, false⟩
def portSfpok (n : Nat) : Fld := ⟨5, 0x108 + 0x100 * n, 1, 6, 1, .ro, 0, true, false⟩
def portLatauto (n : Nat) : Fld := ⟨5, 0x108 + 0x100 * n, 1, 7, 1, .ro, 0, true, false⟩
def portCmhold (n : Nat) : Fld := ⟨5, 0x108 + 0x100 * n, 1, 8, 1, .ro, 0, true, false⟩
def portEqstate (n : Nat) : Fld := ⟨5, 0x108 + 0x100 * n, 1, 9, 3, .ro, 0, true, false⟩
def portDtemp (n : Nat) : Fld := ⟨5, 0x109 + 0x100 * n, 1, 0, 16, .ro, 0, true, false⟩
def portDvcc (n : Nat) : Fld := ⟨5, 0x10a + 0x100 * n, 1, 0, 16, .ro, 0, true, false⟩
def portDbias (n : Nat) : Fld := ⟨5, 0x10b + 0x100 * n, 1, 0, 16, .ro, 0, true, false⟩
def portDtxpwr (n : Nat) : Fld := ⟨5, 0x10c + 0x100 * n, 1, 0, 16, .ro, 0, true, false⟩
def portDrxpwr (n : Nat) : Fld := ⟨5, 0x10d + 0x100 * n, 1, 0, 16, .ro, 0, true, false⟩
def portDalarm (n : Nat) : Fld := ⟨5, 0x10e + 0x100 * n, 1, 0, 16, .ro, 0, true, false⟩
def portDwarn (n : Nat) : Fld := ⟨5, 0x10f + 0x100 * n, 1, 0, 16, .ro, 0, true, false⟩
def portMse (n : Nat) : Fld := ⟨5, 0x110 + 0x100 * n, 1, 0, 16, .ro, 0, true, false⟩
def portEchores (n : Nat) : Fld := ⟨5, 0x111 + 0x100 * n, 1, 0, 16, .ro, 0, true, false⟩
def portCmpeak (n : Nat) : Fld := ⟨5, 0x112 + 0x100 * n, 1, 0, 16, .rc, 0, true, false⟩
def portCmholdcnt (n : Nat) : Fld := ⟨5, 0x113 + 0x100 * n, 1, 0, 16, .rc, 0, false, false⟩
def portRxok (n : Nat) : Fld := ⟨5, 0x120 + 0x100 * n, 2, 0, 32, .rc, 0, false, false⟩
def portTxok (n : Nat) : Fld := ⟨5, 0x122 + 0x100 * n, 2, 0, 32, .rc, 0, false, false⟩
def portRxfcs (n : Nat) : Fld := ⟨5, 0x124 + 0x100 * n, 1, 0, 16, .rc, 0, false, false⟩
def portRxsize (n : Nat) : Fld := ⟨5, 0x125 + 0x100 * n, 1, 0, 16, .rc, 0, false, false⟩
def portVlandrop (n : Nat) : Fld := ⟨5, 0x126 + 0x100 * n, 1, 0, 16, .rc, 0, false, false⟩
def portPausedrop (n : Nat) : Fld := ⟨5, 0x127 + 0x100 * n, 1, 0, 16, .rc, 0, false, false⟩
def portCongdrop (n : Nat) (c : Nat) : Fld := ⟨5, 0x128 + 0x100 * n + c, 1, 0, 16, .rc, 0, false, false⟩
def portFlushdrop (n : Nat) : Fld := ⟨5, 0x12c + 0x100 * n, 1, 0, 16, .rc, 0, false, false⟩
def portCterr (n : Nat) : Fld := ⟨5, 0x12d + 0x100 * n, 1, 0, 16, .rc, 0, false, false⟩
def portTxabort (n : Nat) : Fld := ⟨5, 0x12e + 0x100 * n, 1, 0, 16, .rc, 0, false, false⟩
def portTsstall (n : Nat) : Fld := ⟨5, 0x12f + 0x100 * n, 1, 0, 16, .rc, 0, false, false⟩
def portLinkdowns (n : Nat) : Fld := ⟨5, 0x130 + 0x100 * n, 1, 0, 16, .rc, 0, false, false⟩
def portRetrains (n : Nat) : Fld := ⟨5, 0x131 + 0x100 * n, 1, 0, 16, .rc, 0, false, false⟩
def portVid (v : Nat) : Fld := ⟨5, 0x1000 + 4 * v, 4, 48, 12, .rw, (if v=0 then 1 else 0), true, false⟩
def portValid (v : Nat) : Fld := ⟨5, 0x1000 + 4 * v, 4, 63, 1, .rw, (if v=0 then 1 else 0), true, false⟩
def portMember (v : Nat) : Fld := ⟨5, 0x1000 + 4 * v, 4, 32, 4, .rw, (if v=0 then 0xF else 0), true, false⟩
def portUntag (v : Nat) : Fld := ⟨5, 0x1000 + 4 * v, 4, 16, 4, .rw, (if v=0 then 0xF else 0), true, false⟩
def portVowner (v : Nat) : Fld := ⟨5, 0x1000 + 4 * v, 4, 0, 3, .rw, 0, true, false⟩
def portSmac (e : Nat) : Fld := ⟨5, 0x2000 + 4 * e, 4, 16, 48, .rw, 0, true, false⟩
def portSmask (e : Nat) : Fld := ⟨5, 0x2000 + 4 * e, 4, 0, 4, .rw, 0, true, false⟩
def portSvlan (e : Nat) : Fld := ⟨5, 0x2000 + 4 * e, 4, 4, 6, .rw, 0, true, false⟩
def portSvalid (e : Nat) : Fld := ⟨5, 0x2000 + 4 * e, 4, 15, 1, .rw, 0, true, false⟩
/-! Fields of PTP (R289 and R290). -/
def ptpClktype : Fld := ⟨6, 0, 1, 0, 3, .rwl, 0, true, true⟩
def ptpProfile : Fld := ⟨6, 0, 1, 4, 2, .rwl, 0, true, true⟩
def ptpSlaveonly : Fld := ⟨6, 0, 1, 6, 1, .rwl, 0, true, true⟩
def ptpUtcvalid : Fld := ⟨6, 0, 1, 7, 1, .rw, 0, true, true⟩
def ptpCfgerr : Fld := ⟨6, 0, 1, 8, 1, .ro, 0, true, false⟩
def ptpClamped : Fld := ⟨6, 0, 1, 9, 1, .w1c, 0, true, false⟩
def ptpDomain : Fld := ⟨6, 1, 1, 0, 8, .rwl, 0, true, true⟩
def ptpClassmax : Fld := ⟨6, 1, 1, 8, 8, .rw, 7, true, true⟩
def ptpPrio1 : Fld := ⟨6, 2, 1, 0, 8, .rw, 128, true, true⟩
def ptpPrio2 : Fld := ⟨6, 2, 1, 8, 8, .rw, 128, true, true⟩
def ptpClkid : Fld := ⟨6, 3, 4, 0, 64, .ro, Config.clkid.toNat, true, false⟩
def ptpRsv1e : Fld := ⟨6, 7, 1, 0, 8, .rw, 8, true, true⟩
def ptpRsv2e : Fld := ⟨6, 7, 1, 8, 8, .rw, 8, true, true⟩
def ptpRsv3e : Fld := ⟨6, 8, 1, 0, 8, .rw, 16, true, true⟩
def ptpRsv1g : Fld := ⟨6, 8, 1, 8, 8, .rw, 8, true, true⟩
def ptpRsv2g : Fld := ⟨6, 9, 1, 0, 8, .rw, 8, true, true⟩
def ptpClass : Fld := ⟨6, 0xa, 1, 0, 8, .ro, 248, true, false⟩
def ptpAccuracy : Fld := ⟨6, 0xa, 1, 8, 8, .ro, 0xFE, true, false⟩
def ptpGmid : Fld := ⟨6, 0x10, 4, 0, 64, .ro, 0, true, false⟩
def ptpGmclass : Fld := ⟨6, 0x14, 1, 0, 8, .ro, 0, true, false⟩
def ptpSteps : Fld := ⟨6, 0x14, 1, 8, 8, .ro, 0, true, false⟩
def ptpParentport : Fld := ⟨6, 0x15, 1, 0, 4, .ro, 0xF, true, false⟩
def ptpOvlive : Fld := ⟨6, 0x18, 1, 0, 1, .ro, 0, true, false⟩
def ptpOvsecs : Fld := ⟨6, 0x19, 1, 0, 16, .rc, 0, false, false⟩
def ptpEn (n : Nat) : Fld := ⟨6, 0x100 + 0x100 * n, 1, 0, 1, .rw, 0, true, true⟩
def ptpMech (n : Nat) : Fld := ⟨6, 0x100 + 0x100 * n, 1, 1, 2, .rw, 0, true, true⟩
def ptpTransport (n : Nat) : Fld := ⟨6, 0x100 + 0x100 * n, 1, 3, 2, .rwl, 0, true, true⟩
def ptpOnestep (n : Nat) : Fld := ⟨6, 0x100 + 0x100 * n, 1, 5, 1, .rw, 0, true, true⟩
def ptpMasteronly (n : Nat) : Fld := ⟨6, 0x100 + 0x100 * n, 1, 6, 1, .rw, 0, true, true⟩
def ptpExtcfg (n : Nat) : Fld := ⟨6, 0x100 + 0x100 * n, 1, 7, 1, .rw, 0, true, true⟩
def ptpExtstate (n : Nat) : Fld := ⟨6, 0x100 + 0x100 * n, 1, 8, 4, .rw, 4, true, true⟩
def ptpEsmcen (n : Nat) : Fld := ⟨6, 0x100 + 0x100 * n, 1, 12, 1, .rw, 0, true, true⟩
def ptpLogsync (n : Nat) : Fld := ⟨6, 0x101 + 0x100 * n, 1, 0, 8, .rw, 0, true, true⟩
def ptpLogann (n : Nat) : Fld := ⟨6, 0x101 + 0x100 * n, 1, 8, 8, .rw, 1, true, true⟩
def ptpArto (n : Nat) : Fld := ⟨6, 0x102 + 0x100 * n, 1, 0, 8, .rw, 3, true, true⟩
def ptpLogdreq (n : Nat) : Fld := ⟨6, 0x102 + 0x100 * n, 1, 8, 8, .rw, 0, true, true⟩
def ptpPvid (n : Nat) : Fld := ⟨6, 0x103 + 0x100 * n, 1, 0, 12, .rw, 0, true, true⟩
def ptpPpcp (n : Nat) : Fld := ⟨6, 0x103 + 0x100 * n, 1, 12, 3, .rw, 7, true, true⟩
def ptpIpv4 (n : Nat) : Fld := ⟨6, 0x104 + 0x100 * n, 2, 0, 32, .rw, 0, true, true⟩
def ptpIpv6 (n : Nat) : Fld := ⟨6, 0x106 + 0x100 * n, 8, 0, 128, .rw, 0, true, true⟩
def ptpTtl (n : Nat) : Fld := ⟨6, 0x10e + 0x100 * n, 1, 0, 8, .rw, 1, true, true⟩
def ptpAsym (n : Nat) : Fld := ⟨6, 0x10f + 0x100 * n, 1, 0, 16, .rw, 0, true, true⟩
def ptpPstate (n : Nat) : Fld := ⟨6, 0x110 + 0x100 * n, 1, 0, 4, .ro, 3, true, false⟩
def ptpOffset (n : Nat) : Fld := ⟨6, 0x111 + 0x100 * n, 3, 0, 48, .ro, 0, true, false⟩
def ptpMpd (n : Nat) : Fld := ⟨6, 0x114 + 0x100 * n, 3, 0, 48, .ro, 0, true, false⟩
def ptpQltx (n : Nat) : Fld := ⟨6, 0x117 + 0x100 * n, 1, 0, 4, .ro, 0xF, true, false⟩
def ptpDrop (n : Nat) (c : Nat) : Fld := ⟨6, 0x118 + 0x100 * n + c, 1, 0, 16, .rc, 0, false, false⟩
def ptpTqrefuse (n : Nat) : Fld := ⟨6, 0x11c + 0x100 * n, 1, 0, 16, .rc, 0, false, false⟩
def ptpTcdrop (n : Nat) : Fld := ⟨6, 0x11d + 0x100 * n, 1, 0, 16, .rc, 0, false, false⟩
def ptpOnestepfb (n : Nat) : Fld := ⟨6, 0x11e + 0x100 * n, 1, 0, 16, .rc, 0, false, false⟩
def ptpJumpref (n : Nat) : Fld := ⟨6, 0x11f + 0x100 * n, 1, 0, 8, .rc, 0, false, false⟩
def ptpAnntmo (n : Nat) : Fld := ⟨6, 0x120 + 0x100 * n, 1, 0, 16, .rc, 0, false, false⟩
def ptpMgmtdrop (n : Nat) : Fld := ⟨6, 0x121 + 0x100 * n, 1, 0, 16, .rc, 0, false, false⟩
def ptpIrqen (n : Nat) : Fld := ⟨6, 0x122 + 0x100 * n, 1, 0, 5, .rw, 0, true, true⟩
def ptpIrqstat (n : Nat) : Fld := ⟨6, 0x123 + 0x100 * n, 1, 0, 5, .w1c, 0, true, true⟩
/-! Fields of ENS (R310 and R311). -/
def ensLepen (b : Nat) : Fld := ⟨7, 0, 1, b, 1, .rw, 0, true, true⟩
def ensRelay : Fld := ⟨7, 0, 1, 2, 1, .rw, 1, true, true⟩
def ensLoglep : Fld := ⟨7, 1, 1, 0, 8, .rw, 0, true, true⟩
def ensEnsid : Fld := ⟨7, 2, 1, 0, 16, .rwl, 0, true, true⟩
def ensDigestx : Fld := ⟨7, 3, 2, 0, 32, .rwl, 0, true, true⟩
def ensDigest : Fld := ⟨7, 5, 2, 0, 32, .ro, 0, true, false⟩
def ensHopmax : Fld := ⟨7, 7, 1, 0, 4, .rw, 8, true, true⟩
def ensPqual : Fld := ⟨7, 8, 1, 0, 8, .rw, 16, true, true⟩
def ensPlost : Fld := ⟨7, 8, 1, 8, 8, .rw, 4, true, true⟩
def ensMadmin : Fld := ⟨7, 9, 1, 0, 16, .rw, 20, true, true⟩
def ensLepslot : Fld := ⟨7, 0xa, 1, 0, 10, .rw, (Config.clkid.toNat%1024), true, true⟩
def ensVersion : Fld := ⟨7, 0xb, 1, 0, 8, .ro, 0x10, true, false⟩
def ensCount : Fld := ⟨7, 0x10, 1, 0, 5, .ro, 0, true, false⟩
def ensContrib : Fld := ⟨7, 0x10, 1, 8, 5, .ro, 0, true, false⟩
def ensConsoff : Fld := ⟨7, 0x11, 3, 0, 48, .ro, 0, true, false⟩
def ensCnoise : Fld := ⟨7, 0x14, 1, 0, 16, .ro, 0, true, false⟩
def ensIrqen : Fld := ⟨7, 0x15, 1, 0, 5, .rw, 0, true, true⟩
def ensIrqstat : Fld := ⟨7, 0x16, 1, 0, 5, .w1c, 0, true, true⟩
def ensVerdrop : Fld := ⟨7, 0x20, 1, 0, 16, .rc, 0, false, false⟩
def ensDupdrop : Fld := ⟨7, 0x21, 1, 0, 16, .rc, 0, false, false⟩
def ensHopdrop : Fld := ⟨7, 0x22, 1, 0, 16, .rc, 0, false, false⟩
def ensLoopback : Fld := ⟨7, 0x23, 1, 0, 16, .rc, 0, false, false⟩
def ensPeerfull : Fld := ⟨7, 0x24, 1, 0, 16, .rc, 0, false, false⟩
def ensMisstx : Fld := ⟨7, 0x25, 1, 0, 16, .rc, 0, false, false⟩
def ensOutlier : Fld := ⟨7, 0x26, 1, 0, 16, .rc, 0, false, false⟩
def ensRelayed : Fld := ⟨7, 0x27, 1, 0, 16, .rc, 0, false, false⟩
def ensPstate (k : Nat) : Fld := ⟨7, 0x100 + 0x20 * k, 1, 0, 3, .ro, 0, true, false⟩
def ensSplit (k : Nat) : Fld := ⟨7, 0x100 + 0x20 * k, 1, 3, 1, .ro, 0, true, false⟩
def ensExcl (k : Nat) : Fld := ⟨7, 0x100 + 0x20 * k, 1, 4, 1, .ro, 0, true, false⟩
def ensPstale (k : Nat) : Fld := ⟨7, 0x100 + 0x20 * k, 1, 5, 1, .ro, 0, true, false⟩
def ensPeerport (k : Nat) : Fld := ⟨7, 0x100 + 0x20 * k, 1, 6, 1, .ro, 0, true, false⟩
def ensHops (k : Nat) : Fld := ⟨7, 0x100 + 0x20 * k, 1, 8, 4, .ro, 0, true, false⟩
def ensClockid (k : Nat) : Fld := ⟨7, 0x101 + 0x20 * k, 4, 0, 64, .ro, 0, true, false⟩
def ensPstatebits (k : Nat) : Fld := ⟨7, 0x105 + 0x20 * k, 1, 0, 5, .ro, 0, true, false⟩
def ensPmq (k : Nat) : Fld := ⟨7, 0x105 + 0x20 * k, 1, 8, 8, .ro, 0, true, false⟩
def ensPver (k : Nat) : Fld := ⟨7, 0x106 + 0x20 * k, 1, 0, 8, .ro, 0, true, false⟩
def ensPdigest (k : Nat) : Fld := ⟨7, 0x107 + 0x20 * k, 2, 0, 32, .ro, 0, true, false⟩
def ensPoff (k : Nat) : Fld := ⟨7, 0x109 + 0x20 * k, 3, 0, 48, .ro, 0, true, false⟩
def ensPdelay (k : Nat) : Fld := ⟨7, 0x10c + 0x20 * k, 3, 0, 48, .ro, 0, true, false⟩
def ensWeight (k : Nat) : Fld := ⟨7, 0x10f + 0x20 * k, 1, 0, 16, .ro, 0, true, false⟩
def ensSrcid (k : Nat) : Fld := ⟨7, 0x110 + 0x20 * k, 4, 0, 64, .ro, 0, true, false⟩
def ensSrckind (k : Nat) : Fld := ⟨7, 0x114 + 0x20 * k, 1, 0, 4, .ro, 0, true, false⟩
def ensTest (k : Nat) : Fld := ⟨7, 0x115 + 0x20 * k, 2, 0, 32, .ro, 0, true, false⟩
def ensAge (k : Nat) : Fld := ⟨7, 0x117 + 0x20 * k, 1, 0, 16, .ro, 0, true, false⟩
/-! Fields of BRAMBLE (R325). -/
def bramAlarmok : Fld := ⟨8, 0, 1, 0, 4, .rw, 0, true, false⟩
def bramFifoovf : Fld := ⟨8, 1, 1, 0, 16, .rc, 0, false, false⟩
def bramPath (c : Nat) : Fld := ⟨8, 0x100 + 0x10 * c, 1, 0, 1, .rw, 0, true, false⟩
def bramOwner (c : Nat) : Fld := ⟨8, 0x100 + 0x10 * c, 1, 1, 3, .ro, 0, true, false⟩
def bramOwnerr (c : Nat) : Fld := ⟨8, 0x100 + 0x10 * c, 1, 4, 1, .w1c, 0, true, false⟩
def bramPen (c : Nat) : Fld := ⟨8, 0x101 + 0x10 * c, 3, 0, 48, .rw, 0, true, false⟩
def bramCen (c : Nat) : Fld := ⟨8, 0x104 + 0x10 * c, 4, 0, 64, .rw, 0, true, false⟩
def bramCoalcnt (c : Nat) : Fld := ⟨8, 0x108 + 0x10 * c, 1, 0, 16, .rc, 0, false, false⟩
def bramEvtcnt (c : Nat) : Fld := ⟨8, 0x109 + 0x10 * c, 1, 0, 16, .rc, 0, false, false⟩
def bramPedge (n : Nat) : Fld := ⟨8, 0x400 + n, 1, 0, 2, .rw, 1, true, false⟩
def bramPw (n : Nat) : Fld := ⟨8, 0x500 + n, 1, 0, 8, .rw, 1, true, false⟩
def bramToggle (n : Nat) : Fld := ⟨8, 0x500 + n, 1, 8, 1, .rw, 0, true, false⟩
def bramDepth (f : Nat) : Fld := ⟨8, 0x600 + 0x10 * f, 1, 0, 5, .ro, 0, true, false⟩
def bramOvf (f : Nat) : Fld := ⟨8, 0x600 + 0x10 * f, 1, 5, 1, .w1c, 0, true, false⟩
def bramHead (f : Nat) : Fld := ⟨8, 0x601 + 0x10 * f, 4, 0, 64, .rc, 0, true, false⟩
/-! Fields of TENANT (R344). -/
def tenTnen : Fld := ⟨9, 0, 1, 0, 4, .rw, 0, true, false⟩
def tenVlanerr : Fld := ⟨9, 0, 1, 4, 1, .w1c, 0, true, false⟩
def tenPipmask (k : Nat) : Fld := ⟨9, 0x10 + 0x10 * k, 1, 0, 16, .rw, 0, true, true⟩
def tenCapmask (k : Nat) : Fld := ⟨9, 0x11 + 0x10 * k, 1, 0, 16, .rw, 0, true, true⟩
def tenChanmask (k : Nat) : Fld := ⟨9, 0x12 + 0x10 * k, 2, 0, 32, .rw, 0, true, true⟩
def tenTiomask (k : Nat) : Fld := ⟨9, 0x14 + 0x10 * k, 1, 0, 16, .rw, 0, true, true⟩
def tenCkmask (k : Nat) : Fld := ⟨9, 0x15 + 0x10 * k, 1, 0, 8, .rw, 0, true, true⟩
def tenStoneblk (k : Nat) : Fld := ⟨9, 0x16 + 0x10 * k, 1, 0, 6, .rw, 0, true, true⟩
def tenPressblk (k : Nat) : Fld := ⟨9, 0x17 + 0x10 * k, 1, 0, 4, .rw, 0, true, true⟩
def tenLogblk (k : Nat) : Fld := ⟨9, 0x17 + 0x10 * k, 1, 4, 4, .rw, 0, true, true⟩
def tenAllocerr (k : Nat) : Fld := ⟨9, 0x18 + 0x10 * k, 1, 0, 3, .ro, 0, true, false⟩
def tenDpip (k : Nat) : Fld := ⟨9, 0x19 + 0x10 * k, 1, 0, 16, .ro, 0, true, false⟩
def tenDcap (k : Nat) : Fld := ⟨9, 0x1a + 0x10 * k, 1, 0, 16, .ro, 0, true, false⟩
def tenDchan (k : Nat) : Fld := ⟨9, 0x1b + 0x10 * k, 2, 0, 32, .ro, 0, true, false⟩
def tenDtio (k : Nat) : Fld := ⟨9, 0x1d + 0x10 * k, 1, 0, 16, .ro, 0, true, false⟩
def tenDck (k : Nat) : Fld := ⟨9, 0x1e + 0x10 * k, 1, 0, 8, .ro, 0, true, false⟩
/-! Fields of STONE (R364). -/
def stoTxnwords : Fld := ⟨10, 0x100000, 1, 0, 10, .ro, 0, false, false⟩
def stoJpend : Fld := ⟨10, 0x100001, 1, 0, 6, .ro, 0, true, false⟩
def stoSeq : Fld := ⟨10, 0x100002, 2, 0, 32, .ro, 0, true, false⟩
def stoJserial : Fld := ⟨10, 0x100004, 2, 0, 32, .ro, 0, true, false⟩
def stoPuflags : Fld := ⟨10, 0x100006, 1, 0, 6, .ro, 0, true, false⟩
def stoJapplied : Fld := ⟨10, 0x100006, 1, 8, 6, .ro, 0, true, false⟩
def stoBufrej : Fld := ⟨10, 0x100007, 1, 0, 16, .rc, 0, false, false⟩
def stoNotxn : Fld := ⟨10, 0x100008, 1, 0, 16, .rc, 0, false, false⟩
def stoHolddef : Fld := ⟨10, 0x100009, 1, 0, 16, .rc, 0, false, false⟩
def stoMscanpos : Fld := ⟨10, 0x10000a, 1, 0, 13, .ro, 0, true, false⟩
def stoMscans : Fld := ⟨10, 0x10000b, 1, 0, 16, .rc, 0, true, false⟩
def stoWeakcnt : Fld := ⟨10, 0x10000c, 1, 0, 16, .rc, 0, true, false⟩
def stoCecnt : Fld := ⟨10, 0x10000d, 1, 0, 16, .rc, 0, true, false⟩
def stoUecnt : Fld := ⟨10, 0x10000e, 1, 0, 16, .rc, 0, true, false⟩
def stoStorefail : Fld := ⟨10, 0x10000f, 1, 0, 16, .rc, 0, true, false⟩
def stoErase (b : Nat) : Fld := ⟨10, 0x100010 + 2 * b, 2, 0, 32, .ro, 0, true, false⟩
def stoTincrej : Fld := ⟨10, 0x100014, 1, 0, 16, .rc, 0, false, false⟩
def stoTally (n : Nat) : Fld := ⟨10, 0x200000 + 2 * n, 2, 0, 32, .ro, 0, true, false⟩
def stoTallyinc : Fld := ⟨10, 0x200040, 1, 0, 5, .wo, 0, true, true⟩
/-! Fields of CAL (R382). -/
def calCalver : Fld := ⟨11, 0, 1, 0, 16, .ro, 1, true, false⟩
def calOriginBg : Fld := ⟨11, 1, 1, 0, 2, .ro, 0, true, false⟩
def calOriginThr : Fld := ⟨11, 1, 1, 2, 2, .ro, 0, true, false⟩
def calOriginTdc : Fld := ⟨11, 1, 1, 4, 2, .ro, 0, true, false⟩
def calOriginSkew : Fld := ⟨11, 1, 1, 6, 2, .ro, 0, true, false⟩
def calSupgain : Fld := ⟨11, 2, 1, 0, 16, .rw, Config.facSupgain.toNat, true, true⟩
def calSupoff : Fld := ⟨11, 3, 1, 0, 16, .rw, Config.facSupoff.toNat, true, true⟩
def calTempoff : Fld := ⟨11, 4, 1, 0, 16, .rw, Config.facTempoff.toNat, true, true⟩
def calAvsref (d : Nat) : Fld := ⟨11, 5 + d, 1, 0, 16, .rw, (Config.facAvsref d).toNat, true, true⟩
def calSwing (n : Nat) : Fld := ⟨11, 8 + n, 1, 0, 16, .rw, (Config.facSwing n).toNat, true, true⟩
def calThroff (n : Nat) : Fld := ⟨11, 0x10 + n, 1, 0, 16, .rw, (Config.facThroff n).toNat, true, true⟩
def calSkew (n : Nat) : Fld := ⟨11, 0x18 + n, 1, 0, 8, .rw, (Config.facSkew n).toNat, true, true⟩
def calTdcw (c : Nat) : Fld := ⟨11, 0x100 + 0x80 * c, 128, 0, 2048, .rw, (Config.facTdcw c).toNat, true, true⟩
def calCalcrc : Fld := ⟨11, 0xffe, 2, 0, 32, .ro, 0, true, false⟩
def calTdctol : Fld := ⟨11, 0x1000, 1, 0, 10, .rw, 154, true, true⟩
def calFacload : Fld := ⟨11, 0x1001, 1, 0, 1, .wo, 0, true, true⟩
def calWrbusy : Fld := ⟨11, 0x1001, 1, 1, 1, .w1c, 0, true, true⟩
def calLastsec : Fld := ⟨11, 0x1002, 4, 0, 64, .ro, 0, true, false⟩
def calLastns : Fld := ⟨11, 0x1006, 2, 0, 32, .ro, 0, true, false⟩
def calLastuntr : Fld := ⟨11, 0x1008, 1, 0, 1, .ro, 0, true, false⟩
def calRejitem : Fld := ⟨11, 0x1009, 1, 0, 8, .ro, 0, true, false⟩
def calSkipcnt : Fld := ⟨11, 0x100a, 1, 0, 16, .rc, 0, false, false⟩
def calWrrej : Fld := ⟨11, 0x100b, 1, 0, 16, .rc, 0, false, false⟩
def calTdcstale : Fld := ⟨11, 0x100c, 2, 0, 22, .ro, 0, true, false⟩
def calAuxstale : Fld := ⟨11, 0x100e, 1, 0, 5, .ro, 0, true, false⟩
def calTdcout : Fld := ⟨11, 0x1010, 2, 0, 22, .ro, 0, true, false⟩
/-! Fields of FAULT (R396). -/
def fltLines : Fld := ⟨12, 0, 1, 0, 14, .ro, 0, true, false⟩
def fltSafeblk : Fld := ⟨12, 1, 1, 0, 4, .ro, 0xF, true, false⟩
def fltSafecls : Fld := ⟨12, 1, 1, 4, 4, .ro, 0xF, true, false⟩
def fltLevel (b : Nat) : Fld := ⟨12, 0x100 + 0x40 * b, 1, 0, 2, .ro, 0, true, false⟩
def fltUnclr (b : Nat) : Fld := ⟨12, 0x100 + 0x40 * b, 1, 2, 1, .ro, 0, true, false⟩
def fltIsol (b : Nat) : Fld := ⟨12, 0x100 + 0x40 * b, 1, 3, 1, .ro, 0, true, false⟩
def fltQuiet (b : Nat) : Fld := ⟨12, 0x101 + 0x40 * b, 2, 0, 32, .rw, 60, true, true⟩
def fltLive (b : Nat) : Fld := ⟨12, 0x103 + 0x40 * b, 1, 0, 16, .ro, 0, true, false⟩
def fltIrqen (b : Nat) : Fld := ⟨12, 0x104 + 0x40 * b, 1, 0, 16, .rw, 0, true, false⟩
def fltForce (b : Nat) : Fld := ⟨12, 0x105 + 0x40 * b, 1, 0, 16, .wo, 0, true, false⟩
def fltForceinfo (b : Nat) : Fld := ⟨12, 0x106 + 0x40 * b, 1, 0, 16, .rw, 0, true, false⟩
def fltAck (b : Nat) : Fld := ⟨12, 0x107 + 0x40 * b, 1, 0, 16, .wo, 0, true, false⟩
def fltFirst (b : Nat) : Fld := ⟨12, 0x108 + 0x40 * b, 8, 0, 128, .ro, 0, true, false⟩
def fltLast (b : Nat) : Fld := ⟨12, 0x110 + 0x40 * b, 8, 0, 128, .ro, 0, true, false⟩
def fltRec (b : Nat) (c : Nat) : Fld := ⟨12, 0x120 + 0x40 * b + c, 1, 0, 16, .ro, 0, true, false⟩
def fltCnt (b : Nat) (c : Nat) : Fld := ⟨12, 0x130 + 0x40 * b + c, 1, 0, 16, .rc, 0, true, false⟩
/-! Fields of PRESS (R412). -/
def prsTrigfault : Fld := ⟨13, 0, 1, 0, 1, .rw, 1, true, true⟩
def prsSnappol : Fld := ⟨13, 0, 1, 1, 1, .rw, 0, true, true⟩
def prsRsrc : Fld := ⟨13, 0, 1, 2, 2, .rw, 0, true, true⟩
def prsTriglvl : Fld := ⟨13, 0, 1, 4, 2, .rw, 2, true, true⟩
def prsTrigblk : Fld := ⟨13, 1, 1, 0, 14, .rw, 0x3FFF, true, true⟩
def prsPre : Fld := ⟨13, 2, 1, 0, 16, .rw, 3072, true, true⟩
def prsPost : Fld := ⟨13, 3, 1, 0, 16, .rw, 1024, true, true⟩
def prsWrpos : Fld := ⟨13, 4, 2, 0, 20, .ro, 0, true, false⟩
def prsDepth : Fld := ⟨13, 6, 1, 0, 16, .ro, 0, true, false⟩
def prsSnapstate : Fld := ⟨13, 7, 1, 0, 2, .ro, 0, true, false⟩
def prsCoaltrig : Fld := ⟨13, 8, 1, 0, 16, .rc, 0, false, false⟩
def prsGapcnt : Fld := ⟨13, 9, 1, 0, 16, .rc, 0, false, false⟩
def prsSlowdrop : Fld := ⟨13, 0xa, 1, 0, 16, .rc, 0, false, false⟩
def prsSlotValid (s : Nat) : Fld := ⟨13, 0x10 + 8 * s, 1, 0, 1, .ro, 0, true, false⟩
def prsSlotShort (s : Nat) : Fld := ⟨13, 0x10 + 8 * s, 1, 1, 1, .ro, 0, true, false⟩
def prsSlotTrunc (s : Nat) : Fld := ⟨13, 0x10 + 8 * s, 1, 2, 1, .ro, 0, true, false⟩
def prsSlotCause (s : Nat) : Fld := ⟨13, 0x10 + 8 * s, 1, 4, 2, .ro, 0, true, false⟩
def prsSlotfree (s : Nat) : Fld := ⟨13, 0x10 + 8 * s, 1, 15, 1, .wo, 0, true, false⟩
def prsTbeat (s : Nat) : Fld := ⟨13, 0x11 + 8 * s, 3, 0, 48, .ro, 0, true, false⟩
def prsRstate : Fld := ⟨13, 0x40, 1, 0, 3, .ro, 0, false, false⟩
def prsRerr : Fld := ⟨13, 0x40, 1, 4, 4, .ro, 0, false, false⟩
def prsExact : Fld := ⟨13, 0x40, 1, 8, 1, .ro, 0, false, false⟩
def prsRbeat : Fld := ⟨13, 0x41, 2, 0, 32, .ro, 0, false, false⟩
def prsDivbeat : Fld := ⟨13, 0x43, 2, 0, 32, .ro, 0xFFFFFFFF, false, false⟩
def prsDivcnt : Fld := ⟨13, 0x45, 1, 0, 16, .ro, 0, false, false⟩
/-! Fields of SVC (R428). -/
def svcLock : Fld := ⟨14, 0, 1, 0, 2, .ro, 1, true, false⟩
def svcBackoff : Fld := ⟨14, 0, 1, 2, 1, .ro, 0, true, false⟩
def svcPwisset : Fld := ⟨14, 0, 1, 3, 1, .ro, 0, true, false⟩
def svcVerdict : Fld := ⟨14, 0, 1, 4, 4, .ro, 0, false, false⟩
def svcUnlctl : Fld := ⟨14, 1, 1, 0, 6, .wo, 0, true, false⟩
def svcBowait : Fld := ⟨14, 2, 2, 0, 32, .ro, 0, true, false⟩
def svcFailrun : Fld := ⟨14, 4, 1, 0, 16, .ro, 0, true, false⟩
def svcChal : Fld := ⟨14, 8, 8, 0, 128, .ro, 0, false, false⟩
def svcRsp : Fld := ⟨14, 0x10, 6, 0, 96, .wo, 0, true, false⟩
def svcChalleft : Fld := ⟨14, 0x16, 1, 0, 10, .ro, 0, false, false⟩
def svcPwlen : Fld := ⟨14, 0x18, 1, 0, 6, .wo, 0, true, false⟩
def svcPwbuf (i : Nat) : Fld := ⟨14, 0x20 + i, 1, 0, 16, .wo, 0, true, false⟩
def svcBorej : Fld := ⟨14, 0x30, 1, 0, 16, .rc, 0, false, false⟩
def svcRelocktime : Fld := ⟨14, 0x100, 2, 0, 32, .rw, 3600, true, false⟩
def svcUpen : Fld := ⟨14, 0x102, 1, 0, 1, .rw, 0, false, false⟩
def svcUcctl : Fld := ⟨14, 0x103, 1, 0, 16, .wo, 0, true, false⟩
def svcUcState : Fld := ⟨14, 0x104, 1, 0, 3, .ro, 0, true, false⟩
def svcUcReason : Fld := ⟨14, 0x104, 1, 4, 4, .ro, 0, true, false⟩
def svcSlotcnt (i : Nat) : Fld := ⟨14, 0x105 + i, 1, 0, 16, .ro, 0, true, false⟩
def svcFloornew : Fld := ⟨14, 0x110, 1, 0, 16, .rw, 0, false, false⟩
def svcFloorgo : Fld := ⟨14, 0x111, 1, 15, 1, .wo, 0, false, false⟩
def svcFloorstat : Fld := ⟨14, 0x111, 1, 0, 2, .ro, 0, false, false⟩
def svcFramecnt : Fld := ⟨14, 0x120, 1, 0, 16, .rc, 0, false, false⟩
def svcAbortcnt : Fld := ⟨14, 0x121, 1, 0, 16, .rc, 0, false, false⟩
def svcCrccnt : Fld := ⟨14, 0x122, 1, 0, 16, .rc, 0, false, false⟩
def svcRsplost : Fld := ⟨14, 0x123, 1, 0, 16, .rc, 0, false, false⟩
/-! Fields of the tenants' own view blocks (R345 and R365). -/
def tvLatch (k : Nat) : Fld := ⟨17, 0x102 + 0x1000 * k, 1, 0, 1, .wo, 0, true, false⟩
def tvRelease (k : Nat) : Fld := ⟨17, 0x102 + 0x1000 * k, 1, 1, 1, .wo, 0, true, false⟩
def tvHeld (k : Nat) : Fld := ⟨17, 0x102 + 0x1000 * k, 1, 8, 1, .ro, 0, false, false⟩
def tvTsec (k : Nat) : Fld := ⟨17, 0x103 + 0x1000 * k, 7, 48, 64, .ro, 0, true, false⟩
def tvTns (k : Nat) : Fld := ⟨17, 0x103 + 0x1000 * k, 7, 16, 30, .ro, 0, true, false⟩
def tvTfrac (k : Nat) : Fld := ⟨17, 0x103 + 0x1000 * k, 7, 0, 16, .ro, 0, true, false⟩
def tvTid (k : Nat) : Fld := ⟨17, 0x100 + 0x1000 * k, 1, 0, 3, .ro, k+1, true, false⟩
def tvMode (k : Nat) : Fld := ⟨17, 0x101 + 0x1000 * k, 1, 0, 3, .ro, 0, true, false⟩
def tvUntraced (k : Nat) : Fld := ⟨17, 0x101 + 0x1000 * k, 1, 3, 1, .ro, 1, true, false⟩
def tvTimeref (k : Nat) : Fld := ⟨17, 0x101 + 0x1000 * k, 1, 4, 1, .ro, 0, true, false⟩
def tvReady (k : Nat) : Fld := ⟨17, 0x101 + 0x1000 * k, 1, 5, 1, .ro, 0, true, false⟩
def tvPipen (k : Nat) : Fld := ⟨17, 0x10a + 0x1000 * k, 1, 0, 16, .rw, 0, true, true⟩
def tvPipfired (k : Nat) : Fld := ⟨17, 0x10b + 0x1000 * k, 1, 0, 16, .w1c, 0, true, false⟩
def tvBramfire (k : Nat) : Fld := ⟨17, 0x10c + 0x1000 * k, 1, 0, 16, .wo, 0, true, false⟩
def tvBramEvt (k : Nat) : Fld := ⟨17, 0x10d + 0x1000 * k, 1, 0, 1, .w1c, 0, true, false⟩
def tvBramCoal (k : Nat) : Fld := ⟨17, 0x10d + 0x1000 * k, 1, 1, 1, .w1c, 0, true, false⟩
def tvBramDeny (k : Nat) : Fld := ⟨17, 0x10d + 0x1000 * k, 1, 2, 1, .w1c, 0, true, false⟩
def tvBramOvf (k : Nat) : Fld := ⟨17, 0x10d + 0x1000 * k, 1, 3, 1, .w1c, 0, true, false⟩
def tvLastch (k : Nat) : Fld := ⟨17, 0x10d + 0x1000 * k, 1, 4, 5, .ro, 0, true, false⟩
def tvAlloc0 (k : Nat) : Fld := ⟨17, 0x110 + 0x1000 * k, 1, 0, 16, .ro, 0, true, false⟩
def tvAlloc1 (k : Nat) : Fld := ⟨17, 0x111 + 0x1000 * k, 1, 0, 16, .ro, 0, true, false⟩
def tvAlloc2 (k : Nat) : Fld := ⟨17, 0x112 + 0x1000 * k, 2, 0, 32, .ro, 0, true, false⟩
def tvAlloc4 (k : Nat) : Fld := ⟨17, 0x114 + 0x1000 * k, 1, 0, 16, .ro, 0, true, false⟩
def tvAlloc5 (k : Nat) : Fld := ⟨17, 0x115 + 0x1000 * k, 1, 0, 8, .ro, 0, true, false⟩
def tvAlloc6 (k : Nat) : Fld := ⟨17, 0x116 + 0x1000 * k, 1, 0, 6, .ro, 0, true, false⟩
def tvAlloc7 (k : Nat) : Fld := ⟨17, 0x117 + 0x1000 * k, 1, 0, 8, .ro, 0, true, false⟩
def tvFramecnt (k : Nat) : Fld := ⟨17, 0x118 + 0x1000 * k, 1, 0, 16, .rc, 0, false, false⟩
def tvAbortcnt (k : Nat) : Fld := ⟨17, 0x119 + 0x1000 * k, 1, 0, 16, .rc, 0, false, false⟩
def tvCrccnt (k : Nat) : Fld := ⟨17, 0x11a + 0x1000 * k, 1, 0, 16, .rc, 0, false, false⟩
def tvRsplost (k : Nat) : Fld := ⟨17, 0x11b + 0x1000 * k, 1, 0, 16, .rc, 0, false, false⟩
def tvSlicedef (k : Nat) : Fld := ⟨17, 0x11c + 0x1000 * k, 1, 0, 16, .rc, 0, false, false⟩
def tvStTxnctlB (k : Nat) : Fld := ⟨17, 0x200 + 0x1000 * k, 1, 0, 1, .wo, 0, true, true⟩
def tvStTxnctlC (k : Nat) : Fld := ⟨17, 0x200 + 0x1000 * k, 1, 1, 1, .wo, 0, true, true⟩
def tvStTxnctlA (k : Nat) : Fld := ⟨17, 0x200 + 0x1000 * k, 1, 2, 1, .wo, 0, true, true⟩
def tvStOpen (k : Nat) : Fld := ⟨17, 0x201 + 0x1000 * k, 1, 0, 1, .ro, 0, false, false⟩
def tvStRunning (k : Nat) : Fld := ⟨17, 0x201 + 0x1000 * k, 1, 1, 1, .ro, 0, false, false⟩
def tvStDone (k : Nat) : Fld := ⟨17, 0x201 + 0x1000 * k, 1, 2, 1, .w1c, 0, true, false⟩
def tvStFail (k : Nat) : Fld := ⟨17, 0x201 + 0x1000 * k, 1, 3, 1, .w1c, 0, true, false⟩
def tvStReason (k : Nat) : Fld := ⟨17, 0x201 + 0x1000 * k, 1, 4, 3, .ro, 0, true, false⟩
def tvStTxnwords (k : Nat) : Fld := ⟨17, 0x202 + 0x1000 * k, 1, 0, 10, .ro, 0, false, false⟩
def tvStLogpush (k : Nat) : Fld := ⟨17, 0x203 + 0x1000 * k, 1, 0, 16, .wo, 0, true, true⟩
def tvStLoghead (k : Nat) : Fld := ⟨17, 0x204 + 0x1000 * k, 1, 0, 13, .ro, 0, true, false⟩
def tvStLogwraps (k : Nat) : Fld := ⟨17, 0x205 + 0x1000 * k, 1, 0, 16, .rc, 0, false, false⟩

end F

/-- Word groups of FABRIC (R38). -/
def grps_fab0 : List Grp := [
  ⟨0x0, 3, 1, 0x0, 1, 0x0, fun _ _ => [F.fabBeatcnt]⟩,
  ⟨0x3, 1, 1, 0x0, 1, 0x0, fun _ _ => [F.fabRot, F.fabLong, F.fabOvr, F.fabSkip]⟩,
  ⟨0x4, 2, 1, 0x0, 1, 0x0, fun _ _ => [F.fabPlan]⟩,
  ⟨0x6, 2, 1, 0x0, 1, 0x0, fun _ _ => [F.fabLastlen]⟩,
  ⟨0x10, 2, 3, 0x2, 1, 0x0, fun i _ => [F.fabHw i]⟩,
  ⟨0x18, 1, 3, 0x1, 1, 0x0, fun i _ => [F.fabOvrs i]⟩,
  ⟨0x1b, 1, 1, 0x0, 1, 0x0, fun _ _ => [F.fabDefcnt]⟩,
  ⟨0x20, 1, 3, 0x1, 1, 0x0, fun i _ => [F.fabLoss i]⟩,
  ⟨0x23, 1, 1, 0x0, 1, 0x0, fun _ _ => [F.fabMaxwait]⟩,
  ⟨0x30, 1, 1, 0x0, 1, 0x0, fun _ _ => [F.fabEccce]⟩,
  ⟨0x31, 1, 1, 0x0, 1, 0x0, fun _ _ => [F.fabEccue]⟩,
  ⟨0x32, 2, 1, 0x0, 1, 0x0, fun _ _ => [F.fabEccaddr]⟩,
  ⟨0x34, 1, 1, 0x0, 1, 0x0, fun _ _ => [F.fabScrubpos]⟩,
  ⟨0x40, 1, 3, 0x1, 1, 0x0, fun i _ => [F.fabLoaded i, F.fabSlot i, F.fabSlotfail i, F.fabReason i]⟩,
  ⟨0x44, 2, 3, 0x2, 1, 0x0, fun i _ => [F.fabVer i]⟩,
  ⟨0x4c, 1, 1, 0x0, 1, 0x0, fun _ _ => [F.fabSecfloor]⟩,
  ⟨0x50, 16, 1, 0x0, 1, 0x0, fun _ _ => [F.fabKeyid]⟩]

/-- All word groups of FABRIC. -/
def grps_fab : List Grp := grps_fab0

/-- Word groups of SYS (R73, R93 and R116), part 1. -/
def grps_sys0 : List Grp := [
  ⟨0x100, 1, 1, 0x0, 1, 0x0, fun _ _ => [F.sysAutorun, F.sysSafeAutoexit, F.sysHoldreq, F.sysUntraced]⟩,
  ⟨0x101, 1, 1, 0x0, 1, 0x0, fun _ _ => [F.sysPrevmode, F.sysCause]⟩,
  ⟨0x102, 1, 1, 0x0, 1, 0x0, fun _ _ => [F.sysModerej]⟩,
  ⟨0x103, 1, 1, 0x0, 1, 0x0, fun _ _ => [F.sysRejreason]⟩,
  ⟨0x104, 1, 1, 0x0, 1, 0x0, fun _ _ => [F.sysBootms]⟩,
  ⟨0x105, 1, 1, 0x0, 1, 0x0, fun _ _ => [F.sysPwrup, F.sysCold, F.sysWarm, F.sysRstlive, F.sysRstdeaf]⟩,
  ⟨0x200, 1, 2, 0x4, 1, 0x0, fun i _ => [F.sysFreeze i]⟩,
  ⟨0x201, 1, 2, 0x4, 1, 0x0, fun i _ => [F.sysAvsv i]⟩,
  ⟨0x202, 1, 2, 0x4, 1, 0x0, fun i _ => [F.sysAvsmarg i]⟩,
  ⟨0x203, 1, 2, 0x4, 1, 0x0, fun i _ => [F.sysAvsfast i]⟩,
  ⟨0x210, 1, 1, 0x0, 1, 0x0, fun _ _ => [F.sysHuv]⟩,
  ⟨0x211, 1, 1, 0x0, 1, 0x0, fun _ _ => [F.sysHums]⟩,
  ⟨0x212, 1, 1, 0x0, 1, 0x0, fun _ _ => [F.sysHutest]⟩,
  ⟨0x213, 1, 1, 0x0, 1, 0x0, fun _ _ => [F.sysPflive, F.sysSeq, F.sysLaststoreOk, F.sysResumed]⟩,
  ⟨0x214, 2, 1, 0x0, 1, 0x0, fun _ _ => [F.sysOfftime]⟩,
  ⟨0x216, 1, 1, 0x0, 1, 0x0, fun _ _ => [F.sysVinmin]⟩,
  ⟨0x217, 1, 1, 0x0, 1, 0x0, fun _ _ => [F.sysVinmax]⟩,
  ⟨0x218, 1, 1, 0x0, 1, 0x0, fun _ _ => [F.sysPowrej]⟩,
  ⟨0x300, 1, 1, 0x0, 1, 0x0, fun _ _ => [F.sysHbproto]⟩,
  ⟨0x301, 1, 1, 0x0, 1, 0x0, fun _ _ => [F.sysHbtmo]⟩,
  ⟨0x302, 1, 1, 0x0, 1, 0x0, fun _ _ => [F.sysHbguard]⟩,
  ⟨0x303, 1, 1, 0x0, 1, 0x0, fun _ _ => [F.sysHbbootwr]⟩,
  ⟨0x304, 1, 1, 0x0, 1, 0x0, fun _ _ => [F.sysHbstagerej]⟩,
  ⟨0x305, 1, 1, 0x0, 1, 0x0, fun _ _ => [F.sysHbabandon]⟩]

/-- Word groups of SYS (R73, R93 and R116), part 2. -/
def grps_sys1 : List Grp := [
  ⟨0x306, 1, 1, 0x0, 1, 0x0, fun _ _ => [F.sysHbtorn]⟩,
  ⟨0x307, 1, 1, 0x0, 1, 0x0, fun _ _ => [F.sysHbdiscard]⟩,
  ⟨0x308, 1, 1, 0x0, 1, 0x0, fun _ _ => [F.sysHbextmax]⟩]

/-- All word groups of SYS. -/
def grps_sys : List Grp := grps_sys0 ++ grps_sys1

/-- Word groups of the direct area (R121 to R142), part 1. -/
def grps_d0 : List Grp := [
  ⟨0x0, 1, 1, 0x0, 1, 0x0, fun _ _ => [F.dDevid]⟩,
  ⟨0x1, 1, 1, 0x0, 1, 0x0, fun _ _ => [F.dMinor, F.dMajor]⟩,
  ⟨0x2, 1, 1, 0x0, 1, 0x0, fun _ _ => [F.dModereqReq, F.dModereqPending]⟩,
  ⟨0x3, 1, 1, 0x0, 1, 0x0, fun _ _ => [F.dMode, F.dRej, F.dModeChg, F.dWake, F.dUntraced, F.dErrlive]⟩,
  ⟨0x4, 1, 1, 0x0, 1, 0x0, fun _ _ => [F.dCmdCode, F.dCmdArg, F.dCmdGuard]⟩,
  ⟨0x5, 1, 1, 0x0, 1, 0x0, fun _ _ => [F.dStatCode, F.dStatState, F.dStatErr, F.dBusyrej, F.dCmdDone]⟩,
  ⟨0x6, 1, 1, 0x0, 1, 0x0, fun _ _ => [F.dIrqstat]⟩,
  ⟨0x7, 1, 1, 0x0, 1, 0x0, fun _ _ => [F.dIrqmask]⟩,
  ⟨0x8, 1, 1, 0x0, 1, 0x0, fun _ _ => [F.dWspace]⟩,
  ⟨0x9, 1, 1, 0x0, 1, 0x0, fun _ _ => [F.dWaddrh]⟩,
  ⟨0xa, 1, 1, 0x0, 1, 0x0, fun _ _ => [F.dWaddrl]⟩,
  ⟨0xb, 1, 1, 0x0, 1, 0x0, fun _ _ => [F.dWdata]⟩,
  ⟨0xc, 1, 1, 0x0, 1, 0x0, fun _ _ => [F.dAinc, F.dDrop]⟩,
  ⟨0xd, 1, 1, 0x0, 1, 0x0, fun _ _ => [F.dWsUnmap, F.dWsNotready, F.dWsOffdom, F.dWsDenied, F.dWsTorn, F.dWsWrap, F.dWsTmo, F.dWsFull, F.dWsPend, F.dWsSnap, F.dWsStaged]⟩,
  ⟨0xe, 1, 1, 0x0, 1, 0x0, fun _ _ => [F.dManref, F.dManual, F.dRevert]⟩,
  ⟨0xf, 1, 1, 0x0, 1, 0x0, fun _ _ => [F.dSelref, F.dGraftref, F.dGrafting, F.dTimeref, F.dRefChg, F.dManbad, F.dGnsstod, F.dTodrin]⟩,
  ⟨0x10, 1, 1, 0x0, 1, 0x0, fun _ _ => [F.dQuala]⟩,
  ⟨0x11, 1, 1, 0x0, 1, 0x0, fun _ _ => [F.dQualb, F.dQualCount]⟩,
  ⟨0x12, 1, 1, 0x0, 1, 0x0, fun _ _ => [F.dServoState, F.dServoStale, F.dSlewing, F.dSteplim, F.dServoChg, F.dBwfrozen]⟩,
  ⟨0x13, 1, 1, 0x0, 1, 0x0, fun _ _ => [F.dMq, F.dLearning, F.dReady, F.dRetrace, F.dHoldChg]⟩,
  ⟨0x14, 1, 1, 0x0, 1, 0x0, fun _ _ => [F.dLatch, F.dRelease, F.dHeld, F.dTlUntraced]⟩,
  ⟨0x15, 4, 1, 0x0, 1, 0x0, fun _ _ => [F.dTsec]⟩,
  ⟨0x19, 2, 1, 0x0, 1, 0x0, fun _ _ => [F.dTns]⟩,
  ⟨0x1b, 1, 1, 0x0, 1, 0x0, fun _ _ => [F.dTfrac]⟩]

/-- Word groups of the direct area (R121 to R142), part 2. -/
def grps_d1 : List Grp := [
  ⟨0x1c, 1, 1, 0x0, 1, 0x0, fun _ _ => [F.dThresh, F.dAutoconf]⟩,
  ⟨0x1d, 1, 1, 0x0, 1, 0x0, fun _ _ => [F.dJref, F.dJumpPend, F.dJumpConf, F.dJumpAcc, F.dJumpStepped, F.dJumpNeg, F.dJumpMag]⟩,
  ⟨0x1e, 1, 1, 0x0, 1, 0x0, fun _ _ => [F.dPipctl]⟩,
  ⟨0x1f, 1, 1, 0x0, 1, 0x0, fun _ _ => [F.dPipstat]⟩,
  ⟨0x20, 1, 1, 0x0, 1, 0x0, fun _ _ => [F.dBfChan, F.dBfGo]⟩,
  ⟨0x21, 1, 1, 0x0, 1, 0x0, fun _ _ => [F.dBramEvt, F.dBramCoal, F.dBramDeny, F.dBramOvf, F.dLastch]⟩,
  ⟨0x22, 1, 1, 0x0, 1, 0x0, fun _ _ => [F.dFaultBlk, F.dMaxlvl]⟩,
  ⟨0x23, 1, 1, 0x0, 1, 0x0, fun _ _ => [F.dFaultack]⟩,
  ⟨0x24, 1, 1, 0x0, 1, 0x0, fun _ _ => [F.dRecovcnt]⟩,
  ⟨0x25, 1, 1, 0x0, 1, 0x0, fun _ _ => [F.dErrlvl, F.dErrforce]⟩,
  ⟨0x26, 1, 1, 0x0, 1, 0x0, fun _ _ => [F.dAutoen, F.dInterval]⟩,
  ⟨0x27, 1, 1, 0x0, 1, 0x0, fun _ _ => [F.dCalBusy, F.dCalDone, F.dCalFail, F.dCalStale, F.dLastkind, F.dCalReason]⟩,
  ⟨0x28, 1, 1, 0x0, 1, 0x0, fun _ _ => [F.dCalcnt]⟩,
  ⟨0x29, 1, 1, 0x0, 1, 0x0, fun _ _ => [F.dMarginen, F.dAutorefresh]⟩,
  ⟨0x2a, 1, 1, 0x0, 1, 0x0, fun _ _ => [F.dStBusy, F.dStTxn, F.dStBank, F.dPuact, F.dStWeak, F.dRefreshed, F.dStoredone, F.dCommitdone, F.dBufull, F.dStIsol]⟩,
  ⟨0x2b, 1, 1, 0x0, 1, 0x0, fun _ _ => [F.dPowstat]⟩,
  ⟨0x2c, 1, 1, 0x0, 1, 0x0, fun _ _ => [F.dPowreq]⟩,
  ⟨0x2d, 1, 1, 0x0, 1, 0x0, fun _ _ => [F.dSupply]⟩,
  ⟨0x2e, 1, 1, 0x0, 1, 0x0, fun _ _ => [F.dTemp]⟩,
  ⟨0x2f, 1, 1, 0x0, 1, 0x0, fun _ _ => [F.dLock, F.dBackoff, F.dAttempts, F.dSvcsess, F.dAccChg, F.dTlalloc]⟩]

/-- All word groups of the direct area. -/
def grps_d : List Grp := grps_d0 ++ grps_d1

/-- Word groups of REF (R165 and R166), part 1. -/
def grps_ref0 : List Grp := [
  ⟨0x0, 1, 10, 0x20, 1, 0x0, fun i _ => [F.refEnable i, F.refPrio i] ++ (if 1 ≤ i ∧ i < 4 then [F.refTerm50 i] else []) ++ (if i < 4 then [F.refThrfrz i] else [])⟩,
  ⟨0x1, 1, 10, 0x20, 1, 0x0, fun i _ => [F.refState i, F.refReason i, F.refStale i] ++ (if i < 4 then [F.refSettled i] else []) ++ (if i < 4 then [F.refMidband i] else []) ++ (if i < 4 then [F.refLevel i] else [])⟩,
  ⟨0x2, 1, 10, 0x20, 1, 0x0, fun i _ => [F.refTimer i]⟩,
  ⟨0x3, 1, 10, 0x20, 1, 0x0, fun i _ => [F.refQualtime i]⟩,
  ⟨0x4, 1, 10, 0x20, 1, 0x0, fun i _ => [F.refSusptime i]⟩,
  ⟨0x5, 1, 10, 0x20, 1, 0x0, fun i _ => [F.refSuspclr i]⟩,
  ⟨0x6, 1, 10, 0x20, 1, 0x0, fun i _ => [F.refFailhold i]⟩,
  ⟨0x7, 1, 10, 0x20, 1, 0x0, fun i _ => [F.refWtr i]⟩,
  ⟨0x8, 1, 10, 0x20, 1, 0x0, fun i _ => [F.refFofflim i]⟩,
  ⟨0x9, 1, 10, 0x20, 1, 0x0, fun i _ => [F.refNoiselim i]⟩,
  ⟨0xa, 2, 10, 0x20, 1, 0x0, fun i _ => (if i < 4 then [F.refNomfreq i] else [])⟩,
  ⟨0xc, 1, 10, 0x20, 1, 0x0, fun i _ => (if i < 4 then [F.refGlitch i] else [])⟩,
  ⟨0xd, 1, 10, 0x20, 1, 0x0, fun i _ => (if 8 ≤ i then [F.refQlmin i] else []) ++ (if 8 ≤ i then [F.refQlrx i] else [])⟩,
  ⟨0x10, 3, 10, 0x20, 1, 0x0, fun i _ => [F.refFoff i]⟩,
  ⟨0x13, 1, 10, 0x20, 1, 0x0, fun i _ => [F.refNoise i]⟩,
  ⟨0x14, 1, 10, 0x20, 1, 0x0, fun i _ => (if i < 4 then [F.refThrmid i] else [])⟩,
  ⟨0x15, 1, 10, 0x20, 1, 0x0, fun i _ => (if i < 4 then [F.refThrhalf i] else [])⟩,
  ⟨0x16, 1, 10, 0x20, 1, 0x0, fun i _ => (if i < 4 then [F.refVmax i] else [])⟩,
  ⟨0x17, 1, 10, 0x20, 1, 0x0, fun i _ => (if i < 4 then [F.refVmin i] else [])⟩,
  ⟨0x18, 1, 10, 0x20, 1, 0x0, fun i _ => (if i < 4 then [F.refRisecnt i] else []) ++ (if i < 4 then [F.refFallcnt i] else [])⟩,
  ⟨0x19, 1, 10, 0x20, 1, 0x0, fun i _ => [F.refMisscnt i]⟩,
  ⟨0x1a, 1, 10, 0x20, 1, 0x0, fun i _ => [F.refFailcnt i]⟩,
  ⟨0x200, 1, 1, 0x0, 1, 0x0, fun _ _ => [F.refGnssen, F.refGnssrin, F.refBaud, F.refTodedge, F.refBadcfg]⟩,
  ⟨0x201, 4, 1, 0x0, 1, 0x0, fun _ _ => [F.refLastlabel]⟩]

/-- Word groups of REF (R165 and R166), part 2. -/
def grps_ref1 : List Grp := [
  ⟨0x205, 1, 1, 0x0, 1, 0x0, fun _ _ => [F.refNmeabad]⟩,
  ⟨0x206, 1, 1, 0x0, 1, 0x0, fun _ _ => [F.refNmealate]⟩,
  ⟨0x207, 1, 1, 0x0, 1, 0x0, fun _ _ => [F.refUartovf]⟩,
  ⟨0x210, 1, 1, 0x0, 1, 0x0, fun _ _ => [F.refGnsstxlen, F.refGnsstxgo]⟩,
  ⟨0x211, 1, 32, 0x1, 1, 0x0, fun i _ => [F.refGnsstx i]⟩,
  ⟨0x240, 1, 1, 0x0, 1, 0x0, fun _ _ => [F.refCandref]⟩,
  ⟨0x241, 1, 1, 0x0, 1, 0x0, fun _ _ => [F.refWtrleft]⟩]

/-- All word groups of REF. -/
def grps_ref : List Grp := grps_ref0 ++ grps_ref1

/-- Word groups of SERVO (R185 and R205), part 1. -/
def grps_servo0 : List Grp := [
  ⟨0x0, 1, 1, 0x0, 1, 0x0, fun _ _ => [F.servoBwfrz, F.servoBwmanual]⟩,
  ⟨0x1, 1, 1, 0x0, 1, 0x0, fun _ _ => [F.servoGwin]⟩,
  ⟨0x2, 1, 1, 0x0, 1, 0x0, fun _ _ => [F.servoSlewlim]⟩,
  ⟨0x3, 1, 1, 0x0, 1, 0x0, fun _ _ => [F.servoJslew]⟩,
  ⟨0x4, 1, 1, 0x0, 1, 0x0, fun _ _ => [F.servoBwkphys]⟩,
  ⟨0x5, 1, 1, 0x0, 1, 0x0, fun _ _ => [F.servoBwkpkt]⟩,
  ⟨0x6, 1, 1, 0x0, 1, 0x0, fun _ _ => [F.servoBwman]⟩,
  ⟨0x7, 1, 1, 0x0, 1, 0x0, fun _ _ => [F.servoLockphys]⟩,
  ⟨0x8, 1, 1, 0x0, 1, 0x0, fun _ _ => [F.servoLockpkt]⟩,
  ⟨0x9, 1, 1, 0x0, 1, 0x0, fun _ _ => [F.servoPhit]⟩,
  ⟨0x10, 3, 1, 0x0, 1, 0x0, fun _ _ => [F.servoFword]⟩,
  ⟨0x13, 3, 1, 0x0, 1, 0x0, fun _ _ => [F.servoFcorr]⟩,
  ⟨0x16, 3, 1, 0x0, 1, 0x0, fun _ _ => [F.servoFslew]⟩,
  ⟨0x19, 3, 1, 0x0, 1, 0x0, fun _ _ => [F.servoFmodel]⟩,
  ⟨0x20, 3, 1, 0x0, 1, 0x0, fun _ _ => [F.servoErr]⟩,
  ⟨0x23, 2, 1, 0x0, 1, 0x0, fun _ _ => [F.servoBwcur]⟩,
  ⟨0x25, 2, 1, 0x0, 1, 0x0, fun _ _ => [F.servoBwtgt]⟩,
  ⟨0x27, 1, 1, 0x0, 1, 0x0, fun _ _ => [F.servoNin]⟩,
  ⟨0x30, 3, 1, 0x0, 1, 0x0, fun _ _ => [F.servoSlewrem]⟩,
  ⟨0x33, 1, 1, 0x0, 1, 0x0, fun _ _ => [F.servoGstate, F.servoGtime]⟩,
  ⟨0x34, 3, 1, 0x0, 1, 0x0, fun _ _ => [F.servoBuildout]⟩,
  ⟨0x37, 1, 1, 0x0, 1, 0x0, fun _ _ => [F.servoGraftcnt]⟩,
  ⟨0x38, 1, 1, 0x0, 1, 0x0, fun _ _ => [F.servoPhitcnt]⟩,
  ⟨0x39, 1, 1, 0x0, 1, 0x0, fun _ _ => [F.servoAbandcnt]⟩]

/-- Word groups of SERVO (R185 and R205), part 2. -/
def grps_servo1 : List Grp := [
  ⟨0x40, 2, 1, 0x0, 1, 0x0, fun _ _ => [F.servoJoffsec]⟩,
  ⟨0x42, 2, 1, 0x0, 1, 0x0, fun _ _ => [F.servoJoffns]⟩,
  ⟨0x44, 1, 1, 0x0, 1, 0x0, fun _ _ => [F.servoConfref]⟩,
  ⟨0x45, 1, 1, 0x0, 1, 0x0, fun _ _ => [F.servoJrefmask]⟩,
  ⟨0x46, 1, 1, 0x0, 1, 0x0, fun _ _ => [F.servoStepcnt]⟩,
  ⟨0x100, 1, 1, 0x0, 1, 0x0, fun _ _ => [F.servoFitfrz, F.servoLearnstop]⟩,
  ⟨0x101, 1, 1, 0x0, 1, 0x0, fun _ _ => [F.servoHlimit]⟩,
  ⟨0x102, 2, 1, 0x0, 1, 0x0, fun _ _ => [F.servoLearns]⟩,
  ⟨0x104, 1, 1, 0x0, 1, 0x0, fun _ _ => [F.servoTscore]⟩,
  ⟨0x105, 1, 1, 0x0, 1, 0x0, fun _ _ => [F.servoRscore]⟩,
  ⟨0x106, 3, 1, 0x0, 1, 0x0, fun _ _ => [F.servoResid]⟩,
  ⟨0x109, 1, 1, 0x0, 1, 0x0, fun _ _ => [F.servoRtemp]⟩,
  ⟨0x10a, 1, 1, 0x0, 1, 0x0, fun _ _ => [F.servoRtempf]⟩,
  ⟨0x110, 4, 6, 0x4, 1, 0x0, fun i _ => [F.servoA i]⟩,
  ⟨0x128, 4, 1, 0x0, 1, 0x0, fun _ _ => [F.servoAgea]⟩,
  ⟨0x12c, 4, 1, 0x0, 1, 0x0, fun _ _ => [F.servoAgeb]⟩,
  ⟨0x130, 4, 1, 0x0, 1, 0x0, fun _ _ => [F.servoRetk]⟩,
  ⟨0x134, 2, 1, 0x0, 1, 0x0, fun _ _ => [F.servoAget]⟩,
  ⟨0x136, 2, 1, 0x0, 1, 0x0, fun _ _ => [F.servoPuage]⟩,
  ⟨0x138, 3, 1, 0x0, 1, 0x0, fun _ _ => [F.servoRetnow]⟩,
  ⟨0x13c, 4, 1, 0x0, 1, 0x0, fun _ _ => [F.servoAgesig]⟩,
  ⟨0x140, 2, 1, 0x0, 1, 0x0, fun _ _ => [F.servoTaufit]⟩,
  ⟨0x142, 1, 1, 0x0, 1, 0x0, fun _ _ => [F.servoInnov]⟩,
  ⟨0x150, 2, 1, 0x0, 1, 0x0, fun _ _ => [F.servoHoldt]⟩]

/-- Word groups of SERVO (R185 and R205), part 3. -/
def grps_servo2 : List Grp := [
  ⟨0x152, 2, 1, 0x0, 1, 0x0, fun _ _ => [F.servoHest]⟩,
  ⟨0x160, 2, 1, 0x0, 1, 0x0, fun _ _ => [F.servoWper]⟩,
  ⟨0x162, 1, 1, 0x0, 1, 0x0, fun _ _ => [F.servoWlen]⟩,
  ⟨0x163, 1, 1, 0x0, 1, 0x0, fun _ _ => [F.servoWmeas]⟩,
  ⟨0x164, 2, 1, 0x0, 1, 0x0, fun _ _ => [F.servoWoff]⟩,
  ⟨0x166, 1, 1, 0x0, 1, 0x0, fun _ _ => [F.servoDkf]⟩,
  ⟨0x167, 1, 1, 0x0, 1, 0x0, fun _ _ => [F.servoWakeset]⟩,
  ⟨0x168, 2, 1, 0x0, 1, 0x0, fun _ _ => [F.servoLastdelta]⟩,
  ⟨0x16a, 1, 1, 0x0, 1, 0x0, fun _ _ => [F.servoEmptywin]⟩,
  ⟨0x16b, 1, 1, 0x0, 1, 0x0, fun _ _ => [F.servoWincnt]⟩,
  ⟨0x16c, 2, 1, 0x0, 1, 0x0, fun _ _ => [F.servoNextwake]⟩]

/-- All word groups of SERVO. -/
def grps_servo : List Grp := grps_servo0 ++ grps_servo1 ++ grps_servo2

/-- Word groups of SYNTH (R225). -/
def grps_syn0 : List Grp := [
  ⟨0x0, 1, 1, 0x0, 1, 0x0, fun _ _ => [F.synAlock, F.synBlock, F.synFallback, F.synBclamp]⟩,
  ⟨0x20, 1, 8, 0x10, 1, 0x0, fun i _ => [F.synCken i] ++ (if 4 ≤ i then [F.synSrc i] else []) ++ (if i < 4 then [F.synFmt i] else []) ++ (if 4 ≤ i then [F.synSlew i] else [])⟩,
  ⟨0x21, 7, 8, 0x10, 1, 0x0, fun i _ => [F.synInt i, F.synNum i, F.synDen i, F.synOdiv i]⟩,
  ⟨0x28, 1, 8, 0x10, 1, 0x0, fun i _ => [F.synLocked i, F.synRunning i, F.synHeld i, F.synUnaligned i, F.synPlanerr i]⟩,
  ⟨0x29, 3, 8, 0x10, 1, 0x0, fun i _ => [F.synFact i]⟩,
  ⟨0x2c, 1, 8, 0x10, 1, 0x0, fun i _ => [F.synRangecnt i]⟩,
  ⟨0x2d, 1, 8, 0x10, 1, 0x0, fun i _ => [F.synRealigncnt i]⟩,
  ⟨0x2e, 2, 8, 0x10, 1, 0x0, fun i _ => [F.synSepoch i]⟩,
  ⟨0x200, 1, 1, 0x0, 1, 0x0, fun _ _ => [F.synRampen, F.synRampMode, F.synRampload, F.synRampRunning, F.synRclamp]⟩,
  ⟨0x201, 1, 1, 0x0, 1, 0x0, fun _ _ => [F.synSprrate]⟩,
  ⟨0x202, 1, 1, 0x0, 1, 0x0, fun _ _ => [F.synSegnow]⟩,
  ⟨0x203, 2, 1, 0x0, 1, 0x0, fun _ _ => [F.synRoff]⟩,
  ⟨0x205, 2, 1, 0x0, 1, 0x0, fun _ _ => [F.synRdepth]⟩,
  ⟨0x207, 1, 1, 0x0, 1, 0x0, fun _ _ => [F.synLooppass]⟩,
  ⟨0x208, 2, 1, 0x0, 1, 0x0, fun _ _ => [F.synSegbeats]⟩,
  ⟨0x300, 1, 128, 0x1, 1, 0x0, fun i _ => [F.synShadow i]⟩,
  ⟨0x380, 1, 128, 0x1, 1, 0x0, fun i _ => [F.synActive i]⟩]

/-- All word groups of SYNTH. -/
def grps_syn : List Grp := grps_syn0

/-- Word groups of TIME (R244). -/
def grps_time0 : List Grp := [
  ⟨0x0, 1, 1, 0x0, 1, 0x0, fun _ _ => [F.timeUtcoff]⟩,
  ⟨0x1, 1, 1, 0x0, 1, 0x0, fun _ _ => [F.timeUtcauto, F.timeLeappend, F.timeLeapdir, F.timeUtcsrc]⟩,
  ⟨0x2, 4, 1, 0x0, 1, 0x0, fun _ _ => [F.timeLeapat]⟩,
  ⟨0x6, 1, 1, 0x0, 1, 0x0, fun _ _ => [F.timeTstepcnt]⟩,
  ⟨0x7, 1, 1, 0x0, 1, 0x0, fun _ _ => [F.timeRearmcnt]⟩,
  ⟨0x8, 4, 1, 0x0, 1, 0x0, fun _ _ => [F.timeLaststepat]⟩,
  ⟨0xc, 1, 1, 0x0, 1, 0x0, fun _ _ => [F.timeFmterr]⟩,
  ⟨0x100, 1, 16, 0x10, 1, 0x0, fun i _ => [F.timePipPeriodic i, F.timePipPol i, F.timePipPin i, F.timePipPinen i, F.timePipBramen i]⟩,
  ⟨0x101, 7, 16, 0x10, 1, 0x0, fun i _ => [F.timePipStart i]⟩,
  ⟨0x108, 5, 16, 0x10, 1, 0x0, fun i _ => [F.timePipPeriod i]⟩,
  ⟨0x10d, 2, 16, 0x10, 1, 0x0, fun i _ => [F.timePipWidth i]⟩,
  ⟨0x10f, 1, 16, 0x10, 1, 0x0, fun i _ => [F.timePipArmed i, F.timePipMissed i, F.timePipWrbusy i, F.timePipRearmed i, F.timePipArmerr i]⟩,
  ⟨0x400, 1, 16, 0x10, 1, 0x0, fun i _ => [F.timeCapSrc i, F.timeCapEdge i]⟩,
  ⟨0x401, 1, 16, 0x10, 1, 0x0, fun i _ => [F.timeCapDepth i, F.timeCapOvf i, F.timeCapSrcerr i]⟩,
  ⟨0x402, 1, 16, 0x10, 1, 0x0, fun i _ => [F.timeCapLostcnt i]⟩,
  ⟨0x408, 8, 16, 0x10, 1, 0x0, fun i _ => [F.timeCapHead i]⟩,
  ⟨0x600, 1, 16, 0x1, 1, 0x0, fun i _ => [F.timeTioDir i, F.timeTioSlew i, F.timeTioGlitch i, F.timeTioOutsrc i, F.timeTioLevel i]⟩]

/-- All word groups of TIME. -/
def grps_time : List Grp := grps_time0

/-- Word groups of PORT (R264 to R266), part 1. -/
def grps_port0 : List Grp := [
  ⟨0x0, 1, 1, 0x0, 1, 0x0, fun _ _ => [F.portAgetime]⟩,
  ⟨0x1, 1, 1, 0x0, 1, 0x0, fun _ _ => [F.portPcpmap]⟩,
  ⟨0x2, 1, 1, 0x0, 1, 0x0, fun _ _ => [F.portAtcount]⟩,
  ⟨0x3, 1, 1, 0x0, 1, 0x0, fun _ _ => [F.portAtfull]⟩,
  ⟨0x4, 1, 1, 0x0, 1, 0x0, fun _ _ => [F.portMoves]⟩,
  ⟨0x5, 1, 1, 0x0, 1, 0x0, fun _ _ => [F.portFlush]⟩,
  ⟨0x6, 1, 1, 0x0, 1, 0x0, fun _ _ => [F.portFmemce]⟩,
  ⟨0x100, 1, 4, 0x100, 1, 0x0, fun i _ => [F.portPen i, F.portPmode i] ++ (if i < 2 then [F.portCutthru i] else []) ++ [F.portAccept i, F.portIngfilt i, F.portLearn i] ++ (if i = 2 then [F.portEqfrz i] else []) ++ (if i < 2 then [F.portAn1g i] else [])⟩,
  ⟨0x101, 1, 4, 0x100, 1, 0x0, fun i _ => [F.portPvid i, F.portPpcp i]⟩,
  ⟨0x102, 1, 4, 0x100, 1, 0x0, fun i _ => [F.portEglim i]⟩,
  ⟨0x103, 1, 4, 0x100, 1, 0x0, fun i _ => [F.portTxlat i]⟩,
  ⟨0x104, 1, 4, 0x100, 1, 0x0, fun i _ => [F.portRxlat i]⟩,
  ⟨0x105, 1, 4, 0x100, 1, 0x0, fun i _ => [F.portDiagper i, F.portDiagdorm i, F.portDiagnow i]⟩,
  ⟨0x106, 1, 4, 0x100, 1, 0x0, fun i _ => [F.portPirqen i]⟩,
  ⟨0x107, 1, 4, 0x100, 1, 0x0, fun i _ => [F.portPirqstat i]⟩,
  ⟨0x108, 1, 4, 0x100, 1, 0x0, fun i _ => [F.portLink i, F.portSpeed i, F.portSfppres i, F.portLos i, F.portTxfault i, F.portSfpok i, F.portLatauto i, F.portCmhold i, F.portEqstate i]⟩,
  ⟨0x109, 1, 4, 0x100, 1, 0x0, fun i _ => [F.portDtemp i]⟩,
  ⟨0x10a, 1, 4, 0x100, 1, 0x0, fun i _ => [F.portDvcc i]⟩,
  ⟨0x10b, 1, 4, 0x100, 1, 0x0, fun i _ => [F.portDbias i]⟩,
  ⟨0x10c, 1, 4, 0x100, 1, 0x0, fun i _ => [F.portDtxpwr i]⟩,
  ⟨0x10d, 1, 4, 0x100, 1, 0x0, fun i _ => [F.portDrxpwr i]⟩,
  ⟨0x10e, 1, 4, 0x100, 1, 0x0, fun i _ => [F.portDalarm i]⟩,
  ⟨0x10f, 1, 4, 0x100, 1, 0x0, fun i _ => [F.portDwarn i]⟩,
  ⟨0x110, 1, 4, 0x100, 1, 0x0, fun i _ => [F.portMse i]⟩]

/-- Word groups of PORT (R264 to R266), part 2. -/
def grps_port1 : List Grp := [
  ⟨0x111, 1, 4, 0x100, 1, 0x0, fun i _ => [F.portEchores i]⟩,
  ⟨0x112, 1, 4, 0x100, 1, 0x0, fun i _ => [F.portCmpeak i]⟩,
  ⟨0x113, 1, 4, 0x100, 1, 0x0, fun i _ => [F.portCmholdcnt i]⟩,
  ⟨0x120, 2, 4, 0x100, 1, 0x0, fun i _ => [F.portRxok i]⟩,
  ⟨0x122, 2, 4, 0x100, 1, 0x0, fun i _ => [F.portTxok i]⟩,
  ⟨0x124, 1, 4, 0x100, 1, 0x0, fun i _ => [F.portRxfcs i]⟩,
  ⟨0x125, 1, 4, 0x100, 1, 0x0, fun i _ => [F.portRxsize i]⟩,
  ⟨0x126, 1, 4, 0x100, 1, 0x0, fun i _ => [F.portVlandrop i]⟩,
  ⟨0x127, 1, 4, 0x100, 1, 0x0, fun i _ => [F.portPausedrop i]⟩,
  ⟨0x128, 1, 4, 0x100, 4, 0x1, fun i j => [F.portCongdrop i j]⟩,
  ⟨0x12c, 1, 4, 0x100, 1, 0x0, fun i _ => [F.portFlushdrop i]⟩,
  ⟨0x12d, 1, 4, 0x100, 1, 0x0, fun i _ => [F.portCterr i]⟩,
  ⟨0x12e, 1, 4, 0x100, 1, 0x0, fun i _ => [F.portTxabort i]⟩,
  ⟨0x12f, 1, 4, 0x100, 1, 0x0, fun i _ => [F.portTsstall i]⟩,
  ⟨0x130, 1, 4, 0x100, 1, 0x0, fun i _ => [F.portLinkdowns i]⟩,
  ⟨0x131, 1, 4, 0x100, 1, 0x0, fun i _ => [F.portRetrains i]⟩,
  ⟨0x1000, 4, 64, 0x4, 1, 0x0, fun i _ => [F.portVid i, F.portValid i, F.portMember i, F.portUntag i, F.portVowner i]⟩,
  ⟨0x2000, 4, 32, 0x4, 1, 0x0, fun i _ => [F.portSmac i, F.portSmask i, F.portSvlan i, F.portSvalid i]⟩]

/-- All word groups of PORT. -/
def grps_port : List Grp := grps_port0 ++ grps_port1

/-- Word groups of PTP (R289 and R290), part 1. -/
def grps_ptp0 : List Grp := [
  ⟨0x0, 1, 1, 0x0, 1, 0x0, fun _ _ => [F.ptpClktype, F.ptpProfile, F.ptpSlaveonly, F.ptpUtcvalid, F.ptpCfgerr, F.ptpClamped]⟩,
  ⟨0x1, 1, 1, 0x0, 1, 0x0, fun _ _ => [F.ptpDomain, F.ptpClassmax]⟩,
  ⟨0x2, 1, 1, 0x0, 1, 0x0, fun _ _ => [F.ptpPrio1, F.ptpPrio2]⟩,
  ⟨0x3, 4, 1, 0x0, 1, 0x0, fun _ _ => [F.ptpClkid]⟩,
  ⟨0x7, 1, 1, 0x0, 1, 0x0, fun _ _ => [F.ptpRsv1e, F.ptpRsv2e]⟩,
  ⟨0x8, 1, 1, 0x0, 1, 0x0, fun _ _ => [F.ptpRsv3e, F.ptpRsv1g]⟩,
  ⟨0x9, 1, 1, 0x0, 1, 0x0, fun _ _ => [F.ptpRsv2g]⟩,
  ⟨0xa, 1, 1, 0x0, 1, 0x0, fun _ _ => [F.ptpClass, F.ptpAccuracy]⟩,
  ⟨0x10, 4, 1, 0x0, 1, 0x0, fun _ _ => [F.ptpGmid]⟩,
  ⟨0x14, 1, 1, 0x0, 1, 0x0, fun _ _ => [F.ptpGmclass, F.ptpSteps]⟩,
  ⟨0x15, 1, 1, 0x0, 1, 0x0, fun _ _ => [F.ptpParentport]⟩,
  ⟨0x18, 1, 1, 0x0, 1, 0x0, fun _ _ => [F.ptpOvlive]⟩,
  ⟨0x19, 1, 1, 0x0, 1, 0x0, fun _ _ => [F.ptpOvsecs]⟩,
  ⟨0x100, 1, 4, 0x100, 1, 0x0, fun i _ => [F.ptpEn i, F.ptpMech i, F.ptpTransport i, F.ptpOnestep i, F.ptpMasteronly i, F.ptpExtcfg i, F.ptpExtstate i] ++ (if i < 2 then [F.ptpEsmcen i] else [])⟩,
  ⟨0x101, 1, 4, 0x100, 1, 0x0, fun i _ => [F.ptpLogsync i, F.ptpLogann i]⟩,
  ⟨0x102, 1, 4, 0x100, 1, 0x0, fun i _ => [F.ptpArto i, F.ptpLogdreq i]⟩,
  ⟨0x103, 1, 4, 0x100, 1, 0x0, fun i _ => [F.ptpPvid i, F.ptpPpcp i]⟩,
  ⟨0x104, 2, 4, 0x100, 1, 0x0, fun i _ => [F.ptpIpv4 i]⟩,
  ⟨0x106, 8, 4, 0x100, 1, 0x0, fun i _ => [F.ptpIpv6 i]⟩,
  ⟨0x10e, 1, 4, 0x100, 1, 0x0, fun i _ => [F.ptpTtl i]⟩,
  ⟨0x10f, 1, 4, 0x100, 1, 0x0, fun i _ => [F.ptpAsym i]⟩,
  ⟨0x110, 1, 4, 0x100, 1, 0x0, fun i _ => [F.ptpPstate i]⟩,
  ⟨0x111, 3, 4, 0x100, 1, 0x0, fun i _ => [F.ptpOffset i]⟩,
  ⟨0x114, 3, 4, 0x100, 1, 0x0, fun i _ => [F.ptpMpd i]⟩]

/-- Word groups of PTP (R289 and R290), part 2. -/
def grps_ptp1 : List Grp := [
  ⟨0x117, 1, 4, 0x100, 1, 0x0, fun i _ => [F.ptpQltx i]⟩,
  ⟨0x118, 1, 4, 0x100, 4, 0x1, fun i j => [F.ptpDrop i j]⟩,
  ⟨0x11c, 1, 4, 0x100, 1, 0x0, fun i _ => [F.ptpTqrefuse i]⟩,
  ⟨0x11d, 1, 4, 0x100, 1, 0x0, fun i _ => [F.ptpTcdrop i]⟩,
  ⟨0x11e, 1, 4, 0x100, 1, 0x0, fun i _ => [F.ptpOnestepfb i]⟩,
  ⟨0x11f, 1, 4, 0x100, 1, 0x0, fun i _ => [F.ptpJumpref i]⟩,
  ⟨0x120, 1, 4, 0x100, 1, 0x0, fun i _ => [F.ptpAnntmo i]⟩,
  ⟨0x121, 1, 4, 0x100, 1, 0x0, fun i _ => [F.ptpMgmtdrop i]⟩,
  ⟨0x122, 1, 4, 0x100, 1, 0x0, fun i _ => [F.ptpIrqen i]⟩,
  ⟨0x123, 1, 4, 0x100, 1, 0x0, fun i _ => [F.ptpIrqstat i]⟩]

/-- All word groups of PTP. -/
def grps_ptp : List Grp := grps_ptp0 ++ grps_ptp1

/-- Word groups of ENS (R310 and R311), part 1. -/
def grps_ens0 : List Grp := [
  ⟨0x0, 1, 1, 0x0, 1, 0x0, fun _ _ => [F.ensLepen 0, F.ensLepen 1, F.ensRelay]⟩,
  ⟨0x1, 1, 1, 0x0, 1, 0x0, fun _ _ => [F.ensLoglep]⟩,
  ⟨0x2, 1, 1, 0x0, 1, 0x0, fun _ _ => [F.ensEnsid]⟩,
  ⟨0x3, 2, 1, 0x0, 1, 0x0, fun _ _ => [F.ensDigestx]⟩,
  ⟨0x5, 2, 1, 0x0, 1, 0x0, fun _ _ => [F.ensDigest]⟩,
  ⟨0x7, 1, 1, 0x0, 1, 0x0, fun _ _ => [F.ensHopmax]⟩,
  ⟨0x8, 1, 1, 0x0, 1, 0x0, fun _ _ => [F.ensPqual, F.ensPlost]⟩,
  ⟨0x9, 1, 1, 0x0, 1, 0x0, fun _ _ => [F.ensMadmin]⟩,
  ⟨0xa, 1, 1, 0x0, 1, 0x0, fun _ _ => [F.ensLepslot]⟩,
  ⟨0xb, 1, 1, 0x0, 1, 0x0, fun _ _ => [F.ensVersion]⟩,
  ⟨0x10, 1, 1, 0x0, 1, 0x0, fun _ _ => [F.ensCount, F.ensContrib]⟩,
  ⟨0x11, 3, 1, 0x0, 1, 0x0, fun _ _ => [F.ensConsoff]⟩,
  ⟨0x14, 1, 1, 0x0, 1, 0x0, fun _ _ => [F.ensCnoise]⟩,
  ⟨0x15, 1, 1, 0x0, 1, 0x0, fun _ _ => [F.ensIrqen]⟩,
  ⟨0x16, 1, 1, 0x0, 1, 0x0, fun _ _ => [F.ensIrqstat]⟩,
  ⟨0x20, 1, 1, 0x0, 1, 0x0, fun _ _ => [F.ensVerdrop]⟩,
  ⟨0x21, 1, 1, 0x0, 1, 0x0, fun _ _ => [F.ensDupdrop]⟩,
  ⟨0x22, 1, 1, 0x0, 1, 0x0, fun _ _ => [F.ensHopdrop]⟩,
  ⟨0x23, 1, 1, 0x0, 1, 0x0, fun _ _ => [F.ensLoopback]⟩,
  ⟨0x24, 1, 1, 0x0, 1, 0x0, fun _ _ => [F.ensPeerfull]⟩,
  ⟨0x25, 1, 1, 0x0, 1, 0x0, fun _ _ => [F.ensMisstx]⟩,
  ⟨0x26, 1, 1, 0x0, 1, 0x0, fun _ _ => [F.ensOutlier]⟩,
  ⟨0x27, 1, 1, 0x0, 1, 0x0, fun _ _ => [F.ensRelayed]⟩,
  ⟨0x100, 1, 16, 0x20, 1, 0x0, fun i _ => [F.ensPstate i, F.ensSplit i, F.ensExcl i, F.ensPstale i, F.ensPeerport i, F.ensHops i]⟩]

/-- Word groups of ENS (R310 and R311), part 2. -/
def grps_ens1 : List Grp := [
  ⟨0x101, 4, 16, 0x20, 1, 0x0, fun i _ => [F.ensClockid i]⟩,
  ⟨0x105, 1, 16, 0x20, 1, 0x0, fun i _ => [F.ensPstatebits i, F.ensPmq i]⟩,
  ⟨0x106, 1, 16, 0x20, 1, 0x0, fun i _ => [F.ensPver i]⟩,
  ⟨0x107, 2, 16, 0x20, 1, 0x0, fun i _ => [F.ensPdigest i]⟩,
  ⟨0x109, 3, 16, 0x20, 1, 0x0, fun i _ => [F.ensPoff i]⟩,
  ⟨0x10c, 3, 16, 0x20, 1, 0x0, fun i _ => [F.ensPdelay i]⟩,
  ⟨0x10f, 1, 16, 0x20, 1, 0x0, fun i _ => [F.ensWeight i]⟩,
  ⟨0x110, 4, 16, 0x20, 1, 0x0, fun i _ => [F.ensSrcid i]⟩,
  ⟨0x114, 1, 16, 0x20, 1, 0x0, fun i _ => [F.ensSrckind i]⟩,
  ⟨0x115, 2, 16, 0x20, 1, 0x0, fun i _ => [F.ensTest i]⟩,
  ⟨0x117, 1, 16, 0x20, 1, 0x0, fun i _ => [F.ensAge i]⟩]

/-- All word groups of ENS. -/
def grps_ens : List Grp := grps_ens0 ++ grps_ens1

/-- Word groups of BRAMBLE (R325). -/
def grps_bram0 : List Grp := [
  ⟨0x0, 1, 1, 0x0, 1, 0x0, fun _ _ => [F.bramAlarmok]⟩,
  ⟨0x1, 1, 1, 0x0, 1, 0x0, fun _ _ => [F.bramFifoovf]⟩,
  ⟨0x100, 1, 32, 0x10, 1, 0x0, fun i _ => [F.bramPath i, F.bramOwner i, F.bramOwnerr i]⟩,
  ⟨0x101, 3, 32, 0x10, 1, 0x0, fun i _ => [F.bramPen i]⟩,
  ⟨0x104, 4, 32, 0x10, 1, 0x0, fun i _ => [F.bramCen i]⟩,
  ⟨0x108, 1, 32, 0x10, 1, 0x0, fun i _ => [F.bramCoalcnt i]⟩,
  ⟨0x109, 1, 32, 0x10, 1, 0x0, fun i _ => [F.bramEvtcnt i]⟩,
  ⟨0x400, 1, 16, 0x1, 1, 0x0, fun i _ => [F.bramPedge i]⟩,
  ⟨0x500, 1, 16, 0x1, 1, 0x0, fun i _ => [F.bramPw i, F.bramToggle i]⟩,
  ⟨0x600, 1, 5, 0x10, 1, 0x0, fun i _ => [F.bramDepth i, F.bramOvf i]⟩,
  ⟨0x601, 4, 5, 0x10, 1, 0x0, fun i _ => [F.bramHead i]⟩]

/-- All word groups of BRAMBLE. -/
def grps_bram : List Grp := grps_bram0

/-- Word groups of TENANT (R344). -/
def grps_ten0 : List Grp := [
  ⟨0x0, 1, 1, 0x0, 1, 0x0, fun _ _ => [F.tenTnen, F.tenVlanerr]⟩,
  ⟨0x10, 1, 4, 0x10, 1, 0x0, fun i _ => [F.tenPipmask i]⟩,
  ⟨0x11, 1, 4, 0x10, 1, 0x0, fun i _ => [F.tenCapmask i]⟩,
  ⟨0x12, 2, 4, 0x10, 1, 0x0, fun i _ => [F.tenChanmask i]⟩,
  ⟨0x14, 1, 4, 0x10, 1, 0x0, fun i _ => [F.tenTiomask i]⟩,
  ⟨0x15, 1, 4, 0x10, 1, 0x0, fun i _ => [F.tenCkmask i]⟩,
  ⟨0x16, 1, 4, 0x10, 1, 0x0, fun i _ => [F.tenStoneblk i]⟩,
  ⟨0x17, 1, 4, 0x10, 1, 0x0, fun i _ => [F.tenPressblk i, F.tenLogblk i]⟩,
  ⟨0x18, 1, 4, 0x10, 1, 0x0, fun i _ => [F.tenAllocerr i]⟩,
  ⟨0x19, 1, 4, 0x10, 1, 0x0, fun i _ => [F.tenDpip i]⟩,
  ⟨0x1a, 1, 4, 0x10, 1, 0x0, fun i _ => [F.tenDcap i]⟩,
  ⟨0x1b, 2, 4, 0x10, 1, 0x0, fun i _ => [F.tenDchan i]⟩,
  ⟨0x1d, 1, 4, 0x10, 1, 0x0, fun i _ => [F.tenDtio i]⟩,
  ⟨0x1e, 1, 4, 0x10, 1, 0x0, fun i _ => [F.tenDck i]⟩]

/-- All word groups of TENANT. -/
def grps_ten : List Grp := grps_ten0

/-- Word groups of STONE (R364). -/
def grps_sto0 : List Grp := [
  ⟨0x100000, 1, 1, 0x0, 1, 0x0, fun _ _ => [F.stoTxnwords]⟩,
  ⟨0x100001, 1, 1, 0x0, 1, 0x0, fun _ _ => [F.stoJpend]⟩,
  ⟨0x100002, 2, 1, 0x0, 1, 0x0, fun _ _ => [F.stoSeq]⟩,
  ⟨0x100004, 2, 1, 0x0, 1, 0x0, fun _ _ => [F.stoJserial]⟩,
  ⟨0x100006, 1, 1, 0x0, 1, 0x0, fun _ _ => [F.stoPuflags, F.stoJapplied]⟩,
  ⟨0x100007, 1, 1, 0x0, 1, 0x0, fun _ _ => [F.stoBufrej]⟩,
  ⟨0x100008, 1, 1, 0x0, 1, 0x0, fun _ _ => [F.stoNotxn]⟩,
  ⟨0x100009, 1, 1, 0x0, 1, 0x0, fun _ _ => [F.stoHolddef]⟩,
  ⟨0x10000a, 1, 1, 0x0, 1, 0x0, fun _ _ => [F.stoMscanpos]⟩,
  ⟨0x10000b, 1, 1, 0x0, 1, 0x0, fun _ _ => [F.stoMscans]⟩,
  ⟨0x10000c, 1, 1, 0x0, 1, 0x0, fun _ _ => [F.stoWeakcnt]⟩,
  ⟨0x10000d, 1, 1, 0x0, 1, 0x0, fun _ _ => [F.stoCecnt]⟩,
  ⟨0x10000e, 1, 1, 0x0, 1, 0x0, fun _ _ => [F.stoUecnt]⟩,
  ⟨0x10000f, 1, 1, 0x0, 1, 0x0, fun _ _ => [F.stoStorefail]⟩,
  ⟨0x100010, 2, 2, 0x2, 1, 0x0, fun i _ => [F.stoErase i]⟩,
  ⟨0x100014, 1, 1, 0x0, 1, 0x0, fun _ _ => [F.stoTincrej]⟩,
  ⟨0x200000, 2, 32, 0x2, 1, 0x0, fun i _ => [F.stoTally i]⟩,
  ⟨0x200040, 1, 1, 0x0, 1, 0x0, fun _ _ => [F.stoTallyinc]⟩]

/-- All word groups of STONE. -/
def grps_sto : List Grp := grps_sto0

/-- Word groups of CAL (R382). -/
def grps_cal0 : List Grp := [
  ⟨0x0, 1, 1, 0x0, 1, 0x0, fun _ _ => [F.calCalver]⟩,
  ⟨0x1, 1, 1, 0x0, 1, 0x0, fun _ _ => [F.calOriginBg, F.calOriginThr, F.calOriginTdc, F.calOriginSkew]⟩,
  ⟨0x2, 1, 1, 0x0, 1, 0x0, fun _ _ => [F.calSupgain]⟩,
  ⟨0x3, 1, 1, 0x0, 1, 0x0, fun _ _ => [F.calSupoff]⟩,
  ⟨0x4, 1, 1, 0x0, 1, 0x0, fun _ _ => [F.calTempoff]⟩,
  ⟨0x5, 1, 2, 0x1, 1, 0x0, fun i _ => [F.calAvsref i]⟩,
  ⟨0x8, 1, 4, 0x1, 1, 0x0, fun i _ => [F.calSwing i]⟩,
  ⟨0x10, 1, 4, 0x1, 1, 0x0, fun i _ => [F.calThroff i]⟩,
  ⟨0x18, 1, 8, 0x1, 1, 0x0, fun i _ => [F.calSkew i]⟩,
  ⟨0x100, 128, 22, 0x80, 1, 0x0, fun i _ => [F.calTdcw i]⟩,
  ⟨0xffe, 2, 1, 0x0, 1, 0x0, fun _ _ => [F.calCalcrc]⟩,
  ⟨0x1000, 1, 1, 0x0, 1, 0x0, fun _ _ => [F.calTdctol]⟩,
  ⟨0x1001, 1, 1, 0x0, 1, 0x0, fun _ _ => [F.calFacload, F.calWrbusy]⟩,
  ⟨0x1002, 4, 1, 0x0, 1, 0x0, fun _ _ => [F.calLastsec]⟩,
  ⟨0x1006, 2, 1, 0x0, 1, 0x0, fun _ _ => [F.calLastns]⟩,
  ⟨0x1008, 1, 1, 0x0, 1, 0x0, fun _ _ => [F.calLastuntr]⟩,
  ⟨0x1009, 1, 1, 0x0, 1, 0x0, fun _ _ => [F.calRejitem]⟩,
  ⟨0x100a, 1, 1, 0x0, 1, 0x0, fun _ _ => [F.calSkipcnt]⟩,
  ⟨0x100b, 1, 1, 0x0, 1, 0x0, fun _ _ => [F.calWrrej]⟩,
  ⟨0x100c, 2, 1, 0x0, 1, 0x0, fun _ _ => [F.calTdcstale]⟩,
  ⟨0x100e, 1, 1, 0x0, 1, 0x0, fun _ _ => [F.calAuxstale]⟩,
  ⟨0x1010, 2, 1, 0x0, 1, 0x0, fun _ _ => [F.calTdcout]⟩]

/-- All word groups of CAL. -/
def grps_cal : List Grp := grps_cal0

/-- Word groups of FAULT (R396). -/
def grps_flt0 : List Grp := [
  ⟨0x0, 1, 1, 0x0, 1, 0x0, fun _ _ => [F.fltLines]⟩,
  ⟨0x1, 1, 1, 0x0, 1, 0x0, fun _ _ => [F.fltSafeblk, F.fltSafecls]⟩,
  ⟨0x100, 1, 14, 0x40, 1, 0x0, fun i _ => [F.fltLevel i, F.fltUnclr i, F.fltIsol i]⟩,
  ⟨0x101, 2, 14, 0x40, 1, 0x0, fun i _ => [F.fltQuiet i]⟩,
  ⟨0x103, 1, 14, 0x40, 1, 0x0, fun i _ => [F.fltLive i]⟩,
  ⟨0x104, 1, 14, 0x40, 1, 0x0, fun i _ => [F.fltIrqen i]⟩,
  ⟨0x105, 1, 14, 0x40, 1, 0x0, fun i _ => [F.fltForce i]⟩,
  ⟨0x106, 1, 14, 0x40, 1, 0x0, fun i _ => [F.fltForceinfo i]⟩,
  ⟨0x107, 1, 14, 0x40, 1, 0x0, fun i _ => [F.fltAck i]⟩,
  ⟨0x108, 8, 14, 0x40, 1, 0x0, fun i _ => [F.fltFirst i]⟩,
  ⟨0x110, 8, 14, 0x40, 1, 0x0, fun i _ => [F.fltLast i]⟩,
  ⟨0x120, 1, 14, 0x40, 16, 0x1, fun i j => [F.fltRec i j]⟩,
  ⟨0x130, 1, 14, 0x40, 16, 0x1, fun i j => [F.fltCnt i j]⟩]

/-- All word groups of FAULT. -/
def grps_flt : List Grp := grps_flt0

/-- Word groups of PRESS (R412). -/
def grps_prs0 : List Grp := [
  ⟨0x0, 1, 1, 0x0, 1, 0x0, fun _ _ => [F.prsTrigfault, F.prsSnappol, F.prsRsrc, F.prsTriglvl]⟩,
  ⟨0x1, 1, 1, 0x0, 1, 0x0, fun _ _ => [F.prsTrigblk]⟩,
  ⟨0x2, 1, 1, 0x0, 1, 0x0, fun _ _ => [F.prsPre]⟩,
  ⟨0x3, 1, 1, 0x0, 1, 0x0, fun _ _ => [F.prsPost]⟩,
  ⟨0x4, 2, 1, 0x0, 1, 0x0, fun _ _ => [F.prsWrpos]⟩,
  ⟨0x6, 1, 1, 0x0, 1, 0x0, fun _ _ => [F.prsDepth]⟩,
  ⟨0x7, 1, 1, 0x0, 1, 0x0, fun _ _ => [F.prsSnapstate]⟩,
  ⟨0x8, 1, 1, 0x0, 1, 0x0, fun _ _ => [F.prsCoaltrig]⟩,
  ⟨0x9, 1, 1, 0x0, 1, 0x0, fun _ _ => [F.prsGapcnt]⟩,
  ⟨0xa, 1, 1, 0x0, 1, 0x0, fun _ _ => [F.prsSlowdrop]⟩,
  ⟨0x10, 1, 4, 0x8, 1, 0x0, fun i _ => [F.prsSlotValid i, F.prsSlotShort i, F.prsSlotTrunc i, F.prsSlotCause i, F.prsSlotfree i]⟩,
  ⟨0x11, 3, 4, 0x8, 1, 0x0, fun i _ => [F.prsTbeat i]⟩,
  ⟨0x40, 1, 1, 0x0, 1, 0x0, fun _ _ => [F.prsRstate, F.prsRerr, F.prsExact]⟩,
  ⟨0x41, 2, 1, 0x0, 1, 0x0, fun _ _ => [F.prsRbeat]⟩,
  ⟨0x43, 2, 1, 0x0, 1, 0x0, fun _ _ => [F.prsDivbeat]⟩,
  ⟨0x45, 1, 1, 0x0, 1, 0x0, fun _ _ => [F.prsDivcnt]⟩]

/-- All word groups of PRESS. -/
def grps_prs : List Grp := grps_prs0

/-- Word groups of SVC (R428). -/
def grps_svc0 : List Grp := [
  ⟨0x0, 1, 1, 0x0, 1, 0x0, fun _ _ => [F.svcLock, F.svcBackoff, F.svcPwisset, F.svcVerdict]⟩,
  ⟨0x1, 1, 1, 0x0, 1, 0x0, fun _ _ => [F.svcUnlctl]⟩,
  ⟨0x2, 2, 1, 0x0, 1, 0x0, fun _ _ => [F.svcBowait]⟩,
  ⟨0x4, 1, 1, 0x0, 1, 0x0, fun _ _ => [F.svcFailrun]⟩,
  ⟨0x8, 8, 1, 0x0, 1, 0x0, fun _ _ => [F.svcChal]⟩,
  ⟨0x10, 6, 1, 0x0, 1, 0x0, fun _ _ => [F.svcRsp]⟩,
  ⟨0x16, 1, 1, 0x0, 1, 0x0, fun _ _ => [F.svcChalleft]⟩,
  ⟨0x18, 1, 1, 0x0, 1, 0x0, fun _ _ => [F.svcPwlen]⟩,
  ⟨0x20, 1, 16, 0x1, 1, 0x0, fun i _ => [F.svcPwbuf i]⟩,
  ⟨0x30, 1, 1, 0x0, 1, 0x0, fun _ _ => [F.svcBorej]⟩,
  ⟨0x100, 2, 1, 0x0, 1, 0x0, fun _ _ => [F.svcRelocktime]⟩,
  ⟨0x102, 1, 1, 0x0, 1, 0x0, fun _ _ => [F.svcUpen]⟩,
  ⟨0x103, 1, 1, 0x0, 1, 0x0, fun _ _ => [F.svcUcctl]⟩,
  ⟨0x104, 1, 1, 0x0, 1, 0x0, fun _ _ => [F.svcUcState, F.svcUcReason]⟩,
  ⟨0x105, 1, 6, 0x1, 1, 0x0, fun i _ => [F.svcSlotcnt i]⟩,
  ⟨0x110, 1, 1, 0x0, 1, 0x0, fun _ _ => [F.svcFloornew]⟩,
  ⟨0x111, 1, 1, 0x0, 1, 0x0, fun _ _ => [F.svcFloorgo, F.svcFloorstat]⟩,
  ⟨0x120, 1, 1, 0x0, 1, 0x0, fun _ _ => [F.svcFramecnt]⟩,
  ⟨0x121, 1, 1, 0x0, 1, 0x0, fun _ _ => [F.svcAbortcnt]⟩,
  ⟨0x122, 1, 1, 0x0, 1, 0x0, fun _ _ => [F.svcCrccnt]⟩,
  ⟨0x123, 1, 1, 0x0, 1, 0x0, fun _ _ => [F.svcRsplost]⟩]

/-- All word groups of SVC. -/
def grps_svc : List Grp := grps_svc0

/-- Word groups of the tenants' own view blocks (R345 and R365), part 1. -/
def grps_tv0 : List Grp := [
  ⟨0x102, 1, 4, 0x1000, 1, 0x0, fun i _ => [F.tvLatch i, F.tvRelease i, F.tvHeld i]⟩,
  ⟨0x103, 7, 4, 0x1000, 1, 0x0, fun i _ => [F.tvTsec i, F.tvTns i, F.tvTfrac i]⟩,
  ⟨0x100, 1, 4, 0x1000, 1, 0x0, fun i _ => [F.tvTid i]⟩,
  ⟨0x101, 1, 4, 0x1000, 1, 0x0, fun i _ => [F.tvMode i, F.tvUntraced i, F.tvTimeref i, F.tvReady i]⟩,
  ⟨0x10a, 1, 4, 0x1000, 1, 0x0, fun i _ => [F.tvPipen i]⟩,
  ⟨0x10b, 1, 4, 0x1000, 1, 0x0, fun i _ => [F.tvPipfired i]⟩,
  ⟨0x10c, 1, 4, 0x1000, 1, 0x0, fun i _ => [F.tvBramfire i]⟩,
  ⟨0x10d, 1, 4, 0x1000, 1, 0x0, fun i _ => [F.tvBramEvt i, F.tvBramCoal i, F.tvBramDeny i, F.tvBramOvf i, F.tvLastch i]⟩,
  ⟨0x110, 1, 4, 0x1000, 1, 0x0, fun i _ => [F.tvAlloc0 i]⟩,
  ⟨0x111, 1, 4, 0x1000, 1, 0x0, fun i _ => [F.tvAlloc1 i]⟩,
  ⟨0x112, 2, 4, 0x1000, 1, 0x0, fun i _ => [F.tvAlloc2 i]⟩,
  ⟨0x114, 1, 4, 0x1000, 1, 0x0, fun i _ => [F.tvAlloc4 i]⟩,
  ⟨0x115, 1, 4, 0x1000, 1, 0x0, fun i _ => [F.tvAlloc5 i]⟩,
  ⟨0x116, 1, 4, 0x1000, 1, 0x0, fun i _ => [F.tvAlloc6 i]⟩,
  ⟨0x117, 1, 4, 0x1000, 1, 0x0, fun i _ => [F.tvAlloc7 i]⟩,
  ⟨0x118, 1, 4, 0x1000, 1, 0x0, fun i _ => [F.tvFramecnt i]⟩,
  ⟨0x119, 1, 4, 0x1000, 1, 0x0, fun i _ => [F.tvAbortcnt i]⟩,
  ⟨0x11a, 1, 4, 0x1000, 1, 0x0, fun i _ => [F.tvCrccnt i]⟩,
  ⟨0x11b, 1, 4, 0x1000, 1, 0x0, fun i _ => [F.tvRsplost i]⟩,
  ⟨0x11c, 1, 4, 0x1000, 1, 0x0, fun i _ => [F.tvSlicedef i]⟩,
  ⟨0x200, 1, 4, 0x1000, 1, 0x0, fun i _ => [F.tvStTxnctlB i, F.tvStTxnctlC i, F.tvStTxnctlA i]⟩,
  ⟨0x201, 1, 4, 0x1000, 1, 0x0, fun i _ => [F.tvStOpen i, F.tvStRunning i, F.tvStDone i, F.tvStFail i, F.tvStReason i]⟩,
  ⟨0x202, 1, 4, 0x1000, 1, 0x0, fun i _ => [F.tvStTxnwords i]⟩,
  ⟨0x203, 1, 4, 0x1000, 1, 0x0, fun i _ => [F.tvStLogpush i]⟩]

/-- Word groups of the tenants' own view blocks (R345 and R365), part 2. -/
def grps_tv1 : List Grp := [
  ⟨0x204, 1, 4, 0x1000, 1, 0x0, fun i _ => [F.tvStLoghead i]⟩,
  ⟨0x205, 1, 4, 0x1000, 1, 0x0, fun i _ => [F.tvStLogwraps i]⟩]

/-- All word groups of the tenants' own view blocks. -/
def grps_tv : List Grp := grps_tv0 ++ grps_tv1

/-- The word groups of a window space (R103), of the direct area (16) and of a tenant view (17). -/
def grpsOf : Nat → List Grp
  | 0 => grps_sys
  | 1 => grps_ref
  | 2 => grps_servo
  | 3 => grps_syn
  | 4 => grps_time
  | 5 => grps_port
  | 6 => grps_ptp
  | 7 => grps_ens
  | 8 => grps_bram
  | 9 => grps_ten
  | 10 => grps_sto
  | 11 => grps_cal
  | 12 => grps_flt
  | 13 => grps_prs
  | 14 => grps_svc
  | 15 => grps_fab
  | 16 => grps_d
  | 17 => grps_tv
  | _ => []

/-- The group's lowest address and its indices, where word address `a` lies in a group of the family. -/
def Grp.locate (g : Grp) (a : Nat) : Option (Nat × Nat) :=
  if a < g.base then none else
  let d := a - g.base
  let i := if g.s1 = 0 then 0 else d / g.s1
  let r := d - i * g.s1
  let j := if g.s2 = 0 then 0 else r / g.s2
  let q := r - j * g.s2
  if i < g.n1 ∧ j < g.n2 ∧ q < g.words then some (i, j) else none

/-- A listed word group: where it starts, how many words it has and its fields. -/
structure WordGrp where
  base : Nat
  words : Nat
  flds : List Fld
deriving DecidableEq, Repr

/-- The word group that lists address `a`, searched in order. -/
def findGrp : List Grp → Nat → Option WordGrp
  | [], _ => none
  | g :: gs, a =>
    match g.locate a with
    | some (i, j) => some ⟨g.base + i * g.s1 + j * g.s2, g.words, g.flds i j⟩
    | none => findGrp gs a

/-- The listed word group of space `sp` that holds word address `a`; `none` where the space does not list it (R105). -/
def grpAt (sp a : Nat) : Option WordGrp := findGrp (grpsOf sp) a

end Sys2Proof.Machine
end

