-- ==== Sys2Proof/Machine/SMap.lean ====
section
/-! DEFINITION. Sparse maps (a list of key and value pairs with rising keys) and addressed memory (a canonical list of
address and byte pairs, R28, R346), with their reads and writes. -/
namespace Sys2Proof.Machine

/-- A sparse map: pairs with strictly rising keys. -/
abbrev SMap (α : Type) := List (Nat × α)

/-- The value held for a key. -/
def SMap.get? {α : Type} : SMap α → Nat → Option α
  | [], _ => none
  | (k, v) :: m, j => if k = j then some v else SMap.get? m j

/-- The map with the value of a key replaced or added. -/
def SMap.set {α : Type} : SMap α → Nat → α → SMap α
  | [], j, x => [(j, x)]
  | (k, v) :: m, j, x =>
    if j < k then (j, x) :: (k, v) :: m else if j = k then (j, x) :: m else (k, v) :: SMap.set m j x

/-- The value held for a key, or `d` where none is held. -/
def SMap.getD {α : Type} (m : SMap α) (j : Nat) (d : α) : α := (m.get? j).getD d

/-- The map without a key. -/
def SMap.del {α : Type} (m : SMap α) (j : Nat) : SMap α := m.filter (fun p => p.1 != j)

/-- Every key is greater than `b`, and the keys rise strictly. -/
def SMap.above {α : Type} : Nat → SMap α → Bool
  | _, [] => true
  | b, (k, _) :: m => b < k && SMap.above k m

/-- The keys rise strictly. -/
def SMap.wf {α : Type} : SMap α → Bool
  | [] => true
  | (k, _) :: m => SMap.above k m

/-- Addressed memory: (address, byte) pairs. An address that is not listed reads 0 (R29; log 9). -/
abbrev Mem := List Host.Cell

/-- What an unlisted address reads as. -/
def Mem.blank : Byte := 0

/-- The byte at an address. -/
def Mem.read (m : Mem) (a : Nat) : Byte := (SMap.get? m a).getD Mem.blank

/-- The memory with one byte written; writing the value an unlisted address reads as removes the entry. -/
def Mem.write : Mem → Nat → Byte → Mem
  | [], a, b => if b = Mem.blank then [] else [(a, b)]
  | (k, v) :: m, a, b =>
    if a < k then (if b = Mem.blank then (k, v) :: m else (a, b) :: (k, v) :: m)
    else if a = k then (if b = Mem.blank then m else (a, b) :: m)
    else (k, v) :: Mem.write m a b

/-- Canonical above a bound: addresses rise strictly from above `n`, and no entry holds the blank byte. -/
def Mem.wfAbove : Nat → Mem → Bool
  | _, [] => true
  | n, (k, v) :: m => n < k && v != Mem.blank && Mem.wfAbove k m

/-- The canonical form of a memory: addresses strictly rising and no entry equal to what an unlisted address reads as. -/
def Mem.wf : Mem → Bool
  | [] => true
  | (k, v) :: m => v != Mem.blank && Mem.wfAbove k m

/-- `n` bytes from an address upward. -/
def Mem.readN (m : Mem) (a : Nat) : Nat → List Byte
  | 0 => []
  | n + 1 => m.read a :: Mem.readN m (a + 1) n

/-- Bytes written from an address upward. -/
def Mem.writeN : Mem → Nat → List Byte → Mem
  | m, _, [] => m
  | m, a, b :: bs => Mem.writeN (m.write a b) (a + 1) bs

/-- A 16-bit word at a byte address, most significant byte first (R5). -/
def Mem.readW (m : Mem) (a : Nat) : Nat := (m.read a).toNat * 256 + (m.read (a + 1)).toNat

/-- The memory with a 16-bit word written at a byte address, most significant byte first (R5). -/
def Mem.writeW (m : Mem) (a w : Nat) : Mem := (m.write a (BitVec.ofNat 8 (w / 256))).write (a + 1) (BitVec.ofNat 8 w)

end Sys2Proof.Machine
end

