-- ==== Sys2Proof/Machine/State.lean ====
section
/-! DEFINITION. The state of the unit: every register, queue, buffer, counter, mode and pin the spec gives it, as plain
data, and the queue of commands that wait. `State.reset` is a unit as it leaves the factory, unpowered (R443, R461). -/
namespace Sys2Proof.Machine

/-! ## Modes and phases -/

/-- The eight modes, in the order of their codes. -/
inductive Mode where
  | boot | provision | track | holdover | ensemble | dormant | replay | safe
deriving DecidableEq, Repr

/-- The code of a mode. -/
def Mode.code : Mode → Nat
  | .boot => 0 | .provision => 1 | .track => 2 | .holdover => 3
  | .ensemble => 4 | .dormant => 5 | .replay => 6 | .safe => 7

/-- The mode of a code, three bits. -/
def Mode.ofCode (n : Nat) : Mode :=
  match n % 8 with
  | 0 => .boot | 1 => .provision | 2 => .track | 3 => .holdover
  | 4 => .ensemble | 5 => .dormant | 6 => .replay | _ => .safe

/-- Whether the unit has energy: `off` before its input rises and after a shutdown (R56, R62), `boot` from power-up or a
cold reset until BOOT ends (R83), `run` from then on. -/
inductive Phase where
  | off | boot | run
deriving DecidableEq, Repr

/-! ## Faults (R383 to R390) -/

/-- The record of one fault class (R383, R386). `live` and `isol` hold one bit for each instance, `evLive` the live bit of an
event class until the next strobe (R385), `quiet` the strobes since the last occurrence at
which the live bit was clear (R388), `seq` tells one record of
the class from the next, and `ret` marks an L2 record acknowledged or recovered whose resource has not returned (R390). -/
structure FRec where
  level : Nat := 0
  esc : Nat := 0
  uncl : Bool := false
  acked : Bool := false
  recovered : Bool := false
  dflt : Nat := 0
  ceil : Nat := 0
  opened : Bool := false
  live : Nat := 0
  evLive : Bool := false
  isol : Nat := 0
  ret : Bool := false
  quiet : Nat := 0
  seq : Nat := 0
  /-- The cycle of the last occurrence that was not forced: BEATCNT and the SYSCLK cycle in the beat (R395). -/
  real : Option (Nat × Nat) := none
deriving DecidableEq, Repr

/-- A first-error or last-error capture (R383, R396). -/
structure Capt where
  cls : Nat := 0
  level : Nat := 0
  esc : Nat := 0
  master : Nat := 0
  untraced : Bool := false
  valid : Bool := false
  sec : Nat := 0
  ns : Nat := 0
  info : Nat := 0
  acked : Bool := false
  recovered : Bool := false
  seq : Nat := 0
  /-- The cycle of the occurrence, as in `FRec.real`; none before the time engine counts. -/
  cyc : Option (Nat × Nat) := none
deriving DecidableEq, Repr

/-- The fault books of the fourteen blocks: records by `FC.key`, captures by block. -/
structure FaultSt where
  recs : SMap FRec := []
  first : SMap Capt := []
  last : SMap Capt := []
  /-- The first L3 record made since the last strobe: its block and class (R76). -/
  l3 : Option (Nat × Nat) := none
  /-- An L3 record has been acknowledged since SAFE was entered (R77, R389). -/
  l3acked : Bool := false
deriving DecidableEq, Repr

/-! ## Power and reset (R56 to R73, R89 to R92) -/

/-- How far the power-fail sequence of R61 has come: `storing` from step 2 until step 7, `noStore` a sequence of R63 that
makes no second store. -/
inductive PfStage where
  | none | storing | noStore
deriving DecidableEq, Repr

/-- The supply, the domains and the reset pin, beyond their registers. -/
structure PowerSt where
  pf : PfStage := .none
  /-- The store before a cold reset is in progress (R91). -/
  coldStore : Bool := false
  /-- Domains requested on that have not completed their turn-on time (R65). -/
  turning : Nat := 0
  /-- The shed domains are still coming back on after R62 (R63). -/
  resuming : Bool := false
  /-- Domains switched off by R69, and domains whose power-good is missing. -/
  failed : Nat := 0
  pgLost : Nat := 0
  /-- The input as the supervisor sees it (R56). -/
  below28 : Bool := false
  below30 : Bool := false
  over80 : Bool := false
  /-- The sequence in progress was started by an overvoltage (R56, R73). -/
  ov : Bool := false
  /-- The input stage has opened on an overvoltage (R56). -/
  opened : Bool := false
  /-- The carrier-facing outputs are released (R52). -/
  auxLow : Bool := false
  /-- The real-time counter of D0 is marked lost (R64), the seconds it held at shutdown (R86) and LASTSTORE_OK (R73). -/
  rtcLost : Bool := true
  rtcSec : Nat := 0
  lastStoreOk : Bool := false
  /-- The bank test in progress: the bank voltage just before the charger paused (R60). -/
  test : Option Nat := none
  /-- The second of the last scheduled test (R60). -/
  testSec : Option Nat := none
  /-- Beats since the last AVS evaluation, and beats at 900 mV with a margin below 60 ps, of D5 and D6 (R70). -/
  avsBeats : SMap Nat := []
  avsLow : SMap Nat := []
  /-- Extra slots examined by the last microcode check, 14 ms each (R84). -/
  bootSlots : Nat := 0
  /-- The security-version floor in the fuses (R35, R426). -/
  floor : Nat := 0
deriving DecidableEq, Repr

/-! ## Engines, caches and Orchard (R15 to R37) -/

/-- The facts of a microcode image (R34, R35): its header fields, and whether its digest and its signature are right. -/
structure UImage where
  magic : Nat := 0x4C545543
  engine : Nat
  hver : Nat := 1
  sec : Nat
  ver : Nat
  len : Nat
  hashOk : Bool
  sigOk : Bool
  /-- The other parts of R34, as bytes. -/
  hash : List Byte := []
  sig : List Byte := []
  resv : List Byte := List.replicate 16 0
  body : List Byte := []
  /-- A page of the slot could not be corrected (R358). -/
  bad : Bool := false
deriving DecidableEq, Repr

/-- One engine (SC 0, QC 1, PC 2): stopped for a reload or with no image (R37), it overran in this beat, it has
non-deferrable work carried over (R21), its mailbox has changed over in this beat, and the engines that wait on it. -/
structure EngSt where
  stopped : Bool := false
  reload : Bool := false
  overran : Bool := false
  outstanding : Bool := false
  changed : Bool := false
  waiting : Nat := 0
  /-- The body loaded under R35. -/
  img : Option UImage := none
deriving DecidableEq, Repr

/-- A line in an engine cache: in M or in S, and its 64 bytes (R31). -/
structure CLine where
  m : Bool
  data : List Byte
deriving DecidableEq, Repr

/-- A directory entry (R30). A line that is not listed is U. -/
inductive Dir where
  | s (sharers : Nat)
  | m (owner : Nat)
  | wb (from_ : Nat)
deriving DecidableEq, Repr

/-- A contention mark on a line, oldest first (R33). -/
structure Mark where
  line : Nat
  agent : Nat
deriving DecidableEq, Repr

/-- A claim that waits for a line, and the ownership transfers it has waited (R33). -/
structure Claim where
  line : Nat
  agent : Nat
  waited : Nat
deriving DecidableEq, Repr

/-- The engines and Orchard, beyond their registers. -/
structure EngineSt where
  eng : SMap EngSt := []
  /-- An engine has overrun in this beat (tally 14 counts each such beat once, R21). -/
  overBeat : Bool := false
  /-- Deferrable items abandoned in this beat: bit 0 compression, 1 margin scheduling, 2 gossip (R21). -/
  abandoned : Nat := 0
  /-- The engines restart after a warm reset; the beats not run so far (R27). -/
  restart : Option Nat := none
  caches : SMap (SMap CLine) := []
  /-- Write-back buffers, by engine: at most two lines each, oldest first. -/
  wbuf : SMap (List (Nat × List Byte)) := []
  dir : SMap Dir := []
  marks : List Mark := []
  claims : List Claim := []
  orchard : Mem := []
  /-- The line that HB took a copy of last (R32). -/
  hbLine : List Byte := []
deriving DecidableEq, Repr

/-! ## Modes (R74 to R82) -/

/-- Why the unit may leave DORMANT (R77). -/
inductive Exit where
  | alarm | run | empty
deriving DecidableEq, Repr

/-- Mode requests and the counters behind the automatic moves. -/
structure ModeSt where
  /-- The request that waits for a strobe (R75). -/
  req : Option Nat := none
  /-- AUTORUN acts at the next strobe (R82), and the request that waits is AUTORUN's. -/
  autorun : Bool := false
  reqAuto : Bool := false
  /-- An exit from DORMANT is requested (R77, R319). -/
  exit : Option Exit := none
  /-- BOOT has ended and the unit has not yet left it (R83). -/
  bootEnded : Bool := false
  /-- Consecutive beats with two or more peers, and with fewer than two (R77). -/
  rise : Nat := 0
  fall : Nat := 0
  /-- The unit has left PROVISION since the last power-up or cold reset (R87, R241). -/
  leftProv : Bool := false
  /-- A reference requalified and its Graft was accepted (R77). -/
  requalified : Bool := false
  /-- The selected reference was QUALIFIED when DORMANT began or its last wake window ended (R77, R156). -/
  refQualAtWake : Bool := false
deriving DecidableEq, Repr

/-! ## Windows and commands (R103 to R126) -/

/-- A snapshot of a word group (R107). -/
structure Snap where
  sp : Nat
  base : Nat
  words : Nat
  value : Nat
deriving DecidableEq, Repr

/-- Words staged for a commit (R109): the group and the words written, by index. -/
structure Stg where
  sp : Nat
  base : Nat
  words : Nat
  vals : SMap Nat
deriving DecidableEq, Repr

/-- The window state of one agent (R106). -/
structure Win where
  space : Nat := 0
  addr : Nat := 0
  ainc : Bool := false
  snap : Option Snap := none
  stg : Option Stg := none
deriving DecidableEq, Repr

/-- A committed write that waits for the strobe (R111, R118): the agent that made it and the fields it sets. -/
structure Staged where
  agent : Nat
  flds : List (Fld × Nat)
deriving DecidableEq, Repr

/-- The command in progress (R124): accepted and waiting for its strobe, or started. -/
structure CmdRun where
  code : Nat
  arg : Nat
  started : Bool
deriving DecidableEq, Repr

/-- The host bus, the windows of every agent, and what waits for the strobe. -/
structure BusSt where
  /-- The word that the last host read drove on D[15:0]; between read strobes the pins are at high impedance (R95). -/
  rdata : Option Word := none
  win : SMap Win := []
  /-- The direct snapshot of the host bus (R107). -/
  dsnap : Option (Nat × Nat) := none
  staging : List Staged := []
  /-- Direct fields of R118 written since the last strobe, oldest first. -/
  dstage : List (Fld × Nat) := []
  cmd : Option CmdRun := none
deriving DecidableEq, Repr

/-! ## Time scale, Pips, captures and TIO pins (R226 to R243) -/

/-- Why a step of the time scale was decided (R228). -/
inductive StepWhy where
  | setting | jump
deriving DecidableEq, Repr

/-- A decided step, applied at the next strobe (R16), in 2⁻¹⁶ ns. -/
structure Step where
  delta : Int
  why : StepWhy
deriving DecidableEq, Repr

/-- A Pip beyond its registers (R233 to R237): the instant of its next edge, the end of a pulse in progress, and the first
strobe from which edges fire. Instants are time-scale values in 2⁻¹⁶ ns. -/
structure Pip where
  due : Option Nat := none
  pulse : Option Nat := none
  /-- The pin it drives and its polarity, from the arming until its last pulse has ended (R235, R236). -/
  out : Option (Nat × Bool) := none
  /-- The instant at which its last leading edge was placed (R234, R438). -/
  placed : Option Nat := none
deriving DecidableEq, Repr

/-- A capture unit beyond its registers (R239, R240): its queue of up to 16 entries, oldest first, as 128-bit values. -/
structure Cap where
  queue : List Nat := []
  lastEdge : Option Nat := none
  after : Bool := false
  /-- The last edge handled: its beat and SYSCLK cycle, its entry, and the queue, OVF and LOSTCNT before it (R240). -/
  recent : Option (Nat × Nat × Nat × List Nat × Nat × Nat) := none
deriving DecidableEq, Repr

/-- A TIO pin beyond its word (R241, R321): whether the unit drives it, its drive and its idle level, the cycles left of a
Bramble pulse, and a change of SLEW that waits for the next idle period. -/
structure Tio where
  drive : Bool := false
  idle : Bool := false
  pin : Bool := false
  pulse : Option Nat := none
  slewNext : Option Nat := none
deriving DecidableEq, Repr

/-- The time engine. `now` is the reading of the time scale at the last strobe, in 2⁻¹⁶ ns (R226). -/
structure TimeSt where
  now : Nat := 0
  running : Bool := false
  pend : Option Step := none
  long : Bool := false
  latch : Option Nat := none
  tlatch : SMap Nat := []
  /-- The last leap second: its LEAPAT and the UTCOFF before it (R231). -/
  leapOld : Option (Nat × Int) := none
  /-- The Pip enable bits as they stood at the previous strobe (R135). -/
  pipPrev : Nat := 0
  pips : SMap Pip := []
  caps : SMap Cap := []
  tio : SMap Tio := []
deriving DecidableEq, Repr

/-! ## References (R144 to R164) -/

/-- A reference beyond its REF block. Samples are the last 64 interval errors, newest first, in 2⁻¹⁶ ns, against the time scale
without the servo's own correction (R154); `samp` is the sample of the beat as measured, none where it is missing; a PTP reference
keeps its last. Counters count strobes. -/
structure RefRec where
  samples : List Int := []
  /-- Excess samples that the jump rule holds back, and their sign (R180). -/
  held : List Int := []
  heldNeg : Bool := false
  samp : Option Int := none
  /-- The sample carried to this beat was a new one (PTP and paired inputs sample less than once a beat). -/
  fresh : Bool := false
  due : Option Nat := none
  clean : Nat := 0
  violRun : Nat := 0
  susp : Nat := 0
  /-- A refusal under the jump rule is held (R155). -/
  jump : Bool := false
  /-- The input must enter INDETERMINATE (R150). -/
  ind : Bool := false
  qualBeats : Nat := 0
  /-- The beat count at the strobe at which a violation turned it SUSPECT (R155). -/
  since4 : Option Nat := none
  /-- WTR has run out while the reference stayed QUALIFIED (R158). -/
  wtrDone : Bool := false
  todViol : Bool := false
  noSample : Nat := 0
  /-- The 5 s ESMC timeout has passed (R13, R285). -/
  esmcTmo : Bool := false
  /-- Thresholds in taps of 0.5 mV (R148). -/
  upTap : Int := 840
  loTap : Int := 760
  mids : List Int := []
  seenHi : Bool := false
  seenLo : Bool := false
  /-- The side on which the level last held outside the band, and a stay in the band longer than the filter (R151). -/
  side : Option Bool := none
  dwelt : Bool := false
  bandBeats : Nat := 0
deriving DecidableEq, Repr

/-- GNSS time of day (R160 to R164): the last edge of the paired input, the labels of it and of the next, and the second named first
in this window. -/
structure GnssSt where
  /-- The input that is paired, whose edges and labels these are. -/
  rin : Option Nat := none
  edge : Option Nat := none
  /-- The last label and the instant of its edge (R163). -/
  last : Option (Nat × Nat) := none
  cur : Option Nat := none
  next : Option Nat := none
  named : Option Nat := none
  /-- Strobes since the last label. -/
  since : Nat := 0
  /-- Bytes that wait in the receive buffer. -/
  uart : List Byte := []
  txGo : Bool := false
  txd : List Byte := []
deriving DecidableEq, Repr

/-- References: one record for each of REF0 to REF9. -/
structure RefsSt where
  recs : SMap RefRec := []
  /-- The reference that selection gives in this beat, and the one published at the last changeover, 15 for none (R158). -/
  choice : Nat := 15
  shown : Nat := 15
  /-- QUALB at the last strobe (R129). -/
  qualWas : Nat := 0
  gn : GnssSt := {}
  /-- References held stale by a calibration run (R149). -/
  calStale : Nat := 0
deriving DecidableEq, Repr

/-! ## Servo and model (R167 to R205) -/

/-- A Graft in progress (R168 to R171): by build-out until the first update, by slew, or by a step. -/
inductive Graft where
  | build (updated : Bool)
  | slew
  | step
deriving DecidableEq, Repr

/-- The servo beyond its registers. Frequencies are in 2⁻⁴⁸ and phases in 2⁻¹⁶ ns; `integ` is in 2⁻⁸⁰. -/
structure ServoSt where
  integ : Int := 0
  /-- LOCKED has been reached since the loop last started (R173, R174). -/
  locked : Bool := false
  lockRun : Nat := 0
  unlockRun : Nat := 0
  clampRun : Nat := 0
  bwBeats : Nat := 0
  /-- The input in use and its last phase, raw and unwrapped (R170). -/
  input : Option Nat := none
  raw : Option Int := none
  phase : Int := 0
  graft : Option Graft := none
  /-- The slew in progress runs at JSLEW (R178). -/
  jslew : Bool := false
  /-- New phase minus old residual, the last 16 common beats of each frequency reference (R169), and each build-out. -/
  common : SMap (List Int) := []
  builds : SMap Int := []
  /-- Consecutive excess samples of a time reference and their sign (R180). -/
  exRun : SMap Nat := []
  exNeg : Nat := 0
  /-- Refused offsets, the beat of each refusal, and references whose refusal has been lifted (R181 to R183). -/
  joff : SMap Int := []
  jbeat : SMap Nat := []
  lifted : Nat := 0
  /-- JREF as it was before this strobe, the offset that ACCEPT_JUMP applied last with its beat, and the last confirmation: its beat,
  the two references, and CONF and CONFREF before it (R184). -/
  jrefWas : Option Nat := none
  accepted : Option (Nat × Int) := none
  confirmed : Option (Nat × Nat × Nat × Nat × Nat) := none
  /-- The consensus sample of this beat and the beats since the last one (R306). -/
  ensSamp : Option Int := none
  ensAge : Nat := 0
  /-- What fcorr and fslew have added to the time scale, in 2⁻¹⁶ ns (R154). -/
  steer : Int := 0
  /-- A sample was used in this beat. -/
  updated : Bool := false
deriving DecidableEq, Repr

/-- A wake window in progress, with the settings it started with (R204), times in strobes but for WPER in s; `rin` until the turn-on of
D11 that opens it is done (R201). -/
structure WakeWin where
  elapsed : Nat
  wlen : Nat
  wmeas : Nat
  wakeset : Nat
  wper : Nat
  rin : Bool
deriving DecidableEq, Repr

/-- The learned model beyond its registers. -/
structure ModelSt where
  /-- Strobes counted toward a powered second, and strobes since D1 turned on. -/
  tick : Nat := 0
  oscBeats : Nat := 0
  /-- The last valid temperature, in 2⁻¹⁶ °C, and the last reading (R186, R187). -/
  temp : Int := 1638400
  prev : Option Int := none
  lost : Bool := false
  /-- The second in progress: its beats, whether all were fit to use, and the sums of fmodel, fcorr and err² (R191). -/
  beats : Nat := 0
  good : Bool := true
  sumModel : Int := 0
  sumCorr : Int := 0
  errSq : Nat := 0
  errN : Nat := 0
  /-- A second has ended; the fitted one awaits its update with its mean prediction and correction. -/
  mqDue : Bool := false
  fit : Option (Int × Int) := none
  /-- Mean fcorr of up to 64 fitted seconds (R193), residuals of 24 h with their seconds (R197), err² of 64 s (R199). -/
  corr : List Int := []
  resid : List (Nat × Int) := []
  errs : List (Nat × Nat) := []
  e0 : Nat := 0
  /-- Runs of the gain loop (R192). -/
  runHigh : Nat := 0
  runLong : Nat := 0
  /-- The squared innovations of up to 3,600 consecutive fitted seconds, newest first. -/
  innSq : List Nat := []
  /-- Strobes toward the next second of HOLDT (R199). -/
  holdTick : Nat := 0
  copySecs : Nat := 0
  win : Option WakeWin := none
  nextWake : Nat := 0
  /-- Good samples of the window: beats ago, SELREF and err (R202). -/
  goodErr : List (Nat × Nat × Int) := []
deriving DecidableEq, Repr

/-! ## Synthesisers (R206 to R225) -/

/-- A channel's setting with its source (R210). -/
structure Plan where
  src : Nat
  int : Nat
  num : Nat
  den : Nat
  odiv : Nat
deriving DecidableEq, Repr

/-- A channel beyond its registers. `start` is the instant of a pending first edge, `change` the range change in progress
and `wait` the one behind it (R216, R218), `hold` the instant a hold began, `faulted` a running output squelched by a
fault (R215). -/
structure Chan where
  start : Option Nat := none
  change : Option Plan := none
  wait : Option Plan := none
  hold : Option Nat := none
  faulted : Bool := false
deriving DecidableEq, Repr

/-- The synthesisers beyond their registers, and the ramp generator (R220 to R223). -/
structure SynthSt where
  chans : SMap Chan := []
  /-- Centre and depth at the start of the segment, or of the return to 0. -/
  off0 : Int := 0
  dep0 : Int := 0
  /-- Beats of the 1,024-beat return made so far. -/
  stop : Option Nat := none
  startPend : Bool := false
  load : Bool := false
  ended : Bool := false
  /-- The word that synthesiser B applies, in 2⁻⁴⁸ (R207), and the swing of r that synthesiser A applies, in 0.005 ppm (R220). -/
  word : Int := 0
  swing : Int × Int := (0, 0)
deriving DecidableEq, Repr

/-! ## Ports and the bridge (R245 to R266) -/

/-- A frame in the frame memory (R257): its number, bytes without tags, VLAN entry, VID and PCP, and ingress port. -/
structure Frame where
  id : Nat
  dst : Nat
  src : Nat
  body : List Byte
  /-- Its outer tag, TPID and TCI, where it arrived with a VID of its own (R253, R254). -/
  tag : Option Nat
  entry : Nat
  vid : Nat
  pcp : Nat
  len : Nat
  port : Nat
deriving DecidableEq, Repr

/-- A learned address (R255): the MAC address, the VLAN entry, the port and the beat in which it was last seen. -/
structure Addr where
  mac : Nat
  entry : Nat
  port : Nat
  seen : Nat
deriving DecidableEq, Repr

/-- One port beyond its registers: the layer of its transceiver (1 is 1000BASE-X, 2 is 100BASE-FX), its A0h page, the queues
TC0 to TC3 and TQ, the bytes last sent, and the beats of diagnostics and of a bad mean-square error. -/
structure Port where
  layer : Nat := 0
  a0 : List Byte := []
  queues : SMap (List Frame) := []
  tx : List Byte := []
  diagNow : Bool := false
  diagAt : Option Nat := none
  stalled : Bool := false
  bad : Nat := 0
  training : Bool := false
deriving DecidableEq, Repr

/-- The ports and the bridge. -/
structure PortsSt where
  ports : SMap Port := []
  addrs : List Addr := []
  nextId : Nat := 0
  /-- The beat of the last diagnostics read on P0 or P1 (R249). -/
  diagBeat : Option Nat := none
deriving DecidableEq, Repr

/-! ## Precision time protocol (R267 to R290) -/

/-- The data set of an Announce (R272): the grandmaster's attributes, the sender, the port it came in on, the beats of its
last two receptions, and what it says of UTC. -/
structure Foreign where
  p1 : Nat
  cls : Nat
  acc : Nat
  var : Nat
  p2 : Nat
  gm : Nat
  steps : Nat
  snd : Nat
  sport : Nat
  rx : Nat
  at1 : Nat := 0
  at0 : Option Nat := none
  utcOff : Nat := 0
  utcOk : Bool := false
  l61 : Bool := false
  l59 : Bool := false
deriving DecidableEq, Repr

/-- Half of a two-step exchange: a sequence number, an instant, a correction and the beat it came in. -/
structure Half where
  seq : Nat
  t : Int
  corr : Int
  beat : Nat
deriving DecidableEq, Repr

/-- A peer-delay response that waits for its follow-up: t2 as the responder gave it and t4. -/
structure PdResp where
  seq : Nat
  t2 : Int
  t4 : Int
  corr : Int
deriving DecidableEq, Repr

/-- A residence held for a Follow_Up (R278). -/
structure Resid where
  src : Nat
  seq : Nat
  val : Int
  beat : Nat
deriving DecidableEq, Repr

/-- One PTP port beyond its registers. -/
structure PtpPort where
  sync : Option Half := none
  fup : Option Half := none
  /-- t1, t2 and the correction of the last complete Sync. -/
  last : Option (Int × Int × Int) := none
  req : Option Half := none
  resp : Option PdResp := none
  delays : List Int := []
  link : Option Int := none
  nsamp : Nat := 0
  parent : Option (Nat × Nat) := none
  foreign : List Foreign := []
  /-- Strobes since the parent's last Announce, in LISTENING, and left in PRE_MASTER. -/
  annAge : Nat := 0
  /-- The parent's announce receipt timeout has been counted, and no Announce has come since (R276). -/
  annOut : Bool := false
  lis : Nat := 0
  pre : Nat := 0
  seqSync : Nat := 0
  seqAnn : Nat := 0
  seqReq : Nat := 0
  /-- What the port has sent at its instant in this beat, by messageType. -/
  sent : List Nat := []
  /-- A Sync due in a stalled beat waits for the next (R288). -/
  syncPend : Bool := false
  qlAge : Nat := 0
  qlEvent : Bool := false
  esmcDue : Bool := false
  tcTab : List Resid := []
  /-- Follow_Ups that wait for their residence, with the beat each came in (R279). -/
  tcHold : List (List Byte × Nat) := []
  /-- The transmit-timestamp queue, 64 entries (R252). -/
  tsq : List Nat := []
deriving DecidableEq, Repr

/-- The packet core: ports, the budget of the beat (R281) and the overload seconds (R282). `used` is keyed by class, plus 8
for general messages. -/
structure PtpSt where
  ports : SMap PtpPort := []
  admE : Nat := 0
  admG : Nat := 0
  used : SMap Nat := []
  used3 : SMap Nat := []
  dropPort : Option Nat := none
  ovRun : Nat := 0
  clean : Bool := false
deriving DecidableEq, Repr

/-! ## Ensemble (R291 to R311) -/

/-- A peer beyond its block (R298): consecutive intervals with a valid measurement, and without one; what this interval has
brought; strobes since the last beacon; its last measured beacon, its arrival and the strobes since; and the interval of its
last LEAVE. -/
structure Peer where
  run : Nat := 0
  bad : Nat := 0
  meas : Bool := false
  heard : Bool := false
  quiet : Nat := 0
  rx : Option (Nat × Int) := none
  rxAge : Nat := 0
  left : Option Nat := none
deriving DecidableEq, Repr

/-- A beacon that waits for the strobe (R298): its port, its arrival less its RESACC, and whether it can be measured. -/
structure LepRx where
  port : Nat
  b : BeaconIn
  t4 : Int
  ok : Bool
deriving DecidableEq, Repr

/-- A frame relayed in the last 2 s (R295): its sender, sequence number and beat. -/
structure Relay where
  src : Nat
  seq : Nat
  beat : Nat
deriving DecidableEq, Repr

/-- The ensemble beyond its registers: `t1` holds the departures of the last two beacons on each port, newest first; `iv` the
LEP interval, and `due`, `sent` its beacon; `leave` the ports that owe a LEAVE; `cons` the consensus at the last 64 interval
starts. -/
structure EnsSt where
  peers : SMap Peer := []
  seq : Nat := 0
  t1 : SMap (List (Nat × Int)) := []
  iv : Nat := 0
  newIv : Bool := false
  due : Bool := false
  sent : Bool := false
  leave : Nat := 0
  lepPrev : Nat := 0
  relayed : List Relay := []
  rx : List LepRx := []
  lefts : List Nat := []
  cons : List Int := []
deriving DecidableEq, Repr

/-! ## What an engine publishes (R26) -/

/-- The state that an engine has published at a mailbox changeover: the register file as it stood, and the records behind the status
fields of the references, the servo, the model, PTP and the ensemble. -/
structure EngRes where
  regs : SMap Nat := []
  rf : RefsSt := {}
  sv : ServoSt := {}
  mo : ModelSt := {}
  pt : PtpSt := {}
  es : EnsSt := {}
deriving DecidableEq, Repr

/-- A recorded beat as a replay runs it (R409): BEAT, a gap marker, and what SC and QC published for it. -/
structure RBeat where
  beat : Nat
  gap : Bool
  res : EngRes := {}
deriving DecidableEq, Repr

/-! ## Stone (R346 to R360) -/

/-- A record that Stone keeps whole, with the layout version and CRC as one fact (R347, R348). The configuration record
holds register fields by key; the model and access records hold numbers by name. -/
structure Rec where
  ok : Bool := true
  vals : SMap Nat := []
deriving DecidableEq, Repr

/-- What the shadow SRAM and a bank hold (R347): the areas below as bytes, and the three records above them. -/
structure Image where
  mem : Mem := []
  cfg : Option Rec := none
  model : Option Rec := none
  access : Option Rec := none
deriving DecidableEq, Repr

/-- A bank (R346, R349): a sealed header, or a store begun and not sealed; `good` is whether it passes its CRC and ECC. -/
structure Bank where
  isSealed : Bool := false
  unfinished : Bool := false
  good : Bool := true
  seq : Nat := 0
  jser : Nat := 0
  img : Image := {}
deriving DecidableEq, Repr

/-- A journal entry (R353): its serial, whether it is sealed, and its words. -/
structure JEntry where
  serial : Nat
  isSealed : Bool
  words : SMap Nat
deriving DecidableEq, Repr

/-- Why a store runs (R350). -/
inductive StoreWhy where
  | cmd | sched | refresh | powerFail | cold | resumed | wipe
deriving DecidableEq, Repr

/-- A write to the shadow SRAM that may wait for its lock (R349): a journal entry, a record, words by address, or tenant
blocks zeroed. -/
inductive Held where
  | entry (e : JEntry)
  | model (r : Rec)
  | access (r : Rec)
  | words (l : List (Nat × Nat))
  | zero (blks : List Nat)
deriving DecidableEq, Repr

/-- A store in progress (R349, R351): the bank it programs, the image and JSER it carries, and whether it is the repeat. -/
structure StoreRun where
  why : StoreWhy
  bankB : Bool
  jser : Nat
  img : Image
  again : Bool
deriving DecidableEq, Repr

/-- A commit in progress (R353, R354): its journal slot, its serial, and whether it is empty. -/
structure Commit where
  slot : Nat
  serial : Nat
deriving DecidableEq, Repr

/-- A tenant's COMMIT that TXNSTAT has still to report (R354): strobes since its start, and REASON, 0 for the one accepted. -/
structure TCommit where
  beats : Nat := 0
  reason : Nat := 0
deriving DecidableEq, Repr

/-- A tally counter (R359): the strip in use, its generation, its base and its programmed cells. -/
structure Tally where
  strip : Bool := false
  gen : Nat := 0
  base : Nat := 0
  cells : Nat := 0
deriving DecidableEq, Repr

/-- A snapshot slot in the record array (R404): VALID, SHORT, TRUNC and CAUSE, T and the time scale at T, the span, the trigger
beats, the digests of the images' bodies, CFGDIG at the start, the configuration copy, the tenants' sections, and the records with
their places. -/
structure SnapSlot where
  valid : Bool := false
  short : Bool := false
  trunc : Bool := false
  cause : Nat := 0
  t : Nat := 0
  time : Nat := 0
  start : Nat := 0
  beats : Nat := 0
  trigs : List Nat := []
  imgs : List (List Byte) := []
  cfgdig : Nat := 0
  cfg : SMap Nat := []
  sects : SMap (List Byte) := []
  recs : List Byte := []
  idx : List RBeat := []
deriving DecidableEq, Repr

/-- Stone, beyond its registers. Journal slots are keyed strip × 64 + slot; transactions, commits and strips by agent, 0 for
the host bus and 1 to 4 for TN1 to TN4. -/
structure StoneSt where
  shadow : Image := {}
  bankA : Bank := {}
  bankB : Bank := {}
  newestB : Bool := false
  /-- The newest sealed sequence, the last commit serial, and the highest one applied to the SRAM. -/
  seq : Nat := 0
  serial : Nat := 0
  applied : Nat := 0
  eraseA : Nat := 0
  eraseB : Nat := 0
  journal : SMap JEntry := []
  txns : SMap (SMap Nat) := []
  store : Option StoreRun := none
  storeQ : List StoreWhy := []
  /-- Writes that wait for the lock, and engine writes deferred for want of room. -/
  hold : List Held := []
  defer : List Held := []
  commits : SMap Commit := []
  tcom : SMap (List TCommit) := []
  /-- BEATCNT at each tenant's last accepted commit (R354). -/
  tcAt : SMap Nat := []
  /-- The second whose scheduled store has been decided. -/
  sched : Option Nat := none
  tallies : SMap Tally := []
  /-- Increments that wait, one pair for each counter (R360). -/
  tallyQ : List (Nat × Nat) := []
  slots : SMap UImage := []
  slotCnt : SMap Nat := []
  /-- The record array: snapshot slots, the slow record's bytes and its next page (R404, R407). -/
  snaps : SMap SnapSlot := []
  slowMem : Mem := []
  slowPage : Nat := 0
  /-- Tenant blocks, by tenant: Stone partition and log partition (R347), and the tenant each DIRTY block was taken from. -/
  parts : SMap (List Nat) := []
  logs : SMap (List Nat) := []
  dirty : SMap Nat := []
deriving DecidableEq, Repr

/-! ## Bramble (R312 to R324) -/

/-- The crossbar beyond its registers: `due` has one bit for each producer that has fired since the last strobe and whose
event has not yet been delivered, `lastArr` the cycle of the arrival that made each producer's last event, `lastDel` the cycle of each
channel's last event, and the event FIFOs, host 0 and TN1 to TN4, oldest entry first (R320). -/
structure BrambleSt where
  due : Nat := 0
  lastArr : SMap Nat := []
  lastDel : SMap Nat := []
  fifos : SMap (List Nat) := []
deriving DecidableEq, Repr

/-! ## Tenants and their links (R326 to R345) -/

/-- A response of a link (R337): STATUS but for its sticky bits, and the bytes after STATUS. -/
structure Rsp where
  status : Nat
  bytes : List Byte
deriving DecidableEq, Repr

/-- A link (R334 to R338): the responses in its queue, those whose tRESP runs, oldest first, the sticky bits of STATUS, and the
bytes the frame in progress shifts out on SDO. The SVC port is link 4 (R414). -/
structure Link where
  queue : List Rsp := []
  due : List Rsp := []
  sticky : Nat := 0
  out : List Byte := []
  /-- The bytes of a response in `out`, 0 for a STATUS with VALID 0, and the sticky bits it shows. -/
  resp : Nat := 0
  sent : Nat := 0
  frame : Bool := false
  /-- The instants of discarded frames, in beats since the time engine started (2⁻¹⁶ ns), newest first (R342). -/
  bursts : List Nat := []
  /-- Frames begun while the tenant's wipe kept the link closed (R333). -/
  wiped : Nat := 0
deriving DecidableEq, Repr

/-- A wipe in progress (R333): the tenant's number less 1, the stores still to be made, and a failure of Stone. -/
structure Wipe where
  k : Nat
  stores : Nat
  failed : Bool
deriving DecidableEq, Repr

/-- Ownership, by kind × 64 + number: Pips 0, captures 1, channels 2, TIO pins 3, CK outputs 4; 0 is the custodian. -/
structure TenantSt where
  own : SMap Nat := []
  /-- The blocks of each tenant's Press partition, and the tenants whose Press partition is DIRTY (R331). -/
  press : SMap Nat := []
  pressDirty : Nat := 0
  /-- The next byte of each tenant's Press partition (R401), by tenant. -/
  plog : SMap Nat := []
  links : SMap Link := []
  wipe : Option Wipe := none
deriving DecidableEq, Repr

/-! ## Press (R397 to R411) -/

/-- A raw input vector that awaits compression (R23): its beat, FLAGS but for LATE, items and RESCRC, with what SC and QC
published for it. -/
structure Vect where
  beat : Nat
  flags : Nat
  items : List Byte
  crc : Nat
  res : EngRes := {}
deriving DecidableEq, Repr

/-- A record in the ring (R397): KIND, BEAT, its first byte and its length; a checkpoint also has the time scale at its strobe
and the configuration record then, a beat record what SC and QC published. -/
structure PIdx where
  kind : Nat
  beat : Nat
  pos : Nat
  len : Nat
  time : Nat := 0
  cfg : SMap Nat := []
  res : EngRes := {}
deriving DecidableEq, Repr

/-- A snapshot pending (R402 to R404): its slot, T, the time scale at T, its cause, its trigger beats, whether a command waits for
it, and, once copying, its pages left. -/
structure SnapRun where
  slot : Nat
  t : Nat
  time : Nat
  cause : Nat
  trigs : List Nat
  cmd : Bool
  pages : Option Nat := none
  /-- The tenants' sections to zero once the copy ends, each from a byte on (R411). -/
  zero : List (Nat × Nat) := []
deriving DecidableEq, Repr

/-- A replay (R408, R409): its source, the live state of SC and QC that it saved, and the records still to run. -/
structure Replay where
  src : Nat
  saved : EngRes := {}
  todo : List RBeat := []
deriving DecidableEq, Repr

/-- Press beyond its registers. -/
structure PressSt where
  /-- A PRESSTRIG event, or a fault record of R402, awaits the next strobe. -/
  trigEvt : Bool := false
  trigFault : Bool := false
  vecs : List Vect := []
  /-- Host writes, requests, commands, events and force writes since the last strobe, each its tag and payload, oldest first, and the
  numbers of the other items in the previous beat, by tag (R398). -/
  notes : List (Nat × List Byte) := []
  items : SMap (List Int) := []
  /-- The records in the ring, oldest first. -/
  idx : List PIdx := []
  snap : Option SnapRun := none
  rp : Option Replay := none
  /-- SVC upload is open or its image is in the ring (R424). -/
  upload : Bool := false
  /-- The slow record (R407): sums over the second in progress, the entry of the second just ended, and the page so far with the
  second of its first entry. -/
  errSum : Int := 0
  errN : Nat := 0
  tempSum : Int := 0
  tempN : Nat := 0
  slowDue : Option (Nat × Nat) := none
  slow : List Nat := []
  slowSec : Nat := 0
deriving DecidableEq, Repr

/-! ## Calibration (R366 to R382) -/

/-- A run in progress (R368): its kind, the items left by their REJITEM codes (1 for the bandgap group), the strobes of the
item in progress, the first rejection as its REASON and item, and the command that started it, 0 for none. -/
structure CalRun where
  kind : Nat
  items : List Nat
  beats : Nat := 0
  rej : Option (Nat × Nat) := none
  cmd : Nat := 0
deriving DecidableEq, Repr

/-- Calibration beyond its registers: the command that waits for a scheduled run with its argument (R381), a scheduled run that
waits for its first allowed strobe (R370), runs of failed plausibility by TDC channel (R380), and the skew and swing as the
pins have them by now (R373). -/
structure CalSt where
  run : Option CalRun := none
  queued : Option (Nat × Nat) := none
  due : Bool := false
  /-- The item that ended last and the strobe at which it did, as BEATCNT (R381). -/
  ended : Option (Nat × Nat) := none
  fails : SMap Nat := []
  skew : SMap Nat := []
  swing : SMap Int := []
deriving DecidableEq, Repr

/-! ## Service port and lock (R414 to R428) -/

/-- One agent's copies of the gate buffers (R418): PWBUF by word, PWLEN, and RSP by word. -/
structure Gate where
  pw : SMap Nat := []
  len : Nat := 0
  rsp : SMap Nat := []
deriving DecidableEq, Repr

/-- A submission whose verdict is pending (R421): its agent, whether it is a response, its VERDICT code and the time-scale
value at which it shows; `noLock` where LOCK_SERVICE governs at that strobe (R427). -/
structure Attempt where
  agent : Nat
  rsp : Bool
  result : Nat
  due : Nat
  noLock : Bool := false
deriving DecidableEq, Repr

/-- The programming of a code slot (R425): the engine, the slot and the image. -/
structure UcRun where
  e : Nat
  slot : Nat
  img : UImage
deriving DecidableEq, Repr

/-- The service port beyond its registers. Instants are time-scale values in 2⁻¹⁶ ns. `gates` is keyed by agent, 0 or 8. -/
structure SvcSt where
  gates : SMap Gate := []
  runs : List Attempt := []
  /-- VERDICT reads 8 in the SVC port's view (R427). -/
  view8 : Bool := false
  /-- The instant of the last submission from the host bus that was evaluated. -/
  hostAt : Option Nat := none
  salt : Nat := 0
  hash : Nat := 0
  /-- The challenge and the instant of its issue, and the one that waits for a verdict (R419, R427). -/
  chal : Option (Nat × Nat) := none
  chalNext : Option (Nat × Nat) := none
  /-- The instants of the last five attempts, oldest first, and the end of the back-off that FAILRUN set (R422). -/
  tries : List Nat := []
  backTo : Option Nat := none
  /-- The last SVC frame or gate access, and the last SVC frame (R415, R416). -/
  lastUse : Nat := 0
  lastFrame : Option Nat := none
  /-- UCSTAGE, by byte (R425). -/
  stage : Mem := []
  uc : Option UcRun := none
  /-- The floor being blown (R426). -/
  fuse : Option Nat := none
deriving DecidableEq, Repr

/-! ## The whole state -/

/-- Why the machine stops where the spec gives no effect. -/
inductive Fault where
  /-- D0 AON has failed (R69: 'A failure of D0 cannot be recorded'). Raised by `execDomainFail` for domain 0; safe: the
  model stops where the spec says nothing of what follows. -/
  | d0Failed
deriving DecidableEq, Repr

/-- Why the model gives a command no meaning. -/
inductive Refusal where
  /-- The command of this mnemonic has no meaning yet. Raised by an arm of `exec` only; safe: the model stops. -/
  | notModelled (mnemonic : String)
deriving DecidableEq, Repr

/-- The state of the unit. `pending` is the queue of commands, first in, first out; `regs` the register file, by
`Fld.key`, holding the fields that have been written, where any other reads its Reset column; `pubs` what each engine has
published (SC 0, QC 1, PC 2), and, at 3 more, what its mailbox holds before it changes over (R26); `freeCount` the model's own counter for fresh free
values (notes/assumptions/3.md). -/
structure State where
  pending : List Instr := []
  phase : Phase := .off
  regs : SMap Nat := []
  freeCount : Nat := 0
  flt : FaultSt := {}
  pw : PowerSt := {}
  en : EngineSt := {}
  md : ModeSt := {}
  bus : BusSt := {}
  tm : TimeSt := {}
  st : StoneSt := {}
  br : BrambleSt := {}
  tn : TenantSt := {}
  pr : PressSt := {}
  pubs : SMap EngRes := []
  rf : RefsSt := {}
  sv : ServoSt := {}
  mo : ModelSt := {}
  sy : SynthSt := {}
  po : PortsSt := {}
  pt : PtpSt := {}
  es : EnsSt := {}
  ca : CalSt := {}
  sc : SvcSt := {}
deriving DecidableEq, Repr

/-- The shipped image of engine `e` (SC 0, QC 1, PC 2): its security version equals the fused floor (R461). -/
def shipImage (e : Nat) : UImage :=
  { engine := e + 1, sec := Config.secFloor.toNat, ver := (Config.shipVersion e).toNat,
    len := 6 * (Config.shipInstrs e).toNat, hashOk := true, sigOk := true, hash := Config.shipHash e, sig := Config.shipSig e
    body := Config.shipBody e }

/-- The unit as it leaves the factory, without power: both banks erased (R443), both microcode slots of each engine with
the shipped image and the real-time counter marked lost (R461), every register at its Reset column (R7), nothing waiting. -/
def State.reset : State :=
  { pw := { floor := Config.secFloor.toNat },
    st := { slots := [(0, shipImage 0), (1, shipImage 0), (2, shipImage 1), (3, shipImage 1), (4, shipImage 2),
      (5, shipImage 2)] } }

end Sys2Proof.Machine
end

