-- ==== Sys2Proof/Machine/Ops.lean ====
section
/-! DEFINITION. The operations every family shares: register fields, modes and domains, the time scale, tally increments,
free values, Bramble producers, and an occurrence of a fault class (R386). -/
namespace Sys2Proof.Machine

/-! ## Register fields -/

/-- The value in force of a field: what the register file holds, or the Reset column. -/
def State.rd (s : State) (f : Fld) : Nat := s.regs.getD f.key f.rst

/-- The field set to a value, cut to its width. -/
def State.wr (s : State) (f : Fld) (v : Nat) : State := { s with regs := s.regs.set f.key (v % 2 ^ f.w) }

/-- The field as a signed number (R4). -/
def State.rdS (s : State) (f : Fld) : Int := sgn f.w (s.rd f)

/-- A signed number into a field, wrapping. -/
def State.wrS (s : State) (f : Fld) (i : Int) : State := s.wr f (uns f.w i)

/-- A signed number into a field, held at the field's ends. -/
def State.wrSat (s : State) (f : Fld) (i : Int) : State := s.wr f (uns f.w (satSgn f.w i))

/-- A one-bit field as a Bool. -/
def State.is (s : State) (f : Fld) : Bool := s.rd f != 0

/-- A one-bit field set, cleared, or set to a Bool. -/
def State.set1 (s : State) (f : Fld) : State := s.wr f 1
def State.clr (s : State) (f : Fld) : State := s.wr f 0
def State.wrB (s : State) (f : Fld) (b : Bool) : State := s.wr f (b2n b)

/-- A counter field raised by `n`, saturating (R116 and the other tables of counters). -/
def State.incBy (s : State) (f : Fld) (n : Nat) : State := s.wr f (satUns f.w (s.rd f + n))

/-- A counter field raised by one, saturating. -/
def State.inc (s : State) (f : Fld) : State := s.incBy f 1

/-- The field returned to its Reset column (R6, R7). -/
def State.rstFld (s : State) (f : Fld) : State := s.wr f f.rst

/-- Bit `i` of a field. -/
def State.bitOf (s : State) (f : Fld) (i : Nat) : Bool := bit (s.rd f) i

/-- Bit `i` of a field set to `b`. -/
def State.wrBit (s : State) (f : Fld) (i : Nat) (b : Bool) : State := s.wr f (setBit (s.rd f) i b)

/-- The field of a key of the register file. -/
def fldOfKey (k : Nat) : Option Fld :=
  match grpAt (k / 128 / 16777216) (k / 128 % 16777216) with
  | some g => g.flds.find? (fun f => f.key == k)
  | none => none

/-- A fold over the numbers below `n`, from 0 upward. -/
def forN (n : Nat) (f : Nat → State → State) (s : State) : State := (List.range n).foldl (fun t i => f i t) s

/-- The outcome of a command that completes. -/
abbrev Res := Host.Outcome State Fault Refusal

/-- The command's effect where its condition holds, and no effect where it does not (log 1). -/
def when (c : Bool) (f : State → State) (s : State) : Res := .next (if c then f s else s)

/-! ## Free values -/

/-- A fresh free value: it depends on nothing the model fixes (log 3). -/
def State.freeVal (s : State) : Nat := Config.freeNat s.freeCount

/-- The state after a free value has been used. -/
def State.used (s : State) : State := { s with freeCount := s.freeCount + 1 }

/-! ## Modes, domains, power -/

/-- The mode in force. -/
def State.mode (s : State) : Mode := Mode.ofCode (s.rd F.dMode)

/-- The unit has energy. -/
def State.powered (s : State) : Bool := s.phase != .off

/-- The unit has energy and BOOT has been left. -/
def State.live (s : State) : Bool := s.phase == .run && s.mode != .boot

/-- Domain `d` is on (R65). -/
def State.domOn (s : State) (d : Nat) : Bool := s.bitOf F.dPowstat d

/-- A mode in which commands marked "Operating" are allowed (R125). -/
def Mode.operating : Mode → Bool
  | .boot => false
  | .replay => false
  | _ => true

/-- TRACK, HOLDOVER, ENSEMBLE or DORMANT: the modes in which outputs run as configured (R88). -/
def Mode.runs : Mode → Bool
  | .track => true
  | .holdover => true
  | .ensemble => true
  | .dormant => true
  | _ => false

/-! ## The time scale (R4, R226, R227) -/

/-- 2⁻¹⁶ ns in one second, in one beat and between two TCLK edges. -/
def unitsPerSec : Nat := 65536000000000
def unitsPerBeat : Nat := 64000000000
def unitsPerEdge : Nat := 131072

/-- The seconds, nanoseconds and fraction of a time-scale value. -/
def secOf (t : Nat) : Nat := t / unitsPerSec % 2 ^ 64
def nsOf (t : Nat) : Nat := t % unitsPerSec / 65536
def fracOf (t : Nat) : Nat := t % 65536

/-- The time-scale value of its three fields. -/
def ofTime (sec ns frac : Nat) : Nat := sec * unitsPerSec + ns * 65536 + frac

/-- The reading at a TCLK edge after the last strobe (R226: 2 ns each). -/
def State.at (s : State) (edges : Nat) : Nat := s.tm.now + edges * unitsPerEdge

/-- The time-scale second at the last strobe. -/
def State.sec (s : State) : Nat := secOf s.tm.now

/-- The number of the beat within its second (R15). -/
def State.beatOfSec (s : State) : Nat := s.tm.now % unitsPerSec / unitsPerBeat

/-- BEATCNT (R38). -/
def State.beatcnt (s : State) : Nat := s.rd F.fabBeatcnt

/-- The time scale is untraceable (R86). -/
def State.untraced (s : State) : Bool := s.is F.sysUntraced

/-! ## Tally increments (R360) -/

/-- An increment added to the queue: to the counter's own pair where it has one, else as a new pair. -/
def addTally : List (Nat × Nat) → Nat → Nat → List (Nat × Nat)
  | [], n, k => [(n, k)]
  | (m, c) :: q, n, k => if m = n then (m, c + k) :: q else (m, c) :: addTally q n k

/-- One increment of tally `n` queued. -/
def State.tally (s : State) (n : Nat) : State := { s with st.tallyQ := addTally s.st.tallyQ n 1 }

/-! ## Bramble producers (R313) -/

/-- Producer `p` fires: its event is due. -/
def State.fire (s : State) (p : Nat) : State := { s with br.due := s.br.due ||| 2 ^ p }

/-! ## Inputs that Press records (R398) -/

/-- A host write, request, command, event or force write for the vector of the beat in progress: its tag and payload. -/
def State.note (s : State) (tag : Nat) (p : List Byte) : State := { s with pr.notes := s.pr.notes ++ [(tag, p)] }

/-! ## Faults (R383 to R390) -/

/-- The record of a class. -/
def State.frec (s : State) (c : FC) : FRec := s.flt.recs.getD c.key {}

/-- The record of a class replaced. -/
def State.setFrec (s : State) (c : FC) (r : FRec) : State := { s with flt.recs := s.flt.recs.set c.key r }

/-- The live bit of a class: the OR of its instances, or the mark of an event class (R385). -/
def FRec.isLive (r : FRec) : Bool := r.live != 0 || r.evLive

/-- Block `b` holds an uncleared record. -/
def FaultSt.blkUncl (f : FaultSt) (b : Nat) : Bool := f.recs.any (fun p => p.1 / 16 == b && p.2.uncl)

/-- Instance `i` of a class is out of service at L2 (R384). -/
def State.isolated (s : State) (c : FC) (i : Nat) : Bool := bit (s.frec c).isol i

/-- Any instance of a class is out of service. -/
def State.anyIsolated (s : State) (c : FC) : Bool := (s.frec c).isol != 0

/-- The record of a class after an occurrence (R386, steps 2, 3 and 6), with the level `d` and the ceiling `k` of the
instance that makes it, in SAFE or not. -/
def FRec.occur (r : FRec) (byInst safe : Bool) (d k : Nat) : FRec :=
  if r.uncl then
    let lvl := if safe then r.level
               else if byInst && r.level < d then d
               else min (r.level + 1) (min 3 (max r.level r.ceil))
    { r with
      level := lvl
      esc := if r.level < lvl then min 3 (r.esc + 1) else r.esc
      dflt := if !safe && byInst && r.level < d then d else r.dflt
      ceil := if !safe && byInst && r.level < d then k else r.ceil
      quiet := 0 }
  else
    { r with level := d, esc := 0, uncl := true, acked := false, recovered := false, dflt := d, ceil := k,
             opened := true, quiet := 0, ret := false, seq := r.seq + 1 }

/-- The SYSCLK cycle of a time-scale value of this beat: BEATCNT and the cycle in the beat; none while the time engine rests. -/
def State.cycleOf (s : State) (t : Nat) : Option (Nat × Nat) :=
  if s.tm.running then some (s.beatcnt, (t - s.tm.now) / unitsPerEdge / 2) else none

/-- The capture of an occurrence (R386, R396). -/
def captOf (s : State) (c : FC) (r : FRec) (info master t : Nat) : Capt :=
  { cls := c.bit, level := r.level, esc := r.esc, master := master, untraced := s.untraced, valid := true,
    sec := secOf t % 2 ^ 48, ns := nsOf t, info := info, seq := r.seq, cyc := s.cycleOf t }

/-- The capture that holds after an occurrence: of two classes of a block in one cycle the higher level's, on a tie the lower class's
(R395); else the newer. -/
def Capt.better (old : Option Capt) (new : Capt) : Capt :=
  match old with
  | none => new
  | some o =>
    if new.cyc.isSome ∧ o.cyc = new.cyc ∧ o.cls ≠ new.cls ∧ (new.level < o.level ∨ new.level = o.level ∧ o.cls < new.cls) then o
    else new

/-- The first-error capture of block `b` was written in the cycle of `t`. -/
def firstNow (s : State) (b t : Nat) : Bool :=
  match s.flt.first.get? b with | some p => p.cyc.isSome && p.cyc == s.cycleOf t | none => false

/-- A level as an agent's occurrence may reach it: one whose master code names a link, 4 to 7, at most L1 (R342). -/
def linkBound (master d : Nat) : Nat := if 4 ≤ master ∧ master ≤ 7 then min d 1 else d

/-- An occurrence of class `c` (R386): the default and ceiling are `d` and `k`, `inst` the instance taken out of service
where one is, `info` and `master` what the capture shows, `t` the time-scale value it carries. A record that opens or escalates to
TRIGLVL is a trigger of Press (R402). -/
def occurAt (c : FC) (d k : Nat) (inst : Option Nat) (info master t : Nat) (s : State) : State :=
  let r0 := s.frec c
  let r1 := r0.occur c.byInst (s.mode == .safe) (linkBound master d) (linkBound master k)
  let r := if c.hasResource && r1.level == 2 || c.hasResource && c == .beatOverrun && 2 ≤ r1.level
           then match inst with
                | some i => { r1 with isol := setBit r1.isol i true }
                | none => r1
           else r1
  let cp := captOf s c r info master t
  let first := !s.flt.blkUncl c.blk
  let s1 := s.inc (F.fltCnt c.blk c.bit)
  let s2 := s1.setFrec c r
  let s3 : State := { s2 with
    flt.last := s2.flt.last.set c.blk (Capt.better (s2.flt.last.get? c.blk) cp)
    flt.first := if first then s2.flt.first.set c.blk cp
      else if firstNow s c.blk t then s2.flt.first.set c.blk (Capt.better (s2.flt.first.get? c.blk) cp) else s2.flt.first
    flt.l3 := if r.level == 3 && (!r0.uncl || r0.level < 3) then s2.flt.l3.or (some (c.blk, c.bit)) else s2.flt.l3
    pr.trigFault := s2.pr.trigFault || (s.is F.prsTrigfault && s.bitOf F.prsTrigblk c.blk && s.rd F.prsTriglvl ≤ r.level &&
      (!r0.uncl || r0.level < r.level)) }
  if first then s3.fire 40 else s3

/-- The live bit of an event class is set from the event until the next strobe (R385). -/
def State.evLive (s : State) (c : FC) : State :=
  if c.isEvent then s.setFrec c { s.frec c with evLive := true } else s

/-- A real occurrence of class `c` at instance `inst`, `dt` TCLK edges after the last strobe. -/
def State.occ (s : State) (c : FC) (inst info master dt : Nat) : State :=
  let s1 := (occurAt c (c.dflt inst) (c.ceil inst) (some inst) info master (s.at dt) s).evLive c
  s1.setFrec c { s1.frec c with real := s.cycleOf (s.at dt) }

/-- The live bit of instance `i` of a condition class falls; its record's quiet period starts (R388). -/
def State.liveClr (s : State) (c : FC) (i : Nat) : State :=
  s.setFrec c { s.frec c with live := setBit (s.frec c).live i false }

/-- The live bit of instance `i` of a condition class rises, which makes an occurrence (R385); where it is set already
nothing happens. -/
def State.liveSet (s : State) (c : FC) (i info master dt : Nat) : State :=
  if bit (s.frec c).live i then s
  else ((s.setFrec c { s.frec c with live := setBit (s.frec c).live i true })).occ c i info master dt

/-- Every uncleared record of level L3 (R77, R78). -/
def FaultSt.anyL3Uncl (f : FaultSt) : Bool := f.recs.any (fun p => p.2.uncl && p.2.level == 3)

/-- The record that moves the unit to SAFE (SAFEBLK, SAFECLS): the first of level L3 made since the last strobe; at the end
of a BOOT that made none, the first in the order of the blocks that is uncleared. -/
def FaultSt.safeRec (f : FaultSt) : Nat × Nat :=
  f.l3.getD (((f.recs.find? (fun p => p.2.uncl && p.2.level == 3)).map (fun p => (p.1 / 16, p.1 % 16))).getD (0xF, 0xF))

/-- The live bit of any L3 condition is set (R78): a condition class whose record opened at L3, or whose live instance
defaults to L3. -/
def l3Live (s : State) : Bool :=
  FC.all.any (fun c => !c.isEvent &&
    (List.range 16).any (fun i => bit (s.frec c).live i && c.dflt i == 3))

/-- The calibration item in progress, by its REJITEM code (R374). -/
def State.calItem (s : State) : Option Nat := s.ca.run.bind (fun r => r.items.head?)

/-- TDC channel `c` is out of service (R380). -/
def State.tdcOut (s : State) (c : Nat) : Bool := s.isolated .tdcFail c

/-- Deferrable work is out of service: BEAT_OVERRUN at L2 (R24). -/
def State.deferOff (s : State) : Bool := s.anyIsolated .beatOverrun

/-- Stone is out of service (R351). -/
def State.stoneIsol (s : State) : Bool := s.anyIsolated .stoneProg || s.anyIsolated .stoneUe

/-! ## Writes to the shadow SRAM (R349) -/

/-- The bytes of blocks of the tenant area cleared (R347). -/
def Image.zeroBlocks (i : Image) (blks : List Nat) : Image :=
  { i with mem := i.mem.filter (fun c => !blks.contains ((c.1 - 0x80000) / 4096) || c.1 < 0x80000) }

/-- A word of the shadow, by word address. -/
def Image.writeWord (i : Image) (a w : Nat) : Image := { i with mem := i.mem.writeW (2 * a) w }

/-- A write takes effect on the image. -/
def Held.apply (h : Held) (i : Image) : Image :=
  match h with
  | .entry e => e.words.foldl (fun i p => i.writeWord p.1 p.2) i
  | .model r => { i with model := some r }
  | .access r => { i with access := some r }
  | .words l => l.foldl (fun i p => i.writeWord p.1 p.2) i
  | .zero b => i.zeroBlocks b

/-- The commit serial a write brings to the SRAM. -/
def Held.serial (h : Held) : Nat := match h with | .entry e => e.serial | _ => 0

/-- The room a write takes in the 8 KiB hold queue: a record 4 KiB, a word 6 bytes as in a commit buffer (log 16). -/
def Held.size (h : Held) : Nat :=
  match h with
  | .entry e => 6 * e.words.length
  | .model _ => 4096
  | .access _ => 4096
  | .words l => 6 * l.length
  | .zero b => 6 * b.length

/-- A write applied to the SRAM at once. -/
def shadowApply (h : Held) (s : State) : State :=
  { s with st.shadow := h.apply s.st.shadow, st.applied := max s.st.applied h.serial }

/-- A write to the SRAM: at once, or held while a store has the lock; one that finds the queue full is deferred and counted in
HOLDDEF. -/
def engineWrite (h : Held) (s : State) : State :=
  if s.st.store.isNone then shadowApply h s
  else if s.st.hold.foldl (fun n x => n + x.size) 0 + h.size ≤ 8192 then { s with st.hold := s.st.hold ++ [h] }
  else ({ s with st.defer := s.st.defer ++ [h] } : State).inc F.stoHolddef

/-- A port is out of service (R13, R394). -/
def State.portOut (s : State) (n : Nat) : Bool := s.isolated .sfpTxfault n || s.isolated .phyFail n

/-- The packet core runs: D6 on, its image loaded, not stopped, not isolated and not restarting (R13, R27, R37). -/
def State.pcRuns (s : State) : Bool :=
  s.domOn 6 && s.is (F.fabLoaded 2) && !(s.en.eng.getD 2 {}).stopped && !s.isolated .ucodeAuth 3 && s.en.restart.isNone

/-- The packet core is stopped for a reload: packets are dropped at ingress and counted (R37). -/
def State.pcStops (s : State) : Bool := s.domOn 6 && (s.en.eng.getD 2 {}).reload

/-- SC and QC run: D5 on, the image loaded, not stopped and not restarting (R27, R37). -/
def State.scRuns (s : State) : Bool :=
  s.domOn 5 && s.is (F.fabLoaded 0) && !(s.en.eng.getD 0 {}).stopped && s.en.restart.isNone
def State.qcRuns (s : State) : Bool :=
  s.domOn 5 && s.is (F.fabLoaded 1) && !(s.en.eng.getD 1 {}).stopped && s.en.restart.isNone

/-! ## What the engines publish (R26, R27, R113) -/

/-- The engine whose last published value a status field shows (log 92): REF and the references' direct registers are QC's, SERVO, ENS and
the servo's direct registers SC's, PTP is PC's. A RIN's level, band, peaks and thresholds are its front end's, DIGEST is formed at the strobe, and identities
are fixed. -/
def Fld.owner (f : Fld) : Option Nat :=
  if f.acc != .ro then none
  else match f.sp with
    | 1 => if (f.addr % 32 = 1 ∧ 8 ≤ f.lo) ∨ (0x14 ≤ f.addr % 32 ∧ f.addr % 32 < 0x18) then none else some 1
    | 2 => some 0
    | 6 => if f.addr = 3 then none else some 2
    | 7 => if f.addr = 5 then none else some 0
    | 16 => if f.addr = 0xF ∨ f.addr = 0x12 ∨ f.addr = 0x13 ∨ f.addr = 0x1D then some 0
      else if f.addr = 0x10 ∨ f.addr = 0x11 then some 1 else none
    | _ => none

/-- The engines' state as it stands, as one of them publishes it. -/
def State.res (s : State) : EngRes := ⟨s.regs, s.rf, s.sv, s.mo, s.pt, s.es⟩

/-- Slot `i` of what is published takes the state as it stands. -/
def publish (i : Nat) (s : State) : State := { s with pubs := s.pubs.set i s.res }

/-- The state as engine `e` published it last. -/
def State.pub (s : State) (e : Nat) : State :=
  match s.pubs.get? e with
  | some p => { s with regs := p.regs, rf := p.rf, sv := p.sv, mo := p.mo, pt := p.pt, es := p.es }
  | none => s

/-- A field of engine `e` that a published state gives back. AGET and PUAGE count on by themselves. -/
def givesBack (e k : Nat) : Bool :=
  k != F.servoAget.key && k != F.servoPuage.key && (fldOfKey k).any (fun f => f.owner == some e)

/-- The status fields of engine `e` as a register file holds them, put into another. -/
def takeRegs (e : Nat) (from_ into : SMap Nat) : SMap Nat :=
  (from_.filter (fun p => givesBack e p.1)).foldl (fun m p => m.set p.1 p.2) (into.filter (fun p => !givesBack e p.1))

/-- A record with the front end of another: the thresholds, the level's side and the time in the band are the input's own. -/
def RefRec.withFront (r f : RefRec) : RefRec :=
  { r with upTap := f.upTap, loTap := f.loTap, mids := f.mids, seenHi := f.seenHi, seenLo := f.seenLo, side := f.side,
           dwelt := f.dwelt, bandBeats := f.bandBeats }

/-- The references as QC published them, with the front ends, the UART and the calibration's holds as they are. -/
def takeRefs (p cur : RefsSt) : RefsSt :=
  { p with
    recs := p.recs.map (fun x => (x.1, x.2.withFront (cur.recs.getD x.1 {})))
    gn := { p.gn with uart := cur.gn.uart, txGo := cur.gn.txGo, txd := cur.gn.txd }
    calStale := cur.calStale }

/-- Engine `e` goes on from a published state; the powered seconds and the wake schedule keep their own count. -/
def takeRes (e : Nat) (r : EngRes) (s : State) : State :=
  let s1 : State := { s with regs := takeRegs e r.regs s.regs }
  if e = 0 then
    { s1 with sv := r.sv, es := r.es, mo := { r.mo with
        tick := s.mo.tick, oscBeats := s.mo.oscBeats, copySecs := s.mo.copySecs, win := s.mo.win, nextWake := s.mo.nextWake } }
  else if e = 1 then { s1 with rf := takeRefs r.rf s.rf }
  else { s1 with pt := r.pt }

/-- A command in progress of code `code` ends with error `err`, 0 for done (R124, R125). -/
def State.cmdEnd (s : State) (code err : Nat) : State :=
  match s.bus.cmd with
  | some c =>
    if c.code = code ∧ c.started then
      ((({ s with bus.cmd := none } : State).wr F.dStatState (if err = 0 then 2 else 3)).wr F.dStatErr err).set1 F.dCmdDone
    else s
  | none => s

end Sys2Proof.Machine
end

