-- ==== Sys2Proof/Machine/Ucode.lean ====
section
/-! DEFINITION. Microcode: the checks of an image, the load of an engine and its reload after a parity error (R34 to R37). -/
namespace Sys2Proof.Machine

/-- One engine, and an engine replaced: SC 0, QC 1, PC 2. -/
def State.engine (s : State) (e : Nat) : EngSt := s.en.eng.getD e {}
def State.setEngine (s : State) (e : Nat) (x : EngSt) : State := { s with en.eng := s.en.eng.set e x }

/-- The domain an engine runs in: D5 for SC and QC, D6 for PC. -/
def engDom (e : Nat) : Nat := if e = 2 then 6 else 5

/-- The header of an image is right but for its engine code (R34): magic, header version and length. -/
def hdrOk (i : UImage) : Bool := i.magic == 0x4C545543 && i.hver == 1 && i.len % 6 == 0 && i.len ≤ 24576

/-- The first check of R35 that an image fails for engine `e`, as its REASON; 0 where it passes. A slot with a page that cannot be
corrected fails as its hash does (R358). -/
def imageReason (floor e : Nat) (i : UImage) : Nat :=
  if !hdrOk i || i.engine != e + 1 then 1
  else if i.sec < floor then 2
  else if !i.hashOk || i.bad then 3
  else if !i.sigOk then 4
  else 0

/-- A code slot of Stone, keyed 2 × engine + slot. -/
def codeSlot (s : State) (e i : Nat) : Option UImage := s.st.slots.get? (2 * e + i)

/-- What the checks find in a slot; an empty one fails as its header does. -/
def slotReason (s : State) (e i : Nat) : Nat :=
  match codeSlot s e i with
  | some x => imageReason s.pw.floor e x
  | none => 1

/-- A slot rejected: SLOTFAIL and REASON. -/
def slotReject (e i : Nat) (s : State) : State := (s.wrBit (F.fabSlotfail e) i true).wr (F.fabReason e) (slotReason s e i)

/-- A slot loaded: LOADED, SLOT and the image version. -/
def slotLoad (e i : Nat) (x : UImage) (s : State) : State :=
  let s1 := (((s.set1 (F.fabLoaded e)).wr (F.fabSlot e) i).wr (F.fabVer e) x.ver).wrBit (F.fabSlotfail e) i false
  (s1.setEngine e { s1.engine e with img := some x, stopped := false, reload := false }).liveClr .ucodeAuth (e + 1)

/-- Neither slot passes: UCODE_AUTH, and the engine does not run (R36, R37). -/
def authFail (e dt : Nat) (s : State) : State :=
  let s1 := s.clr (F.fabLoaded e)
  (s1.setEngine e { s1.engine e with img := none, stopped := true, reload := false }).liveSet .ucodeAuth (e + 1) (e + 1) 9 dt

/-- The slots tried in order: the first one that passes is loaded (R35). -/
def loadSlots (e dt : Nat) : List Nat → State → State
  | [], s => authFail e dt s
  | i :: l, s =>
    match codeSlot s e i with
    | some x => if slotReason s e i = 0 then slotLoad e i x s else loadSlots e dt l (slotReject e i s)
    | none => loadSlots e dt l (slotReject e i s)

/-- BOOT loads an engine: slot 0, then slot 1 (R35). -/
def bootLoad (e : Nat) (s : State) : State := loadSlots e 0 [0, 1] s

/-- The slots beyond the first that a check of the three engines examines, 14 ms each (R35). -/
def extraSlots (s : State) : Nat :=
  (List.range 3).foldl (fun n e => if slotReason s e 0 = 0 then n else n + 1) 0

/-- An engine fetches instructions (R37): its domain is on, and it is loaded and not stopped. -/
def engFetches (s : State) (e : Nat) : Bool := s.domOn (engDom e) && s.is (F.fabLoaded e) && !(s.engine e).stopped

/-- UCODE_PARITY (R37): the engine stops and its image is reloaded and checked. -/
def execUcodeParity (e : Fin 3) (dt : Dt) (s : State) : Res :=
  when (s.powered && engFetches s e) (fun s =>
    (s.setEngine e { s.engine e with stopped := true, reload := true }).occ .ucodeParity (e + 1) (e + 1) 9 dt.toNat) s

/-- The slot in use is being programmed, so a reload waits (R425). -/
def reloadWaits (s : State) (e : Nat) : Bool := s.sc.uc.any (fun r => r.e == e && r.slot == s.rd (F.fabSlot e))

/-- UCODE_RELOAD_DONE (R37): the slot in use, then the other. -/
def execUcodeReloadDone (e : Fin 3) (dt : Dt) (s : State) : Res :=
  when (s.powered && (s.engine e).reload && !reloadWaits s e) (fun s =>
    loadSlots e dt.toNat [s.rd (F.fabSlot e), 1 - s.rd (F.fabSlot e)] s) s

end Sys2Proof.Machine
end

