-- ==== Sys2Proof/Machine/Cache.lean ====
section
/-! DEFINITION. The engine caches, their write-back buffers and the directory of Orchard lines; and contention by rotation and
marks (R30 to R33). Engines are numbered SC 0, QC 1, PC 2; an agent is its engine's number. -/
namespace Sys2Proof.Machine

/-! ## Lines -/

/-- The byte address of a line, and its 64 bytes in Orchard. -/
def lineAddr (l : Nat) : Nat := 64 * l
def orchLine (s : State) (l : Nat) : List Byte := s.en.orchard.readN (lineAddr l) 64

/-- A line written into Orchard. -/
def putLine (l : Nat) (b : List Byte) (s : State) : State := { s with en.orchard := s.en.orchard.writeN (lineAddr l) b }

/-- The cache of an engine, and the line it holds there. -/
def State.cache (s : State) (e : Nat) : SMap CLine := s.en.caches.getD e []
def State.cline (s : State) (e l : Nat) : Option CLine := (s.cache e).get? l
def State.setCache (s : State) (e : Nat) (c : SMap CLine) : State := { s with en.caches := s.en.caches.set e c }

/-- A line taken into a cache, or out of it. -/
def lineIn (e l : Nat) (c : CLine) (s : State) : State := s.setCache e ((s.cache e).set l c)
def lineOut (e l : Nat) (s : State) : State := s.setCache e ((s.cache e).del l)

/-- The directory entry of a line replaced; none is U. -/
def putDir (l : Nat) (d : Option Dir) (s : State) : State :=
  { s with en.dir := match d with | some d => s.en.dir.set l d | none => s.en.dir.del l }

/-- The set of a line holds fewer than four others, or the line itself (R30). -/
def hasRoom (s : State) (e l : Nat) : Bool :=
  (s.cline e l).isSome || ((s.cache e).filter (fun p => p.1 % 32 == l % 32)).length < 4

/-- A 64-bit word of a line replaced, most significant byte first. -/
def lineWord (b : List Byte) (i w : Nat) : List Byte := b.take (8 * i) ++ bytesBE 8 w ++ b.drop (8 * i + 8)

/-! ## Write-backs (R30, R33) -/

/-- The write-back buffer of an engine. -/
def State.wbufOf (s : State) (e : Nat) : List (Nat × List Byte) := s.en.wbuf.getD e []

/-- A write-back completes: Orchard takes the line, and its directory entry becomes U. -/
def drainOne (e : Nat) (p : Nat × List Byte) (s : State) : State :=
  let s1 := putLine p.1 p.2 (putDir p.1 none s)
  { s1 with en.wbuf := s1.en.wbuf.set e ((s1.wbufOf e).filter (fun q => q.1 != p.1)) }

/-- The write-back of a line in flight completes, where there is one. -/
def drainLine (l : Nat) (s : State) : State :=
  forN 3 (fun e s => match (s.wbufOf e).find? (fun p => p.1 == l) with | some p => drainOne e p s | none => s) s

/-- Every write-back of an engine completes. -/
def drainAll (e : Nat) (s : State) : State := (s.wbufOf e).foldl (fun s p => drainOne e p s) s

/-- An M line into the write-back buffer, whose oldest line is written first where it holds two. -/
def writeBack (e l : Nat) (b : List Byte) (s : State) : State :=
  let s1 := match s.wbufOf e with
    | p :: q => if 2 ≤ (p :: q).length then drainOne e p s else s
    | [] => s
  putDir l (some (.wb e)) { s1 with en.wbuf := s1.en.wbuf.set e (s1.wbufOf e ++ [(l, b)]) }

/-- A sharer leaves the directory entry of a line. -/
def dropSharer (e l : Nat) (s : State) : State :=
  match s.en.dir.get? l with
  | some (.s m) => putDir l (if setBit m e false = 0 then none else some (.s (setBit m e false))) s
  | _ => s

/-- Eviction (R31): an M line is written back through the buffer, an S line notifies the directory. -/
def evict (e l : Nat) (s : State) : State :=
  match s.cline e l with
  | none => s
  | some c => if c.m then writeBack e l c.data (lineOut e l s) else dropSharer e l (lineOut e l s)

/-- Every line of an engine leaves its cache, M lines into Orchard. -/
def cacheFlush (e : Nat) (s : State) : State :=
  (s.cache e).foldl (fun s p =>
    let s1 := lineOut e p.1 s
    if p.2.m then putLine p.1 p.2.data (putDir p.1 none s1) else dropSharer e p.1 s1) (drainAll e s)

/-! ## Sharing and ownership (R31, R33) -/

/-- GetS: an M owner supplies the data, writes it back and keeps the line in S; the reader takes the line in S. -/
def getS (e l : Nat) (s : State) : State :=
  let s1 := drainLine l s
  match s1.en.dir.get? l with
  | some (.m o) =>
    let b := ((s1.cline o l).map CLine.data).getD (orchLine s1 l)
    putDir l (some (.s (2 ^ o + 2 ^ e))) (lineIn e l ⟨false, b⟩ (lineIn o l ⟨false, b⟩ (putLine l b s1)))
  | some (.s m) => putDir l (some (.s (setBit m e true))) (lineIn e l ⟨false, orchLine s1 l⟩ s1)
  | _ => putDir l (some (.s (2 ^ e))) (lineIn e l ⟨false, orchLine s1 l⟩ s1)

/-- DIRECTORY_RECALL: every copy of a line becomes I; the data is the owner's, else Orchard's. -/
def recallLine (l : Nat) (s : State) : List Byte × State :=
  let b := match s.en.dir.get? l with
    | some (.m o) => ((s.cline o l).map CLine.data).getD (orchLine s l)
    | _ => orchLine s l
  (b, putDir l none (forN 3 (fun e s => if (s.cline e l).isSome then lineOut e l s else s) s))

/-- GetM: the line moves to the engine in M, which makes its write; a write-back in flight completes first. -/
def getM (e l i w : Nat) (s : State) : State :=
  let r := recallLine l (drainLine l s)
  putDir l (some (.m e)) (lineIn e l ⟨true, lineWord r.1 i w⟩ r.2)

/-! ## Contention (R33) -/

/-- An engine's place in the rotation of this beat. -/
def rotPlace (s : State) (e : Nat) : Nat := (e + 3 - s.beatcnt % 3) % 3

/-- The claimants of a line in the rotation's order. -/
def inRotation (s : State) (l : List Nat) : List Nat := ((List.range 3).map (fun i => (s.beatcnt % 3 + i) % 3)).filter l.contains

/-- The winner among claimants: the agent marked earliest on the line, else the first by rotation. -/
def winner (s : State) (line : Nat) (l : List Nat) : Option Nat :=
  match s.en.marks.find? (fun m => m.line == line && l.contains m.agent) with
  | some m => some m.agent
  | none => (inRotation s l).head?

/-- Losers wait one more transfer, and each that has none takes a mark, in the rotation's order. -/
def lose (line : Nat) (l : List Nat) (s : State) : State :=
  (inRotation s l).foldl (fun s e =>
    let w := ((s.en.claims.find? (fun c => c.line == line && c.agent == e)).map Claim.waited).getD 0
    let s1 := s.inc (F.fabLoss e)
    { s1 with
      en.claims := s1.en.claims.filter (fun c => !(c.line == line && c.agent == e)) ++ [⟨line, e, w + 1⟩]
      en.marks := if s1.en.marks.any (fun m => m.line == line && m.agent == e) then s1.en.marks else s1.en.marks ++ [⟨line, e⟩] }) s

/-- The claim of an agent is granted: MAXWAIT, and a mark that a contention used is cleared. -/
def grant (line e : Nat) (used : Bool) (s : State) : State :=
  let w := ((s.en.claims.find? (fun c => c.line == line && c.agent == e)).map Claim.waited).getD 0
  let s1 := s.wr F.fabMaxwait (max (s.rd F.fabMaxwait) w)
  { s1 with
    en.claims := s1.en.claims.filter (fun c => !(c.line == line && c.agent == e))
    en.marks := if used then s1.en.marks.filter (fun m => !(m.line == line && m.agent == e)) else s1.en.marks }

/-- Agents whose claims on a line wait. -/
def waitingOn (s : State) (line : Nat) : List Nat := (s.en.claims.filter (fun c => c.line == line)).map Claim.agent

/-- Ownership of a line claimed by agents in one cycle: the winner takes the line in M and makes its write, the others are marked and
wait. -/
def contend (line : Nat) (l : List Nat) (i w : Nat) (s : State) : State :=
  match winner s line l with
  | none => s
  | some e => getM e line i w (lose line (l.filter (fun x => x != e)) (grant line e (1 < l.length) s))

/-- An engine reaches its cache: it runs. -/
def cacheUp (s : State) (e : Nat) : Bool := s.powered && engFetches s e

/-- Claims on a line that its owner's hit leaves waiting (R31, R33). -/
def claimsWait (line : Nat) (l : List Nat) (s : State) : State :=
  { s with en.claims := s.en.claims ++
      (l.filter (fun e => !s.en.claims.any (fun c => c.line == line && c.agent == e))).map (fun e => ⟨line, e, 0⟩) }

/-- A local write: a hit in M, which other claims of the same cycle await; else the engine claims the line with them and with every
claim that waits. -/
def localWrite (e line i w : Nat) (rivals : List Nat) (s : State) : State :=
  match s.cline e line with
  | some ⟨true, b⟩ => claimsWait line (rivals.filter (fun x => x != e)) (lineIn e line ⟨true, lineWord b i w⟩ s)
  | _ => contend line ((List.range 3).filter (fun x => x == e || rivals.contains x || (waitingOn s line).contains x)) i w s

/-- A local read: a line that the cache holds is a hit. -/
def localRead (e line : Nat) (s : State) : State := if (s.cline e line).isSome then s else getS e line s

/-- An engine can take a line: it runs, and the line's set has room. -/
def takesLine (s : State) (line e : Nat) : Bool := cacheUp s e && hasRoom s e line

end Sys2Proof.Machine
end

