-- ==== Sys2Proof/Machine/Refs.lean ====
section
/-! DEFINITION. Reference inputs: the threshold loop, qualification of REF0 to REF9, selection, and GNSS time of day
(R144 to R166). -/
namespace Sys2Proof.Machine

/-! ## Records -/

/-- The record of a reference. -/
def State.ref (s : State) (n : Nat) : RefRec := s.rf.recs.getD n {}
def State.setRef (s : State) (n : Nat) (r : RefRec) : State := { s with rf.recs := s.rf.recs.set n r }

/-- The state code of a reference (R153). -/
def State.refState (s : State) (n : Nat) : Nat := s.rd (F.refState n)

/-- The summary code of a state (R131, R153). -/
def summaryOf (st : Nat) : Nat := match st with | 2 => 1 | 3 => 3 | 4 => 2 | _ => 0

/-- A reference is a clock of its own: QUALIFIED, or QUALIFIED or SUSPECT (R158). -/
def State.refQual (s : State) (n : Nat) : Bool := n < 10 && s.refState n == 3
def State.refHeld (s : State) (n : Nat) : Bool := n < 10 && (s.refState n == 3 || s.refState n == 4)

/-- The refusal of a reference ends: its bit in JREFMASK, and PEND once no refusal is left (R134, R181). -/
def State.jumpClear (s : State) (n : Nat) : State :=
  let s1 := s.wrBit F.servoJrefmask n false
  (s1.wrB F.dJumpPend (s1.rd F.servoJrefmask != 0)).setRef n { s.ref n with jump := false }

/-- A state of R153 entered: the timer restarts, and CHG is set where the summary changes (R155). -/
def State.toState (s : State) (n st : Nat) : State :=
  let s1 := if summaryOf st != summaryOf (s.refState n) then s.set1 F.dRefChg else s
  let s2 := if (s1.ref n).jump && st != 4 then s1.jumpClear n else s1
  ((s2.wr (F.refState n) st).wr (F.refTimer n) 0).setRef n
    { s2.ref n with clean := 0, violRun := 0, susp := 0, qualBeats := 0, wtrDone := false, since4 := none }

/-! ## Pairing with GNSS time of day (R160) -/

/-- The input is paired: GNSSEN is set, GNSSRIN names it, and its NOMFREQ is 1 Hz. -/
def paired (s : State) (n : Nat) : Bool := s.is F.refGnssen && s.rd F.refGnssrin == n && s.rd (F.refNomfreq n) == 16

/-- BADCFG (R166). -/
def badCfg (s : State) : Bool := s.is F.refGnssen && s.rd (F.refNomfreq (s.rd F.refGnssrin)) != 16

/-- A time reference (R144): PTP, or a paired input. -/
def timeRef (s : State) (n : Nat) : Bool := (4 ≤ n && n < 8) || (n < 4 && paired s n)

/-- The label that the labels so far give to an edge at `t`: the last one, and a second for each second between the edges (R163, log
97: DEDUCED). -/
def labelDue (g : GnssSt) (t : Nat) : Option Nat :=
  g.last.map (fun p => p.1 + (t - p.2 + unitsPerSec / 2) / unitsPerSec)

/-- The reference's time minus the time scale, in 2⁻¹⁶ ns, as last measured (R171). -/
def refOffset (s : State) (n : Nat) : Int :=
  if n < 4 then
    match s.rf.gn.edge, s.rf.gn.cur.or (s.rf.gn.edge.bind (labelDue s.rf.gn)) with
    | some e, some l => (l * unitsPerSec : Nat) - (e : Int)
    | _, _ => 0
  else (s.ref n).samp.getD ((s.ref n).samples.headD 0)

/-- A time reference has given a sample to compare (R171). -/
def hasOffset (s : State) (n : Nat) : Bool :=
  if n < 4 then s.rf.gn.edge.isSome && (s.rf.gn.cur.isSome || s.rf.gn.last.isSome) else !(s.ref n).samples.isEmpty || !(s.ref n).held.isEmpty

/-! ## Sources -/

/-- The domain of a reference's source (R65). -/
def refDomain (n : Nat) : Nat := if n < 4 then 11 else if n < 8 then n + 3 else n - 1

/-- The port that carries a reference. -/
def refPort (n : Nat) : Nat := if n < 8 then n - 4 else n - 8

/-- The source of REF4 to REF9 is absent: link down, port domain off, the port out of service or, for PTP, the packet core (R13,
R155). -/
def refAbsent (s : State) (n : Nat) : Bool :=
  4 ≤ n && (!s.domOn (refDomain n) || !s.is (F.portLink (refPort n)) || s.portOut (refPort n) || (n < 8 && !s.pcRuns))

/-- The domain that measures a reference: the TDCs, or the packet core (R65, R144). -/
def refMeter (n : Nat) : Nat := if 4 ≤ n ∧ n < 8 then 6 else 2

/-- In DORMANT outside a wake window a reference whose source is held off is frozen: its own domain, or the one that measures it
(R156). -/
def refFrozen (s : State) (n : Nat) : Bool :=
  s.mode == .dormant && !s.is F.dWake && (!s.domOn (refDomain n) || !s.domOn (refMeter n))

/-- QC moves references through their states: not in BOOT, not while it is stopped or restarting, and in REPLAY from the record alone
(R27, R37, R157). -/
def refsRun (s : State) : Bool := s.live && s.qcRuns && s.mode != .replay

/-- A reference of which QC judges state and timers: enabled, as REF_DISABLE goes before every other move (R155). -/
def refJudged (s : State) (n : Nat) : Bool := refsRun s && s.is (F.refEnable n)

/-! ## Criteria (R154) -/

/-- The nominal frequency in 1/16 Hz: NOMFREQ, or 125 MHz for a recovered clock (R144, R246: 125 MHz). -/
def nomFreq (s : State) (n : Nat) : Nat := if n < 4 then s.rd (F.refNomfreq n) else 2000000000

/-- One nominal period in 2⁻¹⁶ ns; an input with no nominal frequency has none. -/
def nomPeriod (s : State) (n : Nat) : Nat := if nomFreq s n = 0 then 0 else 16 * unitsPerSec / nomFreq s n

/-- The outcome of the edge criterion below 1,024 Hz: 0, 1 missing or 2 stray, and the next due time. -/
structure EdgeChk where
  code : Nat
  due : Option Nat
deriving DecidableEq, Repr

/-- The whole windows of period `p` that have passed by `t` without an edge, after a due time `d` (R154). -/
def windowsGone (p d t : Nat) : Nat := if p = 0 then 0 else if d + p / 8 < t then (t - d - p / 8 + p - 1) / p else 0

/-- One edge against its due time: due times that passed without one were missing edges; within an eighth of the period the edge
sets the next due time, outside it is stray. -/
def edgeChk (p : Nat) (c : EdgeChk) (t : Nat) : EdgeChk :=
  match c.due with
  | none => { c with due := some (t + p) }
  | some d0 =>
    let k := windowsGone p d0 t
    let d := d0 + k * p
    let code := if c.code = 0 ∧ 0 < k then 1 else c.code
    if d ≤ t + p / 8 then ⟨code, some (t + p)⟩ else ⟨if code = 0 then 2 else code, some d⟩

/-- The edges of one beat below 1,024 Hz, and the windows that have passed without one by the end of the beat (R154). Before its
first edge an input has no due time: a window of a period and an eighth that passes empty, `waited` being the time since the input
came under observation at the start of the beat and `beat` the beat's own, is a missing edge. -/
def slowChk (p : Nat) (due : Option Nat) (edges : List Nat) (fin waited beat : Nat) : EdgeChk :=
  let c := edges.foldl (edgeChk p) ⟨0, due⟩
  match c.due with
  | none => { c with code := if windowsGone p p waited < windowsGone p p (waited + beat) then 1 else c.code }
  | some d =>
    let k := windowsGone p d fin
    ⟨if c.code = 0 ∧ 0 < k then 1 else c.code, some (d + k * p)⟩

/-- The edge count of a beat from 1,024 Hz upward (R154): 0, 1 too few, 2 too many. -/
def fastChk (nom fofflim count : Nat) : Nat :=
  let diff : Int := 16384 * count - nom
  if 2 * 16384 * 100000000 + fofflim * nom < diff.natAbs * 100000000 then (if diff < 0 then 1 else 2) else 0

/-- The square root of `n / d` where the rule names no rounding (log 8). -/
def rsqrtQ (n d : Nat) : Nat :=
  isqrt (n / d) + (if isqrt (n / d) * isqrt (n / d) * d = n then 0 else if Config.roundUp (n : Int) d then 1 else 0)

/-- NOISE: the rms of the samples about their least-squares line, in units of 0.25 ns (R154). With the samples held `n`, at
equal spacing, it is the root of (A·C − B²) / (n²·C) with A, B and C the centred sums. -/
def noiseOf (l : List Int) : Nat :=
  let n : Int := l.length
  let xs : List Int := (List.range l.length).map Int.ofNat
  let sy := sumInt l
  let syy := sumInt (l.map (fun y => y * y))
  let sx := sumInt xs
  let sxx := sumInt (xs.map (fun x => x * x))
  let sxy := sumInt ((l.zip xs).map (fun p => p.1 * p.2))
  let a := n * syy - sy * sy
  let b := n * sxy - sx * sy
  let c := n * sxx - sx * sx
  if l.length < 3 then 0 else satUns 16 (rsqrtQ (a * c - b * b).toNat (n * n * c * 268435456).toNat)

/-- |FOFF| is above FOFFLIM, in units of 0.01 ppm (R154). -/
def foffOver (foff : Int) (lim : Nat) : Bool := lim * 2 ^ 48 < foff.natAbs * 100000000

/-- The rank of a Quality Level, 0 the best; any other code counts as DNU (R285). -/
def qlRank (q : Nat) : Nat := match q with | 2 => 0 | 4 => 1 | 8 => 2 | 11 => 3 | _ => 4

/-- The interval between Sync messages of a port in strobes, at least one beat (R154). -/
def syncBeats (s : State) (p : Nat) : Nat :=
  let l := s.rdS (F.ptpLogsync p)
  if 0 ≤ l then 1024 * 2 ^ min l.toNat 20 else max 1 (1024 / 2 ^ min (-l).toNat 10)

/-- What a beat brings a reference; a beat that brings nothing has no edge and no sample. -/
def refInput (l : List RefIn) (n : Nat) : RefIn :=
  (l.find? (fun r => r.n.val == n)).getD ⟨0, [], 0, none, none, false, 4096, 4096, 65535⟩

/-- The TDC channel of a physical reference (R367). -/
def refTdc (n : Nat) : Option Nat := if n < 4 then some n else if n = 8 then some 4 else if n = 9 then some 5 else none

/-- A level of the input that holds for this long passes the glitch filter (R147, R165). -/
def passesGlitch (s : State) (n hold : Nat) : Bool := clampNat 1 500 (s.rd (F.refGlitch n)) ≤ hold

/-- The edges and the measurements of a beat: none where the TDC channel or its domain is out of service or off, nor, of REF0 to REF3,
where D11 is off or the levels of the input are too short for the glitch filter (R12, R67, R147, R380). -/
def refIn (s : State) (l : List RefIn) (n : Nat) : RefIn :=
  let i := refInput l n
  if (refTdc n).any (fun c => s.tdcOut c || !s.domOn 2) || (n < 4 && (!s.domOn 11 || !passesGlitch s n i.hold.toNat)) then
    { i with edges := [], count := 0, phase := none, foff := none }
  else i

/-- The sample of a beat is stale: measured so, held by a calibration, or QC stopped (R37, R149). -/
def refStale (s : State) (n : Nat) (i : RefIn) : Bool := i.stale || bit s.rf.calStale n || !s.qcRuns

/-- The edges of the beat as time-scale values. -/
def edgeTimes (s : State) (i : RefIn) : List Nat := i.edges.map (fun e => s.tm.now + e.toNat)

/-- The violation of the edge or sample criterion: its REASON and the next due time. -/
def edgeViol (s : State) (n fin : Nat) (i : RefIn) : EdgeChk :=
  let r := s.ref n
  if 4 ≤ n ∧ n < 8 then ⟨if 4 * syncBeats s (n - 4) ≤ r.noSample then 1 else 0, none⟩
  else if nomFreq s n < 16384 then
    (if nomFreq s n = 0 then ⟨if i.edges.isEmpty then 0 else 2, none⟩ else slowChk (nomPeriod s n) r.due (edgeTimes s i) fin (r.noSample * unitsPerBeat) unitsPerBeat)
  else ⟨fastChk (nomFreq s n) (s.rd (F.refFofflim n)) i.count.toNat, none⟩

/-- The violation of time of day or of quality. -/
def todOrQuality (s : State) (n : Nat) : Nat :=
  let r := s.ref n
  if r.todViol || (n < 4 && paired s n && 3072 ≤ s.rf.gn.since) then 5
  else if 8 ≤ n && (r.esmcTmo || qlRank (s.rd (F.refQlmin n)) < qlRank (s.rd (F.refQlrx n))) then 6 else 0

/-- The REASON of the beat's violation, 0 for a clean beat: edges, frequency, noise, time of day, quality, in R154's order. -/
def violCode (s : State) (n edge : Nat) : Nat :=
  if edge = 1 && n < 4 && s.rd (F.refLevel n) == 2 then 9
  else if edge != 0 then edge
  else if foffOver (s.rdS (F.refFoff n)) (s.rd (F.refFofflim n)) then 3
  else if s.rd (F.refNoiselim n) < s.rd (F.refNoise n) then 4
  else todOrQuality s n

/-- A phase reduced to the range from minus half a period to plus half a period (R169). -/
def wrapPhase (x : Int) (p : Nat) : Int := if p = 0 then x else (x + p / 2) % p - p / 2

/-- The samples with a new one in front, 64 at most. -/
def pushSample (l : List Int) (x : Int) : List Int := (x :: l).take 64

/-- A phase carried on from the sample before it: the change is taken to the nearest within a period `p` (R154, R170). -/
def nextPhase (p : Nat) (l : List Int) (x : Int) : Int := match l with | [] => x | y :: _ => y + wrapPhase (x - y) p

/-- A sample taken among the last 64. An excess sample of a QUALIFIED time reference is held back, as a missing one is, up to four of
one sign; where the run ends with no refusal they are handled by the noise criterion (R180). -/
def refTake (x : Int) (ex neg : Bool) (r : RefRec) : RefRec :=
  if ex && r.held.length < 4 && (r.held.isEmpty || r.heldNeg == neg) then { r with held := x :: r.held, heldNeg := neg }
  else
    let l := (r.held ++ r.samples).take 64
    if ex then { r with samples := l, held := [x], heldNeg := neg } else { r with samples := pushSample l x, held := [] }

/-- The part of an offset that the jump rule compares with THRESH: less SLEWREM for the selected reference (R180). -/
def sampleResid (s : State) (n : Nat) (d : Int) : Int := d - (if s.rd F.dSelref = n then s.rdS F.servoSlewrem else 0)

/-- A sample is excess: of a QUALIFIED time reference of a traceable time scale, beyond THRESH (R180, R171). -/
def sampleOver (s : State) (n : Nat) (d : Int) : Bool :=
  s.refState n == 3 && timeRef s n && !s.untraced && s.rd F.dThresh * 65536 < (sampleResid s n d).natAbs

/-- The phase hit that a sample of the servo's frequency reference brings, which its build-out takes up: 0 where there is none (R170). -/
def hitOf (s : State) (n : Nat) (x : Int) : Int :=
  if s.sv.input != some n || timeRef s n then 0
  else match s.sv.raw with
    | none => 0
    | some y =>
      let d := wrapPhase (x - y) (nomPeriod s n)
      if 16384 * s.rd F.servoPhit < d.natAbs then d else 0

/-- A frequency offset measured against TCLK, corrected by the model's prediction: what the servo added to the prediction is no part of
it (R154). -/
def foffOf (s : State) (f : Int) : Int := satSgn 48 (f + s.rdS F.servoFword - s.rdS F.servoFmodel)

/-- The measurements of a beat: sample, FOFF and NOISE. A phase hit that is built out moves the samples before it along, so that it is
no violation (R170). -/
def refMeasure (n : Nat) (i : RefIn) (s : State) : State :=
  let r0 := s.ref n
  if 4 ≤ n ∧ n < 8 then s.wr (F.refNoise n) (noiseOf r0.samples)
  else
    let exc := i.phase.any (fun p => sampleOver s n p.toInt)
    let s1 := match i.foff with | some f => if exc then s else s.wrS (F.refFoff n) (foffOf s f.toInt) | none => s
    match i.phase with
    | some p =>
      let h := hitOf s n p.toInt
      let r := if h = 0 then r0 else { r0 with samples := r0.samples.map (· + h) }
      let x := nextPhase (nomPeriod s n) (r.held ++ r.samples) (p.toInt + s.sv.steer)
      let r1 := refTake x exc (sampleResid s n p.toInt < 0) r
      (s1.wr (F.refNoise n) (noiseOf r1.samples)).setRef n { r1 with samp := some p.toInt, fresh := r.fresh || !paired s n }
    | none => s1.setRef n { r0 with samp := none, fresh := r0.fresh && paired s n }

/-- A violation recorded: REASON, MISSCNT, and the moves it makes at once (R155). -/
def refViolate (n code : Nat) (s : State) : State :=
  let s1 := s.wr (F.refReason n) code
  let s2 := if code = 1 ∨ code = 2 ∨ code = 9 then s1.inc (F.refMisscnt n) else s1
  let r := s2.ref n
  let s3 := s2.setRef n { r with clean := 0, violRun := r.violRun + 1, ind := r.ind || code == 9 }
  match s.refState n with
  | 3 =>
    let s4 := s3.toState n 4
    s4.setRef n { s4.ref n with since4 := some (s.beatcnt + 1) }
  | 2 => s3.wr (F.refTimer n) 0
  | 4 => s3.setRef n { s3.ref n with susp := (s3.ref n).susp + 1 }
  | _ => s3

/-- A clean beat: the timers advance (R155). -/
def refClean (n : Nat) (s : State) : State :=
  let r := s.ref n
  (s.inc (F.refTimer n)).setRef n { r with
    clean := r.clean + 1, violRun := 0
    susp := if s.refState n = 4 ∧ !r.jump then r.susp + 1 else r.susp
    qualBeats := if s.refState n = 3 then r.qualBeats + 1 else r.qualBeats }

/-- What a beat gives to measure: below 1,024 Hz a beat with a stray edge gives no sample (R154). -/
def sampleOf (s : State) (n code : Nat) (i : RefIn) : RefIn :=
  if code = 2 ∧ n < 4 ∧ nomFreq s n < 16384 then { i with phase := none } else i

/-- A beat that is neither clean nor a violation: the times at which edges are due pass with it (R154, R156). -/
def dueOver (fin n : Nat) (s : State) : State :=
  let p := nomPeriod s n
  s.setRef n { s.ref n with due := (s.ref n).due.map (fun d => d + windowsGone p d fin * p) }

/-- The qualification of one reference in one beat (R154, R155). Every reference is marked STALE while QC is stopped (R37). -/
def refBeat (ins : List RefIn) (fin n : Nat) (s : State) : State :=
  let i := refIn s ins n
  if refFrozen s n then dueOver fin n (if s.qcRuns then s else s.set1 (F.refStale n))
  else if refStale s n i then
    dueOver fin n ((s.set1 (F.refStale n)).setRef n
      { s.ref n with samp := if 4 ≤ n ∧ n < 8 then (s.ref n).samp else none, fresh := false })
  else if s.refState n < 2 then s.clr (F.refStale n)
  else
    let e := edgeViol s n fin i
    let s1 := refMeasure n (sampleOf s n e.code i) (s.clr (F.refStale n))
    let s2 := s1.setRef n { s1.ref n with due := e.due, noSample := (s1.ref n).noSample + 1 }
    let c := violCode s2 n e.code
    let s3 := if c = 0 then refClean n s2 else refViolate n c s2
    s3.setRef n { s3.ref n with todViol := false }

/-! ## The threshold loop (R148, R149) -/

/-- A tap moved toward its target by at most `k`. -/
def tapToward (cur tgt : Int) (k : Nat) : Int := cur + clampInt (-(k : Int)) k (tgt - cur)

/-- The half-width in taps for a difference of peaks in mV: a tenth of it, from 20 mV to 200 mV. -/
def halfTaps (vmax vmin : Nat) : Nat := clampNat 40 400 (2 * (vmax - vmin) / 10)

/-- The threshold loop in one beat: at most one tap per microsecond, 976 in a beat, within ±3.0 V (R148). -/
def threshBeat (ins : List RefIn) (n : Nat) (s : State) : State :=
  if !s.domOn 11 || s.is (F.refThrfrz n) then s
  else match ins.find? (fun r => r.n.val == n) with
  | none => s
  | some i =>
    let r := s.ref n
    let mid : Int := (i.vmax.toNat : Int) + i.vmin.toNat - 8192
    let half : Int := halfTaps i.vmax.toNat i.vmin.toNat
    let up := tapToward r.upTap (clampInt (-6000) 6000 (mid + half)) 976
    let lo := tapToward r.loTap (clampInt (-6000) 6000 (mid - half)) 976
    let s1 := ((s.wr (F.refVmax n) i.vmax.toNat).wr (F.refVmin n) i.vmin.toNat).wr (F.refThrmid n)
      (satNat 16 (rdiv (up + lo) 4 + 4096))
    (s1.wr (F.refThrhalf n) (satNat 16 (rdiv (up - lo) 4))).setRef n
      { s1.ref n with upTap := up, loTap := lo, mids := ((up + lo) :: r.mids).take 33 }

/-- The centre has moved by no more than two taps over 32 beats; `mids` holds twice the centre (R148). -/
def threshStill (r : RefRec) : Bool :=
  r.mids.length == 33 && r.mids.all (fun m => (m - r.mids.headD 0).natAbs ≤ 4)

/-- The taps that drive the comparators of an input, upper and lower: the band with the offset that the last calibration accepted
(R148). -/
def threshTaps (s : State) (n : Nat) : Int × Int :=
  ((s.ref n).upTap + s.rdS (F.calThroff n), (s.ref n).loTap + s.rdS (F.calThroff n))

/-- The time spent in the band, at a strobe; it pauses while the RIN is calibrated (R152, R374). -/
def bandBeat (n : Nat) (s : State) : State :=
  let r := s.ref n
  s.setRef n { r with bandBeats := if bit s.rf.calStale n then r.bandBeats else if s.domOn 11 && s.rd (F.refLevel n) == 2 then r.bandBeats + 1 else 0 }

/-! ## Selection (R158, R129, R130) -/

/-- The priority of a reference; 0 excludes it. -/
def prio (s : State) (n : Nat) : Nat := s.rd (F.refPrio n)

/-- Reference `a` ranks above `b`: by priority, then by lower index. -/
def ranksAbove (s : State) (a b : Nat) : Bool := prio s a < prio s b || (prio s a == prio s b && a < b)

/-- The highest-ranked reference that `p` admits, among QUALIFIED references that PRIO does not exclude. -/
def bestRef (s : State) (p : Nat → Bool) : Option Nat :=
  (List.range 10).foldl (fun b n =>
    if s.refQual n && prio s n != 0 && p n then
      match b with
      | none => some n
      | some m => if ranksAbove s n m then some n else some m
    else b) none

/-- The selected reference stays selectable: QUALIFIED or SUSPECT and not excluded (R158, rules 1 and 3). -/
def selHeld (s : State) : Bool := s.refHeld (s.rd F.dSelref) && prio s (s.rd F.dSelref) != 0

/-- The reference that the rules of R158 and R130 prefer; none is 0xF. -/
def selectRef (s : State) : Nat :=
  let cur := s.rd F.dSelref
  let man := s.rd F.dManref
  if s.is F.dManual && man < 10 && prio s man != 0 && (s.refQual man || (man == cur && s.refHeld man)) then man
  else if selHeld s then
    (if s.is F.dRevert then (bestRef s (fun n => ranksAbove s n cur && (s.ref n).wtrDone)).getD cur else cur)
  else (bestRef s (fun _ => true)).getD 15

/-- The seconds left before a revertive switch: those of the best reference above the selected one (R166). -/
def wtrLeft (s : State) : Nat :=
  let cur := s.rd F.dSelref
  if !s.is F.dRevert || !selHeld s then 0
  else match bestRef s (fun n => ranksAbove s n cur) with
    | none => 0
    | some n => (s.rd (F.refWtr n) * 1024 - (s.ref n).qualBeats + 1023) / 1024

/-- The reference that selection prefers without waiting out WTR: MANREF where MANUAL selects it, else the highest-ranked
QUALIFIED one (R130, R158, R159). -/
def preferred (s : State) : Option Nat :=
  let man := s.rd F.dManref
  if s.is F.dManual && man < 10 && prio s man != 0 && s.refQual man then some man else bestRef s (fun _ => true)

/-- Selection gives a reference. -/
def selPut (n : Nat) (s : State) : State := { s with rf.choice := n }

/-- What selection gave in the beat before is published (R158). -/
def selShow (s : State) : State := { s with rf.shown := s.rf.choice }

/-- Selection, with MANBAD, CANDREF and WTRLEFT (R130, R158, R166): once a beat, and again for each change of state and each host write
of its strobe, since it follows them all. -/
def refSelection (s : State) : State :=
  if refsRun s then
    (let s1 := if s.is F.dManual && 9 < s.rd F.dManref then s.set1 F.dManbad else s
     selPut (selectRef s1) ((s1.wr F.refCandref ((preferred s1).getD 15)).wr F.refWtrleft (wtrLeft s1)))
  else s

/-! ## GNSS labels (R162, R163) -/

/-- A rising edge of the paired input: the label that a sentence gave it in advance is its own. -/
def gnssEdge (t : Nat) (g : GnssSt) : GnssSt :=
  { g with edge := some t, cur := g.next, next := none, named := none
           last := match g.next with | some l => some (l, t) | none => g.last }

/-- The input that GNSS time of day is paired with now (R160). -/
def pairedRin (s : State) : Option Nat := if paired s (s.rd F.refGnssrin) then some (s.rd F.refGnssrin) else none

/-- The pairing followed: no edge and no label of another input counts (R14, R160). -/
def gnssRepair (s : State) : State :=
  if s.rf.gn.rin = pairedRin s then s
  else { s with rf.gn := { s.rf.gn with rin := pairedRin s, edge := none, last := none, cur := none, next := none, named := none } }

/-- The edges of the paired input in one beat. An INDETERMINATE input is labelled once SETTLED, as chapter 08's worked example labels it
(R150, R151, R162). -/
def gnssEdges (ins : List RefIn) (s0 : State) : State :=
  let s := gnssRepair s0
  let n := s.rd F.refGnssrin
  if paired s n && (s.refState n != 1 || s.is (F.refSettled n)) then
    let g := (edgeTimes s (refIn s ins n)).foldl (fun g t => gnssEdge t g) s.rf.gn
    let s1 : State := { s with rf.gn := g }
    if g.edge != s.rf.gn.edge && g.cur.isSome then s1.setRef n { s1.ref n with fresh := true } else s1
  else s

/-- What the servo's correction added to the time scale in the ended beat (R154). -/
def steerBeat (s : State) : State :=
  { s with sv.steer := s.sv.steer + rdiv ((s.rdS F.servoFword - s.rdS F.servoFmodel) * unitsPerBeat) (2 ^ 48) }

/-- The front ends of the inputs in one beat, which run from D11's turn-on, in BOOT too (R148, R152). -/
def frontBeat (ins : List RefIn) (s : State) : State := forN 4 (fun n s => bandBeat n (threshBeat ins n s)) s

/-- The 3 s without a label: they pause as the paired input's timers do (R154, R163). -/
def sinceBeat (ins : List RefIn) (s : State) : State :=
  let n := s.rd F.refGnssrin
  { s with
    rf.gn.since := if refFrozen s n || refStale s n (refIn s ins n) then s.rf.gn.since else s.rf.gn.since + 1
    rf.gn.uart := if s.qcRuns then [] else s.rf.gn.uart }

/-- The qualification of every reference at a strobe, with labels and selection; `fin` is the end of the beat. In REPLAY QC's results
are those of the record (R157). -/
def refsStrobe (ins : List RefIn) (fin : Nat) (s : State) : State :=
  if !s.live || s.mode == .replay then s
  else refSelection (sinceBeat ins (forN 10 (refBeat ins fin) (selShow (gnssEdges ins (steerBeat s)))))

/-! ## A step of the time scale (R16, R228) -/

/-- What references hold as instants of the time scale moves with a step of `d`: due times and the last edge of the paired input;
the offsets of a time reference, its time minus the time scale, fall by it. -/
def refStep (d : Int) (n : Nat) (s : State) : State :=
  let r := s.ref n
  let r1 : RefRec := { r with due := r.due.map (fun t => ((t : Int) + d).toNat) }
  s.setRef n (if timeRef s n then
      { r1 with samples := r.samples.map (· - d), held := r.held.map (· - d), samp := r.samp.map (· - d) }
    else r1)

def refsStep (d : Int) (s : State) : State :=
  forN 10 (refStep d) { s with
    rf.gn.edge := s.rf.gn.edge.map (fun t => ((t : Int) + d).toNat)
    rf.gn.last := s.rf.gn.last.map (fun p => (p.1, ((p.2 : Int) + d).toNat)) }

/-! ## Transitions (R155) -/

/-- A reference leaves FAILED: the live bit of its instance falls (R394). -/
def refLeaveFailed (n : Nat) (s : State) : State := if s.refState n = 5 then s.liveClr .refFailed n else s

/-- INDETERMINATE entered: counts at 0, SETTLED formed again unless the loop is frozen (R149 to R151). -/
def toIndeterminate (n : Nat) (s : State) : State :=
  let s1 := ((refLeaveFailed n s).toState n 1).wr (F.refRisecnt n) 0 |>.wr (F.refFallcnt n) 0
  let s2 := if s.is (F.refThrfrz n) then s1 else s1.clr (F.refSettled n)
  s2.setRef n { s2.ref n with ind := false, mids := [], side := none, dwelt := false, samples := [], held := [], due := none,
                              seenHi := false, seenLo := false }

/-- OBSERVING entered: samples start anew. -/
def toObserving (n : Nat) (s : State) : State :=
  let s1 := (refLeaveFailed n s).toState n 2
  s1.setRef n { s1.ref n with samples := [], held := [], due := none, noSample := 0 }

/-- An input's front end at D11's turn-on: 400 mV and 20 mV, unsettled and not MIDBAND, and an enabled input is INDETERMINATE from
then on (R148, R150, R152). -/
def frontStart (n : Nat) (s : State) : State :=
  let s1 := ((((s.wr (F.refThrmid n) 4496).wr (F.refThrhalf n) 20).clr (F.refSettled n)).clr (F.refMidband n)).liveClr .rinMidband n
  let s2 := s1.setRef n { s1.ref n with upTap := 840, loTap := 760, mids := [], seenHi := false, seenLo := false, bandBeats := 0 }
  if s2.is (F.refEnable n) then toIndeterminate n s2 else s2

/-- D11 RIN turning on; the turn-on that opens a wake window keeps what R201 keeps. -/
def rinTurnOn (s : State) : State :=
  forN 4 (fun n s =>
    if s.mo.win.any WakeWin.rin && 2 ≤ s.refState n && s.refState n ≤ 4 then s else frontStart n s) s

/-- D11 RIN turning off: no input is in its band any more (R152). -/
def rinTurnOff (s : State) : State :=
  forN 4 (fun n s => ((s.clr (F.refMidband n)).liveClr .rinMidband n).setRef n { s.ref n with bandBeats := 0 })
    { s with rf.gn.uart := [] }

/-- What a recalled configuration record changes: an input that it disables is DISABLED (R155). -/
def refsRecall (s : State) : State := forN 4 (fun n s => if s.is (F.refEnable n) then s else s.toState n 0) s

/-- RIN_INDETERMINATE (R150). -/
def execRinIndeterminate (n : Fin 4) (s : State) : Res :=
  when ((if s.live then refsRun s else s.powered) && (s.ref n).ind && s.refState n != 0)
    (fun s => refSelection (toIndeterminate n s)) s

/-- THRESHOLD_SETTLED (R148): the centre is still and the input has been seen beyond both thresholds. -/
def execThresholdSettled (n : Fin 4) (s : State) : Res :=
  when (s.powered && s.domOn 11 && !s.is (F.refThrfrz n) && (s.ref n).seenHi && (s.ref n).seenLo && threshStill (s.ref n))
    (fun s => s.set1 (F.refSettled n)) s

/-- RIN_TRANSITIONS_COUNTED (R151): sixteen clean transitions each way, counted since SETTLED. -/
def execRinTransitionsCounted (n : Fin 4) (s : State) : Res :=
  when (refJudged s n && s.refState n == 1 && 16 ≤ s.rd (F.refRisecnt n) && 16 ≤ s.rd (F.refFallcnt n)) (toObserving n) s

/-- RIN_MIDBAND (R152): in band for more than 2 s while D11 is on. -/
def execRinMidband (n : Fin 4) (dt : Dt) (s : State) : Res :=
  when (s.powered && s.domOn 11 && s.rd (F.refLevel n) == 2 && 2048 < (s.ref n).bandBeats)
    (fun s => (s.set1 (F.refMidband n)).liveSet .rinMidband n n 9 dt.toNat) s

/-- The counts of clean transitions after a level that held beyond the band (R151). -/
def countTransition (n : Nat) (up : Bool) (s : State) : State :=
  let r := s.ref n
  let s1 := s.setRef n { r with side := some up, dwelt := false }
  if s.refState n != 1 || !s.is (F.refSettled n) || bit s.rf.calStale n then s1
  else match r.side with
    | none => s1
    | some b =>
      if b != up then s1.inc (if up then F.refRisecnt n else F.refFallcnt n)
      else if r.dwelt then (s1.wr (F.refRisecnt n) 0).wr (F.refFallcnt n) 0
      else s1

/-- RIN_LEVEL_CHANGE (R147, R150 to R152): the level is 0 low, 1 high or 2 in band, and `hold` the time, in 2 ns, for which it
holds; what does not hold for the glitch filter time makes no transition. The 2 s in band run from the entry into it, and leaving it
ends MIDBAND. -/
def execRinLevelChange (n : Fin 4) (level : Fin 3) (hold : BitVec 16) (s : State) : Res :=
  when (s.powered && s.domOn 11) (fun s =>
    let holds := passesGlitch s n hold.toNat
    let s1 := s.wr (F.refLevel n) level
    let r := s1.ref n
    if level.val = 2 then
      s1.setRef n { r with dwelt := r.dwelt || holds, bandBeats := if s.rd (F.refLevel n) = 2 then r.bandBeats else 0 }
    else
      let s2 := ((s1.clr (F.refMidband n)).setRef n { r with
        bandBeats := 0, seenHi := r.seenHi || level.val == 1, seenLo := r.seenLo || level.val == 0 }).liveClr .rinMidband n
      if holds then countTransition n (level.val == 1) s2 else s2) s

/-- REF_ENABLE (R155). -/
def execRefEnable (n : Fin 10) (s : State) : Res :=
  when (refJudged s n && s.refState n == 0)
    (fun s => if n.val < 4 then toIndeterminate n s else toObserving n s) s

/-- REF_DISABLE (R155). -/
def execRefDisable (n : Fin 10) (s : State) : Res :=
  when (refsRun s && s.refState n != 0 && !s.is (F.refEnable n)) (fun s => refSelection ((refLeaveFailed n s).toState n 0)) s

/-- A step of the time scale is decided, applied at the next strobe (R16, R86). -/
def State.decideStep (s : State) (delta : Int) (why : StepWhy) : State := { s with tm.pend := some ⟨delta, why⟩ }

/-- REF_QUALIFY: QUALTIME seconds without violation and, for a paired input, GNSSTOD. The first time reference to qualify
while the time scale is untraceable sets it, so it needs an offset to set it by (R86, R155, DEDUCED). -/
def execRefQualify (n : Fin 10) (s : State) : Res :=
  when (refJudged s n && s.refState n == 2 && s.rd (F.refQualtime n) * 1024 ≤ (s.ref n).clean && !refAbsent s n &&
      (!(n.val < 4 && paired s n) || s.is F.dGnsstod) && (!s.untraced || !timeRef s n || hasOffset s n))
    (fun s =>
      let s1 := refSelection (s.toState n 3)
      if s.untraced && timeRef s n && s.tm.pend.isNone then s1.decideStep (refOffset s n) .setting else s1) s

/-- FAILED entered: REF_FAILED and FAILCNT (R155). -/
def toFailed (n : Nat) (s : State) : State :=
  refSelection (((s.toState n 5).inc (F.refFailcnt n)).liveSet .refFailed n n 2 0)

/-- REF_FAIL: SUSPTIME of violations while OBSERVING, or SUSPTIME beats in SUSPECT without a return (R155). -/
def execRefFail (n : Fin 10) (s : State) : Res :=
  when (refJudged s n && ((s.refState n == 2 && s.rd (F.refSusptime n) ≤ (s.ref n).violRun) ||
      (s.refState n == 4 && s.rd (F.refSusptime n) ≤ (s.ref n).susp))) (toFailed n) s

/-- REF_SUSPECT_CLEAR: SUSPCLR clean beats with no jump held; the row of REF_FAIL goes before it (R155). -/
def execRefSuspectClear (n : Fin 10) (s : State) : Res :=
  when (refJudged s n && s.refState n == 4 && !(s.ref n).jump && s.rd (F.refSuspclr n) ≤ (s.ref n).clean &&
      (s.ref n).susp < s.rd (F.refSusptime n))
    (fun s => refSelection (s.toState n 3)) s

/-- REF_FAILHOLD_END: FAILHOLD seconds without violation, with the source present (R155). -/
def execRefFailholdEnd (n : Fin 10) (s : State) : Res :=
  when (refJudged s n && s.refState n == 5 && s.rd (F.refFailhold n) * 1024 ≤ (s.ref n).clean && !refAbsent s n)
    (fun s => toObserving n (refLeaveFailed n s)) s

/-- REF_SOURCE_ABSENT: an enabled REF4 to REF9 whose source is absent fails, reason 8 (R155); a frozen one keeps its state. -/
def execRefSourceAbsent (n : Fin 10) (s : State) : Res :=
  when (refJudged s n && s.refState n != 0 && s.refState n != 5 && refAbsent s n && !refFrozen s n)
    (fun s => toFailed n (s.wr (F.refReason n) 8)) s

/-- WTR_EXPIRY: a QUALIFIED reference above the selected one has stayed QUALIFIED for WTR (R158, rule 5). -/
def execWtrExpiry (n : Fin 10) (s : State) : Res :=
  when (refsRun s && s.is F.dRevert && s.refQual n && prio s n != 0 && ranksAbove s n (s.rd F.dSelref) &&
      s.rd (F.refWtr n) * 1024 ≤ (s.ref n).qualBeats)
    (fun s => refSelection (s.setRef n { s.ref n with wtrDone := true })) s

/-! ## NMEA (R160 to R163) -/

/-- The value of a decimal digit. -/
def digit (b : Byte) : Option Nat := if 48 ≤ b.toNat ∧ b.toNat ≤ 57 then some (b.toNat - 48) else none

/-- The number that a list of digits spells; none where a byte is no digit or the list is empty. -/
def decNum : List Byte → Option Nat
  | [] => none
  | l => l.foldl (fun a b => match a, digit b with | some n, some d => some (10 * n + d) | _, _ => none) (some 0)

/-- The value of a hexadecimal digit. -/
def hexDigit (b : Byte) : Option Nat :=
  let n := b.toNat
  if 48 ≤ n ∧ n ≤ 57 then some (n - 48) else if 65 ≤ n ∧ n ≤ 70 then some (n - 55)
  else if 97 ≤ n ∧ n ≤ 102 then some (n - 87) else none

/-- A sentence split into its body and its checksum: `$` body `*` two hexadecimal digits, and the line end. -/
def nmeaSplit (l : List Byte) : Option (List Byte × Nat) :=
  match l with
  | 36 :: t =>
    let body := t.takeWhile (· != 42)
    match t.drop (body.length + 1) with
    | [a, b] => match hexDigit a, hexDigit b with | some x, some y => some (body, 16 * x + y) | _, _ => none
    | [a, b, 13, 10] => match hexDigit a, hexDigit b with | some x, some y => some (body, 16 * x + y) | _, _ => none
    | _ => none
  | _ => none

/-- The fields of a body, between commas. -/
def nmeaFields (l : List Byte) : List (List Byte) :=
  l.foldr (fun b acc => if b = 44 then [] :: acc else match acc with | f :: r => (b :: f) :: r | [] => [[b]]) [[]]

/-- Days from 1970-01-01 to a civil date (Gregorian). -/
def civilDays (y m d : Nat) : Nat :=
  let y1 := if m ≤ 2 then y - 1 else y
  let mp := (m + 9) % 12
  y1 * 365 + y1 / 4 - y1 / 100 + y1 / 400 + (153 * mp + 2) / 5 + d - 719469

/-- UTC seconds of a time of day and a date; a seconds field of 60 is a leap second (R161). -/
def utcSecs (hms : List Byte) (y m d : Nat) : Option Nat :=
  match decNum (hms.take 2), decNum ((hms.drop 2).take 2), decNum ((hms.drop 4).take 2) with
  | some h, some mi, some sc =>
    if h < 24 ∧ mi < 60 ∧ sc ≤ 60 ∧ 1 ≤ m ∧ m ≤ 12 ∧ 1 ≤ d ∧ d ≤ 31 then
      some (civilDays y m d * 86400 + h * 3600 + mi * 60 + sc) else none
  | _, _, _ => none

/-- What a sentence is: of another type, invalid, the UTC second it names, or a leap second, as the second after 23:59:59 (R161). -/
inductive Nmea where
  | other | bad
  | utc (secs : Nat)
  | leap (secs : Nat)
deriving DecidableEq, Repr

/-- The second of the fields of a ZDA or RMC sentence, where they name one. -/
def nmeaSecond (zda : Bool) (f : List (List Byte)) : Option Nat :=
  if zda then
    match decNum (f.getD 2 []), decNum (f.getD 3 []), decNum (f.getD 4 []) with
    | some d, some m, some y => utcSecs (f.getD 1 []) y m d
    | _, _, _ => none
  else if f.getD 2 [] = [65] then
    match decNum ((f.getD 9 []).take 2), decNum (((f.getD 9 []).drop 2).take 2), decNum (((f.getD 9 []).drop 4).take 2) with
    | some d, some m, some y => utcSecs (f.getD 1 []) (2000 + y) m d
    | _, _, _ => none
  else none

/-- A received sentence judged (R161). -/
def nmeaJudge (l : List Byte) : Nmea :=
  let kind := (l.drop 3).take 3
  let zda := kind == [90, 68, 65]
  if !zda && kind != [82, 77, 67] then .other
  else match nmeaSplit l with
    | none => .bad
    | some (body, sum) =>
      if 82 < l.length || body.foldl (fun a b => a ^^^ b.toNat) 0 != sum then .bad
      else match nmeaSecond zda (nmeaFields body) with
        | some u => if (((nmeaFields body).getD 1 []).drop 4).take 2 = [54, 48] then .leap u else .utc u
        | none => .bad

/-- The label of a sentence: UTC plus the UTCOFF in force at the second concerned; a leap second is converted under the offset before
LEAPAT (R162, R230, R231). -/
def nmeaLabel (s : State) (j : Nmea) : Option Nat :=
  let off := s.rdS F.timeUtcoff
  match j with
  | .utc u =>
    let t : Int := u + off
    some (if s.is F.timeLeappend && decide ((s.rd F.timeLeapat : Int) ≤ t) then
      (if s.is F.timeLeapdir then t - 1 else t + 1).toNat else t.toNat)
  | .leap u =>
    match s.tm.leapOld with
    | some (a, o) => some (if ((u : Int) + o - a).natAbs ≤ 1 then ((u : Int) + o).toNat else ((u : Int) + off).toNat)
    | none => some ((u : Int) + off).toNat
  | _ => none

/-- The violation of time of day: at the beat's check, and L1 GNSS_TOD where `fault` (R162, R163). -/
def todMismatch (n : Nat) (fault : Bool) (dt : Nat) (s : State) : State :=
  let s1 := s.setRef n { s.ref n with todViol := true }
  if fault then s1.occ .gnssTod n n 2 dt else s1

/-- The label of an edge at `t` set by a sentence: with TODEDGE set it is the next edge's, which is due a second later (R162). -/
def putLabel (n lbl t : Nat) (s : State) : State :=
  let g := s.rf.gn
  if s.is F.refTodedge then
    ({ s with rf.gn := { g with named := some lbl, since := 0, next := some lbl, last := some (lbl, t + unitsPerSec) } } : State).wr
      F.refLastlabel lbl
  else
    let s1 := ({ s with rf.gn := { g with named := some lbl, since := 0, cur := some lbl, last := some (lbl, t) } } : State).wr
      F.refLastlabel lbl
    s1.setRef n { s1.ref n with fresh := true }

/-- A label for the edge at `t`, or for the one after it (R162, R163): held against the label before it, unless 3 s have passed without
one. GNSSTOD sets where the two edges follow one another. -/
def gnssLabel (n lbl t dt : Nat) (s : State) : State :=
  let g := s.rf.gn
  let t1 := if s.is F.refTodedge then t + unitsPerSec else t
  let s1 := putLabel n lbl t s
  match g.last, labelDue g t1 with
  | some p, some l =>
    if 3072 ≤ g.since then s1
    else if l != lbl then todMismatch n true dt s1
    else if l = p.1 + 1 then s1.set1 F.dGnsstod else s1
  | _, _ => s1

/-- A valid sentence with a label, that ends at a time-scale value (R162): within 10 ms to 990 ms of the edge it labels, otherwise it is
late; a second sentence in the window that names another second is a violation. -/
def gnssSentence (n lbl t dt : Nat) (s : State) : State :=
  match s.rf.gn.edge with
  | none => s.inc F.refNmealate
  | some e =>
    if e + 655360000000 ≤ t ∧ t ≤ e + 64880640000000 then
      match s.rf.gn.named with
      | none => gnssLabel n lbl e dt s
      | some m => if m = lbl then s else todMismatch n false dt s
    else s.inc F.refNmealate

/-- NMEA_SENTENCE (R161, R162): an invalid one is counted while GNSSEN is set, a valid one labels an edge of the paired input. -/
def execNmeaSentence (text : List Byte) (dt : Dt) (s : State) : Res :=
  when (refsRun s && s.domOn 11 && s.is F.refGnssen) (fun s =>
    match nmeaJudge text with
    | .bad => s.inc F.refNmeabad
    | j => match nmeaLabel s j with
      | none => s
      | some l =>
        if paired s (s.rd F.refGnssrin) then gnssSentence (s.rd F.refGnssrin) l (s.at dt.toNat) dt.toNat (gnssRepair s) else s) s

/-- GNSS_TOD_TIMEOUT: 3 s without a label (R163). -/
def execGnssTodTimeout (s : State) : Res :=
  when (refsRun s && s.is F.dGnsstod && 3072 ≤ s.rf.gn.since) (fun s => s.clr F.dGnsstod) s

/-- UART_OVERFLOW: bytes arrive; those beyond the 256 of the buffer are discarded and counted (R160). -/
def execUartOverflow (bytes : List Byte) (s : State) : Res :=
  when (s.powered && s.domOn 11) (fun s =>
    let all := s.rf.gn.uart ++ bytes
    ({ s with rf.gn.uart := all.take 256 } : State).incBy F.refUartovf (all.length - 256)) s

/-- The bytes of GNSSTX, high byte first, as many as GNSSTXLEN says (R164, R166). -/
def gnssTxBytes (s : State) : List Byte :=
  ((List.range 32).flatMap (fun i => bytesBE 2 (s.rd (F.refGnsstx i)))).take (min 64 (s.rd F.refGnsstxlen))

/-- GNSS_TXD is driven: D11 and the carrier's supply are there and GNSSEN is set (R49, R52, R164). -/
def gnssTxOn (s : State) : Bool := s.live && s.domOn 11 && !s.pw.auxLow && s.is F.refGnssen

/-- The level of GNSS_TXD between bytes: none where it is high impedance, and it idles high (R49, R164). -/
def gnssTxIdle (s : State) : Option Bool := if gnssTxOn s then some true else none

/-- GNSS_TX: the bytes of GNSSTX go out once (R164); on a released pin nothing is sent (R52). -/
def execGnssTx (s : State) : Res :=
  when (gnssTxOn s && s.rf.gn.txGo)
    (fun s => { s with rf.gn.txd := gnssTxBytes s, rf.gn.txGo := false }) s

end Sys2Proof.Machine
end

