-- ==== Sys2Proof/Machine/Model.lean ====
section
/-! DEFINITION. The resonator, the learned model, the holdover estimate and DORMANT wake windows (R186 to R205). -/
namespace Sys2Proof.Machine

/-! ## binary64 (R188) -/

/-- The value of a binary64 word in 2⁻¹⁶⁰; what lies below is dropped. -/
def f64Fix (w : Nat) : Int :=
  let e := bits w 52 11
  let m := bits w 0 52 + (if e = 0 then 0 else 2 ^ 52)
  let sh : Int := (max e 1 : Nat) - 1075 + 160
  let n := if 0 ≤ sh then m * 2 ^ sh.toNat else m / 2 ^ (-sh).toNat
  if bit w 63 then -(n : Int) else n

/-- `n / 2^k` to the nearest, halves to even. -/
def rne (n k : Nat) : Nat :=
  let q := n / 2 ^ k
  let r := 2 * (n % 2 ^ k)
  if r < 2 ^ k ∨ (r = 2 ^ k ∧ q % 2 = 0) then q else q + 1

/-- The binary64 word nearest to `i` × 2⁻¹⁶⁰, halves to even. -/
def fixF64 (i : Int) : Nat :=
  let n := i.natAbs
  let l := n.log2 + 1
  let m := if l ≤ 53 then n * 2 ^ (53 - l) else rne n (l - 53)
  if n = 0 then 0 else m - 2 ^ 52 + (l + 862) * 2 ^ 52 + (if i < 0 then 2 ^ 63 else 0)

/-- A coefficient raised by a value in 2⁻¹⁶⁰. -/
def addF64 (f : Fld) (d : Int) (s : State) : State := s.wr f (fixF64 (f64Fix (s.rd f) + d))

/-! ## Logarithm and exponential (R188; log 10) -/

/-- Σ z^(2i+1) / (2i+1) from term `i` on, `n` terms, in 2⁻⁹⁶: `z2` is z², `p` the power of z reached. -/
def atanhSum (z2 : Nat) : Nat → Nat → Nat → Nat
  | 0, _, _ => 0
  | n + 1, i, p => p / (2 * i + 1) + atanhSum z2 n (i + 1) (p * z2 / 2 ^ 96)

/-- ln(n / d) in 2⁻⁹⁶ for n from d to 2 d, as 2 atanh((n − d) / (n + d)). -/
def lnRatio (n d : Nat) : Nat :=
  let z := (n - d) * 2 ^ 96 / (n + d)
  2 * atanhSum (z * z / 2 ^ 96) 40 0 z

/-- ln 2 in 2⁻⁹⁶. -/
def ln2 : Nat := lnRatio 2 1

/-- ln(1 + t / 86,400) in 2⁻⁶⁴. -/
def lnDays (t : Nat) : Int :=
  let k := ((86400 + t) / 86400).log2
  ((k * ln2 + lnRatio (86400 + t) (86400 * 2 ^ k)) / 2 ^ 32 : Nat)

/-- Σ (−r)^i / i! from term `i` on, `n` terms, in 2⁻⁹⁶: `p` the term reached. -/
def expSum (r : Nat) : Nat → Nat → Int → Int
  | 0, _, _ => 0
  | n + 1, i, p => p + expSum r n (i + 1) (-(p * r) / (2 ^ 96 * (i + 1)))

/-- e^(−t / c) in 2⁻⁶⁴: 2^−k × e^−r with t / c = k ln 2 + r. -/
def expNeg (t c : Nat) : Int :=
  let x := t * 2 ^ 96 / c
  expSum (x % ln2) 30 0 (2 ^ 96) / 2 ^ (32 + min (x / ln2) 200)

/-! ## Prediction (R188 to R190) -/

/-- The retrace term in 2⁻²⁸⁸. -/
def retraceTerm (s : State) : Int :=
  let off := s.rd F.sysOfftime
  let x : Int := if off = 4294967295 then 2 ^ 64 else 2 ^ 64 - expNeg off 86400
  f64Fix (s.rd F.servoRetk) * x * expNeg (s.rd F.servoPuage) 21600

/-- fmodel, in 2⁻⁴⁸ (R188): a polynomial in the temperature, the ageing and the retrace. -/
def modelPredict (s : State) : Int :=
  let dt := s.mo.temp - 1638400
  let poly := sumInt ((List.range 6).map (fun k => f64Fix (s.rd (F.servoA k)) * dt ^ k * 2 ^ (128 - 16 * k)))
  let age := f64Fix (s.rd F.servoAgea) * lnDays (s.rd F.servoAget) * 2 ^ 64
  let lin := rdiv (f64Fix (s.rd F.servoAgeb) * s.rd F.servoAget * 2 ^ 128) 86400
  rdiv (poly + age + lin + retraceTerm s) (2 ^ 240)

/-- RETNOW, and RETRACE from the term before it is rounded (R190). -/
def retraceShow (s : State) : State :=
  let r := retraceTerm s
  (s.wrSat F.servoRetnow (rdiv r (2 ^ 240))).wrB F.dRetrace (2 ^ 288 ≤ r.natAbs * 1000000000000)

/-! ## The model's registers (R194, R196, R205) -/

/-- The fields of the model record (R196, the "Recalled" rows of R205 and MQ). -/
def modelFlds : List Fld :=
  [F.servoA 0, F.servoA 1, F.servoA 2, F.servoA 3, F.servoA 4, F.servoA 5, F.servoAgea, F.servoAgeb, F.servoRetk,
   F.servoAget, F.servoAgesig, F.servoTaufit, F.servoLearns, F.servoTscore, F.servoRscore, F.servoResid, F.dMq]

/-- The fields as a map, and a map written back. -/
def grabFlds (l : List Fld) (s : State) : SMap Nat := l.foldl (fun m f => m.set f.key (s.rd f)) []
def putFlds (l : List Fld) (m : SMap Nat) (s : State) : State := l.foldl (fun s f => s.wr f (m.getD f.key f.rst)) s

/-- The ceiling of RESID: the least value with RSCORE 0, 255 × 2 × 10⁻¹³ (R194, R197). -/
def residCeil : Nat := 14356

/-- The factory prior: A0 to A5, AGEA, AGEB, RETK (R188, R194). -/
def putPrior (s : State) : State :=
  [F.servoA 0, F.servoA 1, F.servoA 2, F.servoA 3, F.servoA 4, F.servoA 5, F.servoAgea, F.servoAgeb, F.servoRetk].zipIdx.foldl
    (fun s p => s.wr p.1 (Config.facModel p.2).toNat) s

/-- TSCORE and RSCORE (R197). -/
def tscore (s : State) : Nat := min 255 (s.rd F.servoLearns / 1350)
def rscore (s : State) : Nat := 255 - min 255 (s.rd F.servoResid * 5000000000000 / 2 ^ 48)

/-- MQ taken, with READY at 192 and below 184, and CHG where READY changes (R132, R197). -/
def putMq (mq : Nat) (s : State) : State :=
  let rdy := if 192 ≤ mq then true else if mq < 184 then false else s.is F.dReady
  let s1 := if rdy != s.is F.dReady then s.set1 F.dHoldChg else s
  (s1.wr F.dMq mq).wrB F.dReady rdy

/-- The condition of THERMO_LOST holds (R187). -/
def thermoLive (s : State) : Bool := s.mo.lost || bit (s.frec .thermoLost).live 0

/-- MQ of R197, at most 63 while THERMO_LOST is live. -/
def mqNow (s : State) : Nat := min (if thermoLive s then 63 else 255) (min (tscore s) (rscore s))

/-- The scores and MQ formed (R197). -/
def mqForm (s : State) : State :=
  let s1 := (s.wr F.servoTscore (tscore s)).wr F.servoRscore (rscore s)
  putMq (mqNow s1) s1

/-- LEARN_RESET at its strobe (R194): AGET is not changed. -/
def learnReset (s : State) : State :=
  let s1 := (((putPrior s).wr F.servoLearns 0).wr F.servoTaufit 21600).wr F.servoResid residCeil
  retraceShow (mqForm { s1 with mo.resid := [], mo.corr := [], mo.runHigh := 0, mo.runLong := 0, mo.innSq := [], mo.fit := none })

/-- BIAS_CAPTURE: a0 takes the mean fcorr of the last fitted seconds, 64 at most; what they keep is their fcorr against the new a0, so
that nothing is added twice (R193; log 95). -/
def biasCapture (s : State) : State :=
  match s.mo.corr with
  | [] => s
  | l =>
    let m := rdiv (sumInt l) l.length
    { addF64 (F.servoA 0) (rdiv (sumInt l * 2 ^ 112) l.length) s with mo.corr := l.map (· - m) }

/-- REF11 in QUALB (R198). -/
def summary11 (s : State) : Nat :=
  if s.is F.dReady then 3
  else if thermoLive s || (s.mode == .holdover && s.rd F.servoHlimit < s.rd F.servoHest) then 2
  else if s.rd F.servoLearns != 0 then 1 else 0

/-! ## The strobe -/

/-- The reading of a beat: RTEMP and RTEMPF; a lost one, or a move of more than 0.5 K, makes THERMO_LOST due, and a good
one ends it (R186, R187). Readings count from 50 ms after D1 turns on. -/
def tempBeat (t : Option (BitVec 24)) (s : State) : State :=
  let s0 : State := { s with mo.oscBeats := if s.domOn 1 then s.mo.oscBeats + 1 else 0 }
  if s0.mo.oscBeats < 52 then s0
  else match t with
  | none => { s0 with mo.lost := true, mo.prev := none, mo.fit := none }
  | some w =>
    let v := w.toInt
    let jumped := match s.mo.prev with | some p => decide (32768 < (v - p).natAbs) | none => false
    let s1 := (s0.wr F.servoRtemp (w.toNat / 256)).wr F.servoRtempf (w.toNat % 256)
    if jumped then { s1 with mo.lost := true, mo.prev := some v, mo.fit := none }
    else ({ s1 with mo.lost := false, mo.prev := some v, mo.temp := v } : State).liveClr .thermoLost 0

/-- HOLDOVER, or DORMANT outside a wake window (R199). -/
def holding (s : State) : Bool := s.mode == .holdover || (s.mode == .dormant && !s.is F.dWake)

/-- HEST in ns (R199): e0 + 2 × (resid × t + 0.5 × agesig × t²). -/
def holdEst (s : State) : Nat :=
  let t := s.rd F.servoHoldt
  let a : Int := (s.mo.e0 : Int) * 2 ^ 144
  let b : Int := 2 * (s.rd F.servoResid * t * 1000000000 : Nat) * 2 ^ 112
  let c := f64Fix (s.rd F.servoAgesig) * (t * t : Nat) * 1000000000
  satNat 32 (rdiv (a + b + c) (2 ^ 160))

/-- The servo's err over the last 64 s of LOCKED, twice its rms (R199). -/
def errE0 (l : List (Nat × Nat)) : Nat :=
  let n := l.foldl (fun a p => a + p.2) 0
  if n = 0 then 0 else 2 * rsqrtQ (l.foldl (fun a p => a + p.1) 0) n

/-- Entry into HOLDOVER or into a gap of DORMANT: HOLDT restarts and e0 is taken, the second in progress with it (R199; log 96). -/
def holdEntry (s : State) : State :=
  let s1 : State := { s with mo.e0 := errE0 (((s.mo.errSq, s.mo.errN) :: s.mo.errs).take 64), mo.holdTick := 0 }
  let s2 := s1.wr F.servoHoldt 0
  s2.wr F.servoHest (holdEst s2)

/-- A powered second has passed: AGET, PUAGE, and the 3,600 s of the model copy (R189, R196). -/
def poweredSecond (s : State) : State :=
  let s1 := (s.inc F.servoAget).inc F.servoPuage
  retraceShow { s1 with mo.copySecs := s1.mo.copySecs + (if s.mode == .replay then 0 else 1) }

/-- A beat of powered operation, whether the engines run it or not. -/
def poweredBeat (s : State) : State :=
  let s1 : State := { s with mo.tick := if s.mo.tick = 1023 then 0 else s.mo.tick + 1 }
  if s.mo.tick = 1023 then poweredSecond s1 else s1

/-- A beat of holdover: HOLDT counts the seconds since entry, and HEST follows (R199). -/
def holdBeat (s : State) : State :=
  if !holding s then s
  else if s.mo.holdTick < 1023 then { s with mo.holdTick := s.mo.holdTick + 1 }
  else
    let s1 := ({ s with mo.holdTick := 0 } : State).inc F.servoHoldt
    s1.wr F.servoHest (holdEst s1)

/-- A second of the time scale has ended: the fitted second is handed to the fit, and MQ is due (R191, R197). -/
def secondEnd (s : State) : State :=
  let fitted := s.mo.good && s.mo.beats == 1024 && !thermoLive s
  let s1 : State := { s with
    mo.mqDue := true
    mo.fit := if fitted then some (s.mo.sumModel, s.mo.sumCorr) else s.mo.fit
    mo.runHigh := if fitted then s.mo.runHigh else 0
    mo.runLong := if fitted then s.mo.runLong else 0
    mo.innSq := if fitted then s.mo.innSq else []
    mo.errs := if s.mo.errN = 0 then s.mo.errs else ((s.mo.errSq, s.mo.errN) :: s.mo.errs).take 64
    mo.beats := 0, mo.good := true, mo.sumModel := 0, mo.sumCorr := 0, mo.errSq := 0, mo.errN := 0 }
  s1.wrB F.dLearning fitted

/-- The beat's share of the second in progress, after the servo (R191, R199). -/
def fitBeat (s : State) : State :=
  let locked := s.rd F.dServoState == 2
  let e := (s.rdS F.servoErr).natAbs
  { s with
    mo.beats := s.mo.beats + 1
    mo.good := s.mo.good && locked && !s.is F.dServoStale && !s.is F.servoLearnstop
    mo.sumModel := s.mo.sumModel + s.rdS F.servoFmodel
    mo.sumCorr := s.mo.sumCorr + s.rdS F.servoFcorr
    mo.errSq := if locked && s.sv.updated then s.mo.errSq + e * e else s.mo.errSq
    mo.errN := if locked && s.sv.updated then s.mo.errN + 1 else s.mo.errN }

/-- The window in progress advances, with the good samples it has given (R202). -/
def wakeBeat (s : State) : State :=
  match s.mo.win with
  | none => s
  | some w =>
    let older := s.mo.goodErr.map (fun p => (p.1 + 1, p.2))
    { s with
      mo.win := some { w with elapsed := w.elapsed + 1 }
      mo.goodErr := if s.sv.updated && s.rd F.dSelref < 10 then (0, s.rd F.dSelref, s.rdS F.servoErr) :: older else older }

/-- The model at a strobe, after the servo: `secStart` says that the strobe begins a second of the time scale. In REPLAY the fit works on
what was recorded (R195), and only the powered time counts here. -/
def modelStrobe (secStart : Bool) (s : State) : State :=
  if s.mode == .replay then poweredBeat s
  else
    let s1 := wakeBeat (fitBeat s)
    let s2 := holdBeat (poweredBeat (if secStart then secondEnd s1 else s1))
    if holding s2 && s2.rd F.servoHlimit < s2.rd F.servoHest then s2 else s2.liveClr .holdBound 0

/-! ## Faults of the resonator (R187) -/

/-- THERMO_LOST: the reading is lost or has jumped. -/
def execThermoLost (dt : Dt) (s : State) : Res :=
  when (s.powered && s.mo.lost) (fun s =>
    let s1 := s.liveSet .thermoLost 0 0 9 dt.toNat
    putMq (min 63 (s1.rd F.dMq)) s1) s

/-- OSC_FAIL: the C-mode is lost; L3. -/
def execOscFail (dt : Dt) (s : State) : Res :=
  when (s.powered && s.domOn 1) (fun s => s.liveSet .oscFail 0 0 9 dt.toNat) s

/-- C_MODE_RETURN: the C-mode is back, so the live bit falls. -/
def execCModeReturn (s : State) : Res := when s.powered (fun s => s.liveClr .oscFail 0) s

/-! ## Fitting (R191, R192) -/

/-- RETK is fitted only while tp is below 86,400 s and OFFTIME was at least 3,600 s (R191). -/
def retkFits (s : State) : Bool := s.rd F.servoPuage < 86400 && 3600 ≤ s.rd F.sysOfftime

/-- The residual of a fitted second joins the last 24 h, and RESID is their rms (R197). AGET dates them. -/
def residPush (r : Int) (s : State) : State :=
  let l := (s.rd F.servoAget, r) :: s.mo.resid.filter (fun p => s.rd F.servoAget < p.1 + 86400)
  ({ s with mo.resid := l } : State).wr F.servoResid
    (satUns 48 (rsqrtQ (sumInt (l.map (fun p => p.2 * p.2))).toNat l.length))

/-- INNOV of a fitted second: target minus prediction over RESID, in 1/256; over a RESID of 0 the spec states none. -/
def innovOf (r : Int) (s : State) : Int :=
  if s.rd F.servoResid = 0 then sgn 16 s.freeVal else satSgn 16 (rdiv (256 * r) (s.rd F.servoResid))

/-- One coefficient's part of the recursive least-squares step: it moves by its gain times the target less the prediction `r`. The gain
comes from the covariance, which the spec does not give (log 11). -/
def fitStep (r : Int) (s : State) (p : Fld × Nat) : State :=
  addF64 p.1 (Config.fitGain (s.rd F.servoTaufit) p.2 s.freeCount * r * 2 ^ 80) s

/-- The coefficients after a fitted second, and AGESIG (R191). -/
def fitCoeffs (r : Int) (s : State) : State :=
  let l := [F.servoA 0, F.servoA 1, F.servoA 2, F.servoA 3, F.servoA 4, F.servoA 5, F.servoAgea, F.servoAgeb]
  let s1 := ((l ++ if retkFits s then [F.servoRetk] else []).zipIdx).foldl (fitStep r) s
  (s1.wr F.servoAgesig (Config.ageSig (s.rd F.servoTaufit) s.freeCount).toNat).used

/-- MODEL_FIT_UPDATE (R191): the target is the second's mean of fmodel and fcorr, so it differs from the prediction by the mean fcorr.
LEARNS, INNOV, RESID, the fcorr history and the runs of the gain loop follow R191 to R197. -/
def modelFit (p : Int × Int) (s : State) : State :=
  let r := rdiv p.2 1024
  let inn := innovOf r s
  let high := decide (768 < inn.natAbs)
  let s1 := residPush r (((fitCoeffs r s.used).inc F.servoLearns).wrS F.servoInnov inn)
  retraceShow { s1 with
    mo.fit := none
    mo.corr := (r :: s.mo.corr).take 64
    mo.runHigh := if high then s.mo.runHigh + 1 else 0
    mo.runLong := if high && s.rd F.servoTaufit == 21600 then s.mo.runLong + 1 else 0
    mo.innSq := (inn.natAbs * inn.natAbs :: s.mo.innSq).take 3600 }

/-- The fitted second that waits is fitted, where there is one. -/
def fitPending (s : State) : State := s.mo.fit.elim s (fun p => modelFit p s)

/-- The fit runs: not in PROVISION or SAFE, not while THERMO_LOST holds, and not in REPLAY but on recorded results (R81, R187, R195). -/
def fitRuns (s : State) : Bool := s.powered && s.scRuns && s.mode.runs && !thermoLive s

/-- MODEL_FIT_UPDATE. -/
def execModelFitUpdate (s : State) : Res := when (s.mo.fit.isSome && fitRuns s) fitPending s

/-- TAUFIT after a run of ten, or after 3,600 seconds of small innovations (R192); 2^(1/8) is 1.0905077326652577. -/
def tauNext (s : State) : Nat :=
  if 10 ≤ s.mo.runHigh then max 21600 (s.rd F.servoTaufit / 2)
  else min 2592000 (rdiv (s.rd F.servoTaufit * 10905077326652577 : Nat) 10000000000000000).toNat

/-- The last 3,600 innovations, in 1/256, have an rms of at most 1.2 (R192). -/
def tauGrows (s : State) : Bool :=
  s.mo.innSq.length == 3600 && s.mo.innSq.foldl (· + ·) 0 * 100 ≤ 144 * 3600 * 65536

/-- TAUFIT_ADJUST (R192); FITFRZ holds it. -/
def execTaufitAdjust (s : State) : Res :=
  when (s.powered && !s.is F.servoFitfrz && (10 ≤ s.mo.runHigh || tauGrows s))
    (fun s => { s.wr F.servoTaufit (tauNext s) with mo.runHigh := 0, mo.innSq := [] }) s

/-- MODEL_DIVERGE (R192). -/
def execModelDiverge (s : State) : Res :=
  when (s.powered && 600 ≤ s.mo.runLong) (fun s => { s.occ .modelDiverge 0 0 1 0 with mo.runLong := 0 }) s

/-- MQ_UPDATE: once a second (R197). -/
def execMqUpdate (s : State) : Res :=
  when (s.powered && s.mo.mqDue) (fun s => mqForm { s with mo.mqDue := false }) s

/-- The keys under which the model record keeps the residuals of the last 24 h, by AGET (log 106). -/
def residKey : Nat := 2 ^ 50

/-- The model record as the registers have it, with the residuals of the last 24 h (R196, R197). -/
def modelRec (s : State) : Rec :=
  { vals := s.mo.resid.foldl (fun m p => m.set (residKey + p.1) (uns 64 p.2)) (grabFlds modelFlds s) }

/-- The residuals that a model record keeps, newest first. -/
def recResid (r : Rec) : List (Nat × Int) :=
  ((r.vals.filter (fun p => residKey ≤ p.1)).map (fun p => (p.1 - residKey, sgn 64 p.2))).reverse

/-- The model record into the shadow SRAM (R196). -/
def copyModel (s : State) : State := engineWrite (.model (modelRec s)) { s with mo.copySecs := 0 }

/-- MODEL_COPY: every 3,600 s (R196). -/
def execModelCopy (s : State) : Res := when (s.powered && s.scRuns && s.mode != .replay && 3600 ≤ s.mo.copySecs) copyModel s

/-- HOLD_BOUND: HEST exceeds HLIMIT (R199). -/
def execHoldBound (s : State) : Res :=
  when (s.powered && holding s && s.rd F.servoHlimit < s.rd F.servoHest) (fun s => s.liveSet .holdBound 0 0 1 0) s

/-! ## Wake windows (R200 to R204) -/

/-- The first second from `t` on at which a window starts. -/
def wakeFrom (s : State) (t : Nat) : Nat :=
  let p := s.rd F.servoWper
  t + (s.rd F.servoWoff % p + p - t % p) % p

/-- The next window start is fixed, after second `t`. -/
def planWake (t : Nat) (s : State) : State :=
  ({ s with mo.nextWake := wakeFrom s (t + 1) } : State).wr F.servoNextwake (wakeFrom s (t + 1))

/-- Entry into DORMANT: the first window is planned, EMPTYWIN restarts and the gap's holdover begins. -/
def dormantEntry (s : State) : State :=
  holdEntry ({ planWake s.sec (s.wr F.servoEmptywin 0) with md.refQualAtWake := s.refQual (s.rd F.dSelref) })

/-- The unit leaves DORMANT at this strobe: an exit, a request that DORMANT grants, or an L3 fault (R76, R77). -/
def exitDue (s : State) : Bool := s.md.exit.isSome || s.flt.l3.isSome || s.md.req.any [1, 2, 3, 7].contains

/-- A window is due: its second has come, or an accepted step has carried the time scale past it (R200); an exit governs (R204). -/
def wakeDue (s : State) : Bool :=
  s.live && s.mode == .dormant && s.mo.win.isNone && !exitDue s && s.mo.nextWake ≤ s.sec

/-- A window opens with the settings it keeps, and the next is planned. -/
def wakeOpen (s : State) : State :=
  let s1 := planWake s.sec ((s.set1 F.dWake).fire 34)
  { s1 with
    mo.win := some ⟨0, s.rd F.servoWlen * 1024, s.rd F.servoWmeas * 1024, s.rd F.servoWakeset, s.rd F.servoWper, true⟩, mo.goodErr := [] }

/-- The window ends without its actions (R202, R204). -/
def wakeClose (s : State) : State := { s.clr F.dWake with mo.win := none, mo.goodErr := [] }

/-- The window is cut short, without its actions: the gap of DORMANT goes on (R202). -/
def wakeCut (s : State) : State :=
  if s.mo.win.isNone then s
  else { holdEntry (wakeClose s) with md.refQualAtWake := s.refQual (s.rd F.dSelref) }

/-- The good samples of SELREF in the measurement part. -/
def goodOf (s : State) (w : WakeWin) : List Int :=
  (s.mo.goodErr.filter (fun p => p.1 < w.wmeas && p.2.1 == s.rd F.dSelref)).map (·.2.2)

/-- a0 and SLEWREM take the mean error of a window (R202): a0 += DKF/256 × delta / WPER, worked off at SLEWLIM. -/
def wakeDelta (w : WakeWin) (delta : Int) (s : State) : State :=
  let s1 := addF64 (F.servoA 0) (rdiv (delta * s.rd F.servoDkf * 2 ^ 136) (1000000000 * w.wper)) s
  let s2 := s1.wrSat F.servoSlewrem (s1.rdS F.servoSlewrem + delta)
  ({ (s2.wr F.servoEmptywin 0).wrSat F.servoLastdelta (rdiv delta 65536) with sv.jslew := false } : State).set1 F.dSlewing

/-- The end-of-window actions (R202); a fitted second that waits is fitted before the bias capture (R204). -/
def wakeActions (w : WakeWin) (s : State) : State :=
  let l := goodOf s w
  let sel := s.rd F.dSelref
  let s1 :=
    if s.refQual sel && 8 ≤ l.length then wakeDelta w (rdiv (sumInt l) l.length) s
    else if s.bitOf F.servoJrefmask sel || !(List.range 10).any s.refQual then
      (s.wr F.servoEmptywin (satUns 2 (s.rd F.servoEmptywin + 1))).wr F.servoLastdelta 0
    else s.wr F.servoLastdelta 0
  biasCapture (if fitRuns s1 then fitPending s1 else s1)

/-- The end of a window (R202): a second empty one makes the unit leave DORMANT (R77). -/
def wakeEnd (w : WakeWin) (s : State) : State :=
  let q := s.refQual (s.rd F.dSelref)
  let s1 := holdEntry (wakeClose ((((wakeActions w s).inc F.servoWincnt).fire 35)))
  { s1 with md.refQualAtWake := q, md.exit := if 2 ≤ s1.rd F.servoEmptywin then some .empty else s1.md.exit }

end Sys2Proof.Machine
end

