-- ==== Sys2Proof/Machine/Ports.lean ====
section
/-! DEFINITION. The ports and the bridge: transceivers, links, the spur, the address table, queues and VLANs (R245 to R266,
R328). -/
namespace Sys2Proof.Machine

/-! ## Records -/

/-- The record of a port. -/
def State.port (s : State) (n : Nat) : Port := s.po.ports.getD n {}
def State.setPort (s : State) (n : Nat) (p : Port) : State := { s with po.ports := s.po.ports.set n p }

/-- The domain of a port: D7 EAST, D8 WEST, D9 SPUR, D10 LOCAL. -/
def portDom (n : Nat) : Nat := n + 7

/-- The port is out of service at L2 (R247, R263). -/
def portIsol (s : State) (n : Nat) : Bool := s.portOut n

/-- The port may bring its link up: enabled, powered, in service and, on P0 and P1, with a supported transceiver. -/
def portReady (s : State) (n : Nat) : Bool :=
  s.is (F.portPen n) && s.domOn (portDom n) && !portIsol s n && (2 ≤ n || s.is (F.portSfpok n))

/-- The supply of a transceiver: on while its domain is on and one is present (R47). -/
def sfpSupplied (s : State) (n : Nat) : Bool := s.domOn (portDom n) && s.is (F.portSfppres n)

/-- TX_DISABLE of an SFP port: asserted through BOOT and until the port is enabled with a supported transceiver (R47, R87, R247, R261). -/
def txDisable (s : State) (n : Nat) : Bool := !(s.live && sfpSupplied s n && portReady s n)

/-- A bit of PIRQSTAT set (R265). -/
def pirq (n i : Nat) (s : State) : State := s.wrBit (F.portPirqstat n) i true

/-! ## Transceivers (R247, R248) -/

/-- A byte of a page. -/
def pg (l : List Byte) (i : Nat) : Nat := (l.getD i 0).toNat

/-- The layer of a transceiver: by PMODE, or by the nominal rate of byte 12; 0 where it is unsupported (R247). -/
def sfpLayer (pmode : Nat) (a0 : List Byte) : Nat :=
  if pg a0 0 != 3 then 0
  else match pmode with
    | 1 => 1
    | 2 => 2
    | _ => if 12 ≤ pg a0 12 ∧ pg a0 12 ≤ 14 then 1 else if pg a0 12 = 1 ∨ pg a0 12 = 2 then 2 else 0

/-- "GAUNE BASPEN" and the part numbers of R248, padded with spaces to the 16 bytes of their fields. -/
def padded (l : List Nat) : List Byte := (l ++ List.replicate (16 - l.length) 32).map (BitVec.ofNat 8)
def sfpVendor : List Byte := padded [71, 65, 85, 78, 69, 32, 66, 65, 83, 80, 69, 78]
def partLx10 : List Byte := padded [76, 84, 88, 45, 49, 71, 45, 76, 88, 49, 48]
def partBxD : List Byte := padded [76, 84, 88, 45, 49, 71, 45, 66, 88, 50, 48, 45, 68]
def partBxU : List Byte := padded [76, 84, 88, 45, 49, 71, 45, 66, 88, 50, 48, 45, 85]
def partFx : List Byte := padded [76, 84, 88, 45, 49, 48, 48, 70, 88, 45, 50, 75]

/-- TXLAT and RXLAT of a recognised transceiver, in 0.1 ns (R248). -/
def sfpLat (a0 : List Byte) : Option (Nat × Nat) :=
  let part := (a0.drop 40).take 16
  if (a0.drop 20).take 16 != sfpVendor then none
  else if part = partLx10 then some (18, 24)
  else if part = partBxD ∨ part = partBxU then some (19, 26)
  else if part = partFx then some (42, 68)
  else none

/-! ## Diagnostics (R249) -/

/-- A 16-bit word of page A2h. -/
def pw16 (l : List Byte) (i : Nat) : Nat := pg l i * 256 + pg l (i + 1)

/-- A binary32 value of page A2h in 2⁻¹⁶⁰. -/
def f32Fix (l : List Byte) (i : Nat) : Int :=
  let w := pw16 l i * 65536 + pw16 l (i + 2)
  let e := bits w 23 8
  let m := bits w 0 23 + (if e = 0 then 0 else 2 ^ 23)
  let sh : Int := (max e 1 : Nat) - 150 + 160
  let n := if 0 ≤ sh then m * 2 ^ sh.toNat else m / 2 ^ (-sh).toNat
  if bit w 31 then -(n : Int) else n

/-- A value by a slope in 1/256 and an offset (SFF-8472, external calibration; log 13). -/
def extLin (a2 : List Byte) (at_ : Nat) (v : Int) : Int := rdiv (pw16 a2 at_ * v) 256 + sgn 16 (pw16 a2 (at_ + 2))

/-- The received power by its polynomial of five binary32 coefficients, the highest power first. -/
def extRx (a2 : List Byte) (v : Int) : Int :=
  rdiv (sumInt ((List.range 5).map (fun k => f32Fix a2 (56 + 4 * k) * v ^ (4 - k)))) (2 ^ 160)

/-- The five readings of A2h bytes 96 to 105, calibrated where byte 92 asks for external calibration (R249). -/
def diagVals (a0 a2 : List Byte) : List Int :=
  let t := sgn 16 (pw16 a2 96)
  let raw : List Int := [t, pw16 a2 98, pw16 a2 100, pw16 a2 102, pw16 a2 104]
  if bit (pg a0 92) 4 then
    [extLin a2 84 t, extLin a2 88 (pw16 a2 98), extLin a2 76 (pw16 a2 100), extLin a2 80 (pw16 a2 102), extRx a2 (pw16 a2 104)]
  else raw

/-- Byte 92 reports diagnostic monitoring. -/
def hasDiag (a0 : List Byte) : Bool := bit (pg a0 92) 6

/-- The readings, alarms and warnings of a diagnostics read, with SFP_ALARM (R249). -/
def diagRead (n : Nat) (a2 : List Byte) (dt : Nat) (s : State) : State :=
  let v := diagVals (s.port n).a0 a2
  let s1 := ((((s.wr (F.portDtemp n) (uns 16 (satSgn 16 (v.getD 0 0)))).wr (F.portDvcc n) (satNat 16 (v.getD 1 0))).wr
    (F.portDbias n) (satNat 16 (v.getD 2 0))).wr (F.portDtxpwr n) (satNat 16 (v.getD 3 0))).wr (F.portDrxpwr n) (satNat 16 (v.getD 4 0))
  let s2 := (s1.wr (F.portDalarm n) (pw16 a2 112)).wr (F.portDwarn n) (pw16 a2 116)
  if pw16 a2 112 = 0 then s2.liveClr .sfpAlarm n else pirq n 2 (s2.liveSet .sfpAlarm n n 9 dt)

/-- A periodic read may run now: in DORMANT with DIAGDORM only before the measurement part of a window (R249). -/
def diagMode (s : State) (n : Nat) : Bool :=
  !(s.mode == .dormant && s.is (F.portDiagdorm n)) ||
  match s.mo.win with | some w => decide (w.elapsed < w.wlen - w.wmeas) | none => false

/-- DIAGPER has run out since the last read. -/
def diagDue (s : State) (n : Nat) : Bool :=
  let per := s.rd (F.portDiagper n)
  per != 0 && diagMode s n && match (s.port n).diagAt with | some b => decide (b + 1024 * per ≤ s.beatcnt) | none => true

/-- SFP_DIAG_READ: DIAGPER has run out or DIAGNOW was written; P0 and P1 are never read in one beat, and while the link is
up timestamping stalls for the beat (R249). -/
def execSfpDiagRead (n : Fin 2) (a2 : List Byte) (dt : Dt) (s : State) : Res :=
  when (s.live && s.domOn (portDom n) && s.is (F.portSfppres n) && hasDiag (s.port n).a0 &&
      s.po.diagBeat != some s.beatcnt && ((s.port n).diagNow || diagDue s n))
    (fun s =>
      let up := s.is (F.portLink n)
      let s1 := diagRead n a2 dt.toNat s
      let s2 := if up then s1.inc (F.portTsstall n) else s1
      let s3 : State := { s2 with po.diagBeat := some s.beatcnt }
      s3.setPort n { s3.port n with diagNow := false, diagAt := some s.beatcnt, stalled := up }) s

/-- DIAGNOW asks for one read; while a read runs it is ignored (R262). -/
def diagNow (n : Nat) (s : State) : State :=
  if s.po.diagBeat = some s.beatcnt ∧ (s.port n).diagAt = some s.beatcnt then s
  else s.setPort n { s.port n with diagNow := true }

/-- DIAGNOW. -/
def execDiagnow (n : Fin 2) (s : State) : Res := when s.live (diagNow n) s

/-! ## The address table (R255) -/

/-- ATCOUNT follows the table. -/
def putAddrs (l : List Addr) (s : State) : State := ({ s with po.addrs := l } : State).wr F.portAtcount l.length

/-- The addresses learned on a port are removed (R261, R264). -/
def flushPort (n : Nat) (s : State) : State := putAddrs (s.po.addrs.filter (fun a => a.port != n)) s

/-- A static entry for an address on a VLAN entry; its port mask (R255, R266). -/
def staticMask (s : State) (mac v : Nat) : Option Nat :=
  ((List.range 32).find? (fun e => s.is (F.portSvalid e) && s.rd (F.portSmac e) == mac && s.rd (F.portSvlan e) == v)).map
    (fun e => s.rd (F.portSmask e))

/-- A learned entry. -/
def addrOf (s : State) (mac v : Nat) : Option Addr := s.po.addrs.find? (fun a => a.mac == mac && a.entry == v)

/-- A source address learned, refreshed or moved; a full set learns nothing (R255). -/
def learn (mac v n : Nat) (s : State) : State :=
  if !s.is (F.portLearn n) || bit mac 40 || (staticMask s mac v).isSome then s
  else match addrOf s mac v with
    | some a =>
      let s1 := putAddrs (⟨mac, v, n, s.beatcnt⟩ :: s.po.addrs.filter (fun b => !(b.mac == mac && b.entry == v))) s
      if a.port = n then s1 else s1.inc F.portMoves
    | none =>
      if 4 ≤ (s.po.addrs.filter (fun b => Config.atSet b.mac b.entry == Config.atSet mac v)).length then s.inc F.portAtfull
      else putAddrs (⟨mac, v, n, s.beatcnt⟩ :: s.po.addrs) s

/-- ADDRESS_AGE_OUT: AGETIME seconds unseen; AGETIME 0 disables ageing (R255). -/
def execAddressAgeOut (mac : BitVec 48) (v : Fin 64) (s : State) : Res :=
  match addrOf s mac.toNat v with
  | none => .next s
  | some a =>
    when (s.live && s.domOn 6 && s.rd F.portAgetime != 0 && a.seen + 1024 * s.rd F.portAgetime ≤ s.beatcnt)
      (fun s => putAddrs (s.po.addrs.filter (fun b => !(b.mac == mac.toNat && b.entry == v.val))) s) s

/-- The addresses of every port of a mask removed. -/
def flushMask (mask : Nat) (s : State) : State := forN 4 (fun n s => if bit mask n then flushPort n s else s) s

/-- FLUSH_ADDRESSES (R264). -/
def execFlushAddresses (mask : BitVec 4) (s : State) : Res := when s.live (flushMask mask.toNat) s

/-! ## Queues (R256 to R260) -/

/-- A queue of a port: TC0 to TC3, and TQ at 4. -/
def State.queue (s : State) (n q : Nat) : List Frame := (s.port n).queues.getD q []
def State.setQueue (s : State) (n q : Nat) (l : List Frame) : State :=
  s.setPort n { s.port n with queues := (s.port n).queues.set q l }

/-- The cells of a frame, 128 bytes each (R257). -/
def Frame.cells (f : Frame) : Nat := (f.len + 127) / 128

/-- The cells that the data queues of a port hold. -/
def portCells (s : State) (n : Nat) : Nat :=
  (List.range 4).foldl (fun a q => a + (s.queue n q).foldl (fun a f => a + f.cells) 0) 0

/-- The cells of the shared pool in use: a frame stored for several ports counts once (R257). -/
def poolCells (s : State) : Nat :=
  let all := (List.range 4).flatMap (fun n => (List.range 4).flatMap (fun q => (s.queue n q).map (fun f => (f.id, f.cells))))
  (all.eraseDups).foldl (fun a p => a + p.2) 0

/-- A congestion drop of class `c` on port `n` (R260, R265). -/
def congDrop (n c : Nat) (s : State) : State := pirq n 4 (s.inc (F.portCongdrop n c))

/-- The lowest class below `c` that holds frames on a port. -/
def lowestBelow (s : State) (n c : Nat) : Option Nat := (List.range c).find? (fun q => !(s.queue n q).isEmpty)

/-- A frame at the tail of its queue. -/
def pushFrame (n c : Nat) (f : Frame) (s : State) : State := s.setQueue n c (s.queue n c ++ [f])

/-- A frame for a data queue (R260): with no room at EGLIM or at 128 frames the last frame of the lowest class below its own
is pushed out, as often as it takes; with none to push out the new frame is dropped. -/
def admitFrame : Nat → Nat → Nat → Frame → State → State
  | 0, n, c, _, s => congDrop n c s
  | fuel + 1, n, c, f, s =>
    let full := decide (s.rd (F.portEglim n) < portCells s n + f.cells)
    if !full && (s.queue n c).length < 128 then pushFrame n c f s
    else match lowestBelow s n c with
      | none => congDrop n c s
      | some q =>
        let s1 := congDrop n q (s.setQueue n q (s.queue n q).dropLast)
        if full then admitFrame fuel n c f s1 else pushFrame n c f s1

/-- The class of a PCP (R256). -/
def classOf (s : State) (pcp : Nat) : Nat := bits (s.rd F.portPcpmap) (2 * pcp) 2

/-- A frame queued for every port of a mask; an exhausted pool drops it for each, with no pushout (R260). -/
def queueAll (mask : Nat) (f : Frame) (s : State) : State :=
  let c := classOf s f.pcp
  let none_ := decide (1024 < poolCells s + f.cells)
  forN 4 (fun n s => if bit mask n then (if none_ then congDrop n c s else admitFrame 513 n c f s) else s) s

/-- Every queued frame of a port discarded (R261). -/
def flushQueues (n : Nat) (s : State) : State :=
  let k := (List.range 5).foldl (fun a q => a + (s.queue n q).length) 0
  (s.setPort n { s.port n with queues := [] }).incBy (F.portFlushdrop n) k

/-- A frame as it leaves a port: the tag is removed where the port is in the untagged set, and kept elsewhere; a frame that
arrived with no VID of its own leaves there with a tag of its VLAN (R254). -/
def egressBytes (s : State) (n : Nat) (f : Frame) : List Byte :=
  let head := bytesBE 6 f.dst ++ bytesBE 6 f.src
  if bit (s.rd (F.portUntag f.entry)) n then head ++ f.body
  else head ++ bytesBE 4 (f.tag.getD (0x8100 * 65536 + f.pcp * 8192 + f.vid)) ++ f.body

/-- The queue that the transmitter serves next: TQ, then TC3 to TC0 (R256). -/
def nextQueue (s : State) (n : Nat) : Option Nat := [4, 3, 2, 1, 0].find? (fun q => !(s.queue n q).isEmpty)

/-- The bytes of a frame in a queue: those of TQ are the PC's own. -/
def sendFrame (n q : Nat) (f : Frame) (s : State) : State :=
  let b := if q = 4 then bytesBE 6 f.dst ++ bytesBE 6 f.src ++ f.body else egressBytes s n f
  (s.setPort n { s.port n with tx := b }).inc (F.portTxok n)

/-- FRAME_TRANSMIT_START: a frame has ended, and the transmitter takes the next (R256). -/
def execFrameTransmitStart (n : Fin 4) (s : State) : Res :=
  match nextQueue s n with
  | none => .next s
  | some q =>
    when (s.live && s.domOn 6 && s.is (F.portLink n)) (fun s =>
      match s.queue n q with
      | [] => s
      | f :: l => sendFrame n q f (s.setQueue n q l)) s

/-! ## Reception (R253, R254, R258) -/

/-- The parts of a received frame: outer tag, EtherType and body after the tags. -/
structure Parsed where
  dst : Nat
  src : Nat
  tpid : Nat
  tag : Option Nat
  etype : Nat
  body : List Byte
deriving DecidableEq, Repr

/-- The header parsed: an outer tag of TPID 0x8100 or 0x88A8, with the inner tag left in the body (R253). -/
def parseFrame (l : List Byte) : Parsed :=
  let t := pw16 l 12
  let tagged := t == 0x8100 || t == 0x88A8
  let body := if tagged then l.drop 16 else l.drop 12
  let inner := tagged && pw16 l 16 == 0x8100
  { dst := ofBytesBE (l.take 6), src := ofBytesBE ((l.drop 6).take 6), tpid := t, tag := if tagged then some (pw16 l 14) else none,
    etype := if inner then pw16 l 20 else pw16 body 0, body := body }

/-- The valid VLAN entry of a VID (R254). -/
def vlanOf (s : State) (vid : Nat) : Option Nat :=
  (List.range 64).find? (fun v => s.is (F.portValid v) && s.rd (F.portVid v) == vid)

/-- An address of 01-80-C2-00-00-00 to 01-80-C2-00-00-0F. -/
def reserved (dst : Nat) : Bool := dst / 16 == 0x0180C2000000 / 16

/-- The bytes of a frame from its EtherType on, behind an inner tag. -/
def payload (p : Parsed) : List Byte :=
  match p.tag with | some _ => if pw16 p.body 0 = 0x8100 then p.body.drop 4 else p.body | none => p.body

/-- A PTP frame: EtherType 0x88F7, or UDP port 319 or 320 over IPv4 or IPv6 (R253). -/
def isPtp (p : Parsed) : Bool :=
  let b := payload p
  p.etype == 0x88F7 ||
  (p.etype == 0x0800 && pg b 11 == 17 && (pw16 b (4 * (pg b 2 % 16) + 4) == 319 || pw16 b (4 * (pg b 2 % 16) + 4) == 320)) ||
  (p.etype == 0x86DD && pg b 8 == 17 && (pw16 b 44 == 319 || pw16 b 44 == 320))

/-- The domainNumber of a PTP frame, octet 4 of its message. -/
def ptpDomainOf (p : Parsed) : Nat :=
  let b := payload p
  if p.etype = 0x88F7 then pg b 6 else if p.etype = 0x0800 then pg b (4 * (pg b 2 % 16) + 14) else pg b 54

/-- The packet core takes the PTP frames of a port: PTPEN is set and CLKTYPE gives the unit a role (R270). -/
def ptpPort (s : State) (n : Nat) : Bool := s.is (F.ptpEn n) && 1 ≤ s.rd F.ptpClktype && s.rd F.ptpClktype < 5

/-- The packet core takes a PTP frame: as a TC those of every domain, otherwise those of its own; any other is forwarded as
data (R270). -/
def ptpTakes (s : State) (n : Nat) (p : Parsed) : Bool :=
  ptpPort s n && (3 ≤ s.rd F.ptpClktype || ptpDomainOf p == s.rd F.ptpDomain)

/-- A PAUSE frame (R245). -/
def isPause (p : Parsed) : Bool := p.dst == 0x0180C2000001 && p.etype == 0x8808 && pw16 p.body 2 == 1

/-- ACCEPT excludes a frame: 1 takes tagged frames only, 2 untagged and priority-tagged frames only. -/
def acceptOut (accept : Nat) (tag : Option Nat) : Bool :=
  let tagged := match tag with | some t => t % 4096 != 0 | none => false
  (accept == 1 && !tagged) || (accept == 2 && tagged)

/-- The VID and PCP of a frame: of its outer tag, or the port's (R253). -/
def frameVid (s : State) (n : Nat) (tag : Option Nat) : Nat × Nat :=
  match tag with
  | some t => if t % 4096 = 0 then (s.rd (F.portPvid n), s.rd (F.portPpcp n)) else (t % 4096, t / 8192)
  | none => (s.rd (F.portPvid n), s.rd (F.portPpcp n))

/-- The egress set of an address on a VLAN entry, without the ingress port: a static entry's mask, the learned port, or every
member (R254, R255). -/
def egressSet (s : State) (dst v n : Nat) : Nat :=
  let mem := s.rd (F.portMember v)
  let set := match staticMask s dst v with
    | some m => m
    | none => if bit dst 40 then mem else match addrOf s dst v with
      | some a => if bit mem a.port then 2 ^ a.port else mem
      | none => mem
  maskOf 4 (fun p => bit set p && bit mem p && p != n && s.is (F.portLink p))

/-- Cut-through applies: P0 and P1 both set and both at 1,000 Mb/s, between them only, the egress queue and every higher one
empty (R258). -/
def cutThrough (s : State) (n mask c : Nat) : Bool :=
  n < 2 && mask == 2 ^ (1 - n) && s.is (F.portCutthru 0) && s.is (F.portCutthru 1) && s.rd (F.portSpeed 0) == 3 &&
  s.rd (F.portSpeed 1) == 3 && (List.range 5).all (fun q => q < c || (s.queue (1 - n) q).isEmpty)

/-- A frame that has passed reception: classified, learned, and forwarded in its VLAN (R253 to R258). -/
def forward (n : Nat) (p : Parsed) (len : Nat) (fcsOk : Bool) (s : State) : State :=
  let (vid, pcp) := frameVid s n p.tag
  match vlanOf s vid with
  | none => if fcsOk then s.inc (F.portVlandrop n) else s
  | some v =>
    if (s.is (F.portIngfilt n) && !bit (s.rd (F.portMember v)) n) || acceptOut (s.rd (F.portAccept n)) p.tag then
      (if fcsOk then s.inc (F.portVlandrop n) else s)
    else
      let mask := egressSet s p.dst v n
      let tag := match p.tag with | some t => if t % 4096 = 0 then none else some (p.tpid * 65536 + t) | none => none
      let f : Frame := ⟨s.po.nextId, p.dst, p.src, p.body, tag, v, vid, pcp, len, n⟩
      let cut := cutThrough s n mask (classOf s pcp) && 64 ≤ len && !reserved p.dst && !(isPtp p && ptpTakes s n p)
      let s0 : State := { s with po.nextId := s.po.nextId + 1 }
      if fcsOk then
        let s1 := learn p.src v n s0
        if cut then sendFrame (1 - n) 0 f s1 else queueAll mask f s1
      else if cut then s0.inc (F.portCterr n) else s

/-- FRAME_RECEIVE (R253, R245, R257, R270). A frame for the PC, reserved or PTP, is handed over here; the rows of PTP, ESMC
and LEP say what the PC does with it. -/
def frameReceive (n : Nat) (f : FrameIn) (dt : Nat) (s : State) : State :=
  let len := f.bytes.length
  let p := parseFrame (f.bytes.take (len - 4))
  let s1 := if f.ce then s.inc F.portFmemce else s
  if !f.fcsOk then forward n p len false (s1.inc (F.portRxfcs n))
  else if len < 64 || 1536 < len then s1.inc (F.portRxsize n)
  else
    let s2 := s1.inc (F.portRxok n)
    if f.ue then s2.occ .fmemUe 0 0 9 dt
    else if isPause p then s2.inc (F.portPausedrop n)
    else if reserved p.dst || (isPtp p && ptpTakes s n p) then s2
    else forward n p len true s2

/-- FRAME_RECEIVE. -/
def execFrameReceive (n : Fin 4) (f : FrameIn) (dt : Dt) (s : State) : Res :=
  when (s.live && s.domOn 6 && s.is (F.portLink n)) (frameReceive n f dt.toNat) s

/-! ## Links (R261, R263) -/

/-- SPEED of a port that is up: by the layer on P0 and P1, 10 Mb/s on P2 and 100 Mb/s on P3 (R265). -/
def speedOf (s : State) (n : Nat) : Nat := match n with | 2 => 1 | 3 => 2 | _ => if (s.port n).layer = 1 then 3 else 2

/-- EQSTATE of P2 while its link is up (R251). -/
def eqUp (s : State) : Nat := if s.is (F.portEqfrz 2) then 4 else if s.is (F.portCmhold 2) then 3 else 2

/-- EQFRZ set or cleared while the link of P2 is up (R251). -/
def eqShow (s : State) : State := if s.is (F.portLink 2) then s.wr (F.portEqstate 2) (eqUp s) else s

/-- A port that may come up trains its link; the spur's equaliser adapts afresh (R65, R251, R261). -/
def portTrains (n : Nat) (s : State) : State :=
  if portReady s n && !s.is (F.portLink n) then
    (let s1 := s.setPort n { s.port n with training := true, bad := 0 }
     if n = 2 then s1.wr (F.portEqstate 2) 1 else s1)
  else s

/-- LINK_UP: after training (R261, R313). -/
def execLinkUp (n : Fin 4) (s : State) : Res :=
  when (s.live && portReady s n && !s.is (F.portLink n)) (fun s =>
    let s1 := ((s.set1 (F.portLink n)).wr (F.portSpeed n) (speedOf s n)).clr (F.portLos n)
    let s2 := (pirq n 0 (s1.liveClr .linkDown n)).fire 44
    let s3 := if n.val = 2 then s2.wr (F.portEqstate 2) (eqUp s2) else s2
    s3.setPort n { s3.port n with training := false, bad := 0 }) s

/-- A link goes out, which LINKDOWNS counts whatever takes it down (log 102: DESIGN CHOICE): queues and learned addresses are removed, and the frame in transmission where there is one is ended;
`cut` says that it was a cut-through frame from the other fibre port (R261, R262). -/
def linkOut (n : Nat) (inTx cut : Bool) (s : State) : State :=
  if !s.is (F.portLink n) then s
  else
    let s1 := ((s.clr (F.portLink n)).wr (F.portSpeed n) 0)
    let s2 := flushPort n (flushQueues n s1)
    let s3 := if inTx then s2.inc (F.portTxabort n) else s2
    let s4 := if inTx && cut && n < 2 then s3.inc (F.portCterr (1 - n)) else s3
    let s5 := (pirq n 0 (s4.inc (F.portLinkdowns n))).fire 44
    if n = 2 then s5.wr (F.portEqstate 2) 0 else s5

/-- The loss of an enabled link raises LINK_DOWN (R261). -/
def linkLost (n : Nat) (inTx cut : Bool) (dt : Nat) (s : State) : State :=
  if s.is (F.portLink n) then (linkOut n inTx cut s).liveSet .linkDown n n 9 dt else s

/-- LINK_DOWN. -/
def execLinkDown (n : Fin 4) (inTx cut : Bool) (dt : Dt) (s : State) : Res :=
  when (s.live && s.is (F.portLink n)) (fun s => (linkLost n inTx cut dt.toNat s).set1 (F.portLos n)) s

/-- A port out of PEN or out of power: the frame in transmission completes and the queues are discarded (R261). -/
def portOff (n : Nat) (s : State) : State :=
  let s1 := (linkOut n false false s).liveClr .linkDown n
  if n = 2 then s1.wr (F.portEqstate 2) 0 else s1

/-- PORT_DISABLE: PEN is clear or the domain is off (R261). -/
def execPortDisable (n : Fin 4) (s : State) : Res :=
  when (s.powered && (!s.is (F.portPen n) || !s.domOn (portDom n))) (portOff n) s

/-- PHY_FAIL (R263): the port is out of service. -/
def execPhyFail (n : Fin 4) (inTx : Bool) (dt : Dt) (s : State) : Res :=
  when (s.live && s.domOn (portDom n))
    (fun s => (linkLost n inTx false dt.toNat s).liveSet .phyFail n n 9 dt.toNat) s

/-- PHY_MANAGEMENT_RETURN: the PHY answers again, so the live bit falls. -/
def execPhyManagementReturn (n : Fin 4) (s : State) : Res := when s.powered (fun s => s.liveClr .phyFail n) s

/-! ## SFP events (R247) -/

/-- SFP_INSERT: powered, read and identified; a supported one is enabled, and a recognised one gives its latencies. -/
def sfpInsert (n : Nat) (a0 a2 : List Byte) (dt : Nat) (s : State) : State :=
  let lay := sfpLayer (s.rd (F.portPmode n)) a0
  let s1 := pirq n 1 (s.set1 (F.portSfppres n))
  let s2 := s1.setPort n { s1.port n with layer := lay, a0 := a0, diagAt := some s.beatcnt }
  if lay = 0 then (s2.clr (F.portSfpok n)).liveSet .sfpUnsupported n n 9 dt
  else
    let s3 := (s2.set1 (F.portSfpok n)).liveClr .sfpUnsupported n
    let s4 := match sfpLat a0 with
      | some (t, r) => ((s3.wr (F.portTxlat n) t).wr (F.portRxlat n) r).set1 (F.portLatauto n)
      | none => s3.clr (F.portLatauto n)
    if hasDiag a0 then diagRead n a2 dt s4 else s4

/-- SFP_INSERT. -/
def execSfpInsert (n : Fin 2) (a0 a2 : List Byte) (dt : Dt) (s : State) : Res :=
  when (s.live && s.domOn (portDom n)) (sfpInsert n a0 a2 dt.toNat) s

/-- SFP_REMOVE: SFPOK clears, and it counts as loss of signal (R247). -/
def sfpRemove (n : Nat) (inTx : Bool) (dt : Nat) (s : State) : State :=
  let s1 := (linkLost n inTx false dt s).set1 (F.portLos n)
  let s2 := pirq n 1 (((s1.clr (F.portSfppres n)).clr (F.portSfpok n)).clr (F.portLatauto n))
  let s3 := ((s2.liveClr .sfpUnsupported n).liveClr .sfpTxfault n).clr (F.portTxfault n)
  (s3.liveClr .sfpAlarm n).setPort n { s3.port n with layer := 0, a0 := [], diagNow := false }

/-- SFP_REMOVE. -/
def execSfpRemove (n : Fin 2) (inTx : Bool) (dt : Dt) (s : State) : Res :=
  when (s.live && s.is (F.portSfppres n)) (sfpRemove n inTx dt.toNat) s

/-- SFP_TXFAULT: TX_FAULT for more than 1 ms; the port is out of service (R247). -/
def execSfpTxfault (n : Fin 2) (dt : Dt) (s : State) : Res :=
  when (s.live && s.domOn (portDom n) && s.is (F.portSfppres n)) (fun s =>
    (linkLost n false false dt.toNat (s.set1 (F.portTxfault n))).liveSet .sfpTxfault n n 9 dt.toNat) s

/-- SFP_TXFAULT_CLEAR: TX_FAULT is deasserted, so the live bit falls. -/
def execSfpTxfaultClear (n : Fin 2) (s : State) : Res :=
  when (s.live && s.is (F.portTxfault n)) (fun s => (s.clr (F.portTxfault n)).liveClr .sfpTxfault n) s

/-! ## The spur (R250, R251) -/

/-- CMHOLD_START: the common mode exceeds 50 V peak. -/
def execCmholdStart (volts : BitVec 16) (s : State) : Res :=
  when (s.live && s.domOn 9 && 50 < volts.toNat) (fun s =>
    let s1 := s.wr (F.portCmpeak 2) (max (s.rd (F.portCmpeak 2)) volts.toNat)
    let s2 := if s.is (F.portCmhold 2) then s1 else (s1.inc (F.portCmholdcnt 2)).set1 (F.portCmhold 2)
    if s2.is (F.portLink 2) then s2.wr (F.portEqstate 2) (eqUp s2) else s2) s

/-- CMHOLD_END: 10 ms after the common mode fell back. -/
def execCmholdEnd (s : State) : Res :=
  when (s.live && s.is (F.portCmhold 2)) (fun s =>
    let s1 := s.clr (F.portCmhold 2)
    if s1.is (F.portLink 2) then s1.wr (F.portEqstate 2) (eqUp s1) else s1) s

/-- T1L_RETRAIN: the error has stayed above −18 dB for 4 ms, so the link is dropped and trains again (R250). -/
def execT1lRetrain (inTx : Bool) (dt : Dt) (s : State) : Res :=
  when (s.live && s.is (F.portLink 2) && 4 < (s.port 2).bad) (fun s =>
    let s1 := pirq 2 3 ((linkLost 2 inTx false dt.toNat s).inc (F.portRetrains 2))
    let s2 := (s1.occ .t1lRetrain 2 2 9 dt.toNat).wr (F.portEqstate 2) 1
    s2.setPort 2 { s2.port 2 with training := true, bad := 0 }) s

/-! ## VLAN entries (R266, R328) -/

/-- The entry would place a port in the untagged sets of two VLANs with different owners (R328). -/
def vlanMixes (s : State) (v w : Nat) : Bool :=
  let untag := bits w 16 4
  let owner := min 4 (w % 8)
  bit w 63 && (List.range 64).any (fun u => u != v && s.is (F.portValid u) && s.rd (F.portVowner u) != owner &&
    s.rd (F.portUntag u) &&& untag != 0)

/-- VLAN_COMMIT's effect: applied, or refused with VLANERR. OWNER above 4 is held at 4 (R9). -/
def vlanCommit (v w : Nat) (s : State) : State :=
  if vlanMixes s v w then s.set1 F.tenVlanerr
  else
    ((((s.wr (F.portVid v) (bits w 48 12)).wr (F.portValid v) (bits w 63 1)).wr (F.portMember v) (bits w 32 4)).wr
      (F.portUntag v) (bits w 16 4)).wr (F.portVowner v) (min 4 (w % 8))

/-- VLAN_COMMIT. -/
def execVlanCommit (v : Fin 64) (w : BitVec 64) (s : State) : Res := when s.live (vlanCommit v w.toNat) s

/-! ## The strobe -/

/-- The ports at a strobe: the stall ends, and the spur's figures and the beats of a bad error advance (R249, R250). -/
def portsStrobe (mse echo : Nat) (s : State) : State :=
  let s1 := forN 2 (fun n s => if (s.port n).stalled then s.setPort n { s.port n with stalled := false } else s) s
  if s1.domOn 9 && s1.is (F.portLink 2) then
    let s2 := (s1.wr (F.portMse 2) mse).wr (F.portEchores 2) echo
    s2.setPort 2 { s2.port 2 with bad := if -180 < sgn 16 mse then (s2.port 2).bad + 1 else 0 }
  else s1

end Sys2Proof.Machine
end

