-- ==== Sys2Proof/Machine/Faults.lean ====
section
/-! DEFINITION. Recovery, acknowledgement and forcing of fault records, and the views of the fault books (R388 to R396). -/
namespace Sys2Proof.Machine

/-! ## Captures follow their record (R396, word 7) -/

/-- A capture of the record `seq` of class `c` takes the record's ACKED and RECOVERED. -/
def Capt.follow (p : Capt) (c : FC) (r : FRec) : Capt :=
  if p.valid && p.cls == c.bit && p.seq == r.seq then { p with acked := r.acked, recovered := r.recovered } else p

/-- A capture map with the capture of one block changed. -/
def followMap (m : SMap Capt) (c : FC) (r : FRec) : SMap Capt :=
  match m.get? c.blk with
  | some p => m.set c.blk (p.follow c r)
  | none => m

/-- Both captures of a class's block follow its record. -/
def State.followCapts (s : State) (c : FC) : State :=
  { s with flt.first := followMap s.flt.first c (s.frec c), flt.last := followMap s.flt.last c (s.frec c) }

/-! ## Recovery (R388) -/

/-- A record has been quiet for QUIET seconds of its block, 1,024 strobes each, with its live bit clear: `quiet` counts the
strobes from the first one at which the live bit was clear. -/
def canRecover (s : State) (c : FC) : Bool :=
  let r := s.frec c
  r.uncl && !r.isLive && s.rd (F.fltQuiet c.blk) * 1024 < r.quiet

/-- A record recovers: UNCLR clears, RECOVERED is set, RECOVCNT and tally 5 increment, and an isolated resource waits to
return (R388, R390). -/
def recover (c : FC) (s : State) : State :=
  let r := s.frec c
  let s1 := s.setFrec c { r with uncl := false, recovered := true, ret := r.isol != 0 }
  ((s1.followCapts c).inc F.dRecovcnt).tally 5

/-- FAULT_RECOVER of class `c` of block `b`. -/
def execFaultRecover (b : Fin 14) (c : Fin 16) (s : State) : Res :=
  match FC.at? b c with
  | none => .next s
  | some k => when (s.powered && s.qcRuns && canRecover s k) (recover k) s

/-! ## Acknowledgement (R389, R137) -/

/-- One class acknowledged: an uncleared record clears UNCLR and sets ACKED; any other is unchanged. -/
def ackClass (c : FC) (s : State) : State :=
  let r := s.frec c
  if r.uncl then
    let s1 := (s.setFrec c { r with uncl := false, acked := true, ret := r.isol != 0 }).followCapts c
    if r.level == 3 then { s1 with flt.l3acked := true } else s1
  else s

/-- Every class of the blocks of a mask acknowledged. -/
def ackBlocks (mask : Nat) (s : State) : State :=
  FC.all.foldl (fun s c => if bit mask c.blk then ackClass c s else s) s

/-- The classes of a mask in one block acknowledged. -/
def ackBits (b mask : Nat) (s : State) : State :=
  FC.all.foldl (fun s c => if c.blk == b && bit mask c.bit then ackClass c s else s) s

/-- FAULT_ACK: a write of FAULTACK (R136, R389). -/
def execFaultAck (w : Word) (s : State) : Res := when s.live (ackBlocks (w.toNat % 2 ^ 14)) s

/-- FAULT_ACK_CLASS: a write of a block's ACK word (R389). -/
def execFaultAckClass (b : Fin 14) (w : Word) (s : State) : Res := when s.live (ackBits b w.toNat) s

/-! ## Force bits (R393) -/

/-- The instance a forced occurrence takes out of service: the one FORCEINFO names, where its real default allows it. -/
def forceInst (c : FC) (info : Nat) : Option Nat :=
  if c.names info && (!c.byInst || c.dflt info == 2) then some info else none

/-- One class forced at TCLK edge `dt`: an occurrence with master code 15 and INFO from FORCEINFO, its live bit untouched. A real
occurrence of the class in that cycle is the one occurrence of both (R395). -/
def forceClass (c : FC) (dt : Nat) (s : State) : State :=
  let info := s.rd (F.fltForceinfo c.blk)
  if (s.frec c).real.isSome && (s.frec c).real == s.cycleOf (s.at dt) then s
  else occurAt c c.lowDflt c.lowCeil (forceInst c info) info 15 (s.at dt) s

/-- The classes of a mask forced in the SYSCLK cycle after the write. -/
def forceBits (b mask dt : Nat) (s : State) : State :=
  let s1 := FC.all.foldl (fun s c => if c.blk == b && bit mask c.bit then forceClass c (2 * (dt / 2 + 1)) s else s) s
  if FC.all.any (fun c => c.blk == b && bit mask c.bit) then s1.note (0xB0 + b) (bytesBE 2 mask) else s

/-! ## QUIET (R395) -/

/-- Every record of a block that has been quiet long enough recovers. -/
def recoverBlock (b : Nat) (s : State) : State :=
  FC.all.foldl (fun s c => if c.blk == b && canRecover s c then recover c s else s) s

/-- QUIET_WRITE: the write applies at the strobe, clamped from 1 s to 86,400 s, and records already quiet for longer recover
there (R388, R395). -/
def execQuietWrite (b : Fin 14) (v : BitVec 32) (s : State) : Res :=
  when s.live (fun s => recoverBlock b (s.wr (F.fltQuiet b) (clampNat 1 86400 v.toNat))) s

/-! ## The strobe (R385, R388) -/

/-- A record at a strobe: the mark of an event class ends, and where QC's sweep `runs` its quiet timer counts while its live bit is
clear (R18). -/
def FRec.strobe (runs : Bool) (r : FRec) : FRec :=
  if r.live != 0 then { r with evLive := false, quiet := 0 }
  else { r with evLive := false, quiet := if runs then r.quiet + 1 else r.quiet }

/-- Every record at a strobe. -/
def faultStrobe (s : State) : State := { s with flt.recs := s.flt.recs.map (fun p => (p.1, p.2.strobe s.qcRuns)) }

/-! ## Views (R136, R391, R392, R396) -/

/-- The classes of a block with an uncleared record. -/
def unclClasses (s : State) (b : Nat) : List FC := FC.all.filter (fun c => c.blk == b && (s.frec c).uncl)

/-- FAULTSUM BLK: one bit for each block with an uncleared record. -/
def faultBlk (s : State) : Nat := maskOf 14 (fun b => s.flt.blkUncl b)

/-- The highest level among uncleared records; 0 where there is none. -/
def maxLevel (s : State) : Nat := s.flt.recs.foldl (fun m p => if p.2.uncl then max m p.2.level else m) 0

/-- The highest uncleared level of a block. -/
def blkLevel (s : State) (b : Nat) : Nat := (unclClasses s b).foldl (fun m c => max m (s.frec c).level) 0

/-- A block's interrupt line: an uncleared record of a class whose IRQEN bit is set (R392). -/
def blkLine (s : State) (b : Nat) : Bool := (unclClasses s b).any (fun c => bit (s.rd (F.fltIrqen b)) c.bit)

/-- LINES (R392). -/
def faultLines (s : State) : Nat := maskOf 14 (blkLine s)

/-- A block's LIVE word (R396). -/
def liveWord (s : State) (b : Nat) : Nat :=
  FC.all.foldl (fun m c => if c.blk == b && (s.frec c).isLive then setBit m c.bit true else m) 0

/-- A resource of the block is out of service (R396). -/
def blkIsol (s : State) (b : Nat) : Bool := FC.all.any (fun c => c.blk == b && (s.frec c).isol != 0)

/-- REC of a class (R396): before any record has opened DEFLVL and CEIL read the lower level and its ceiling. -/
def recWord (s : State) (b c : Nat) : Nat :=
  match FC.at? b c with
  | none => 0
  | some k =>
    let r := s.frec k
    let d := if r.opened then r.dflt else k.lowDflt
    let e := if r.opened then r.ceil else k.lowCeil
    r.level + 4 * b2n r.uncl + 8 * b2n r.acked + 16 * b2n r.recovered + 32 * b2n (r.isol != 0) + 64 * d + 256 * e +
      1024 * b2n k.isEvent

/-- A capture as its eight words (R396). -/
def captValue (p : Capt) : Nat :=
  let w0 := p.cls + 16 * p.level + 256 * p.esc + 1024 * p.master + 16384 * b2n p.untraced + 32768 * b2n p.valid
  ((w0 * 2 ^ 48 + p.sec) * 2 ^ 32 + p.ns) * 2 ^ 32 + p.info % 65536 * 65536 + (b2n p.acked + 2 * b2n p.recovered)

/-- ERR# is driven low (R391): an uncleared record at or above L(ERRLVL), ERRFORCE, or BOOT not ended; from D0 AON good (R83). -/
def errLow (s : State) : Bool :=
  s.powered && ((s.flt.recs.any (fun p => p.2.uncl && s.rd F.dErrlvl ≤ p.2.level)) || s.is F.dErrforce || s.phase != .run)

end Sys2Proof.Machine
end

