-- ==== Sys2Proof/Machine/TimeEngine.lean ====
section
/-! DEFINITION. The time engine: steps of the time scale, latches, Pips, captures and TIO pins (R226 to R243). -/
namespace Sys2Proof.Machine

/-! ## Owners (R242, R331) -/

/-- The owner of a resource: 0 the custodian, 1 to 4 TN1 to TN4. Kinds: 0 Pip, 1 capture, 2 channel, 3 TIO pin, 4 CK. -/
def State.owner (s : State) (kind i : Nat) : Nat := s.tn.own.getD (kind * 64 + i) 0

/-- The Pip record, capture record and pin record of a number. -/
def State.pip (s : State) (n : Nat) : Pip := s.tm.pips.getD n {}
def State.cap (s : State) (n : Nat) : Cap := s.tm.caps.getD n {}
def State.tio (s : State) (n : Nat) : Tio := s.tm.tio.getD n {}
def State.setPip (s : State) (n : Nat) (p : Pip) : State := { s with tm.pips := s.tm.pips.set n p }
def State.setCap (s : State) (n : Nat) (c : Cap) : State := { s with tm.caps := s.tm.caps.set n c }
def State.setTio (s : State) (n : Nat) (p : Tio) : State := { s with tm.tio := s.tm.tio.set n p }

/-! ## Tenant Press partitions (R401) -/

/-- A tenant's Orchard partition of 64 KiB (R28) holds its Press partition from its first byte (log 19). -/
def tenantBase (k : Nat) : Nat := 0x1A0000 + (k - 1) * 0x10000

/-- An entry of 16 bytes in TNk's Press partition: BEATCNT low, the kind, the resource, and ten bytes of payload. -/
def tenantLog (k kind idx payload : Nat) (s : State) : State :=
  let size := 4096 * s.rd (F.tenPressblk (k - 1))
  let p := s.tn.plog.getD k 0
  if k = 0 ∨ size = 0 then s
  else
    let b := bytesBE 4 (s.beatcnt % 2 ^ 32) ++ bytesBE 1 kind ++ bytesBE 1 idx ++ bytesBE 10 payload
    { s with en.orchard := s.en.orchard.writeN (tenantBase k + p % size) b, tn.plog := s.tn.plog.set k ((p + 16) % size) }

/-- An entry whose payload the spec does not give: it is free. -/
def tenantNote (k kind idx : Nat) (s : State) : State := if k = 0 then s else (tenantLog k kind idx s.freeVal s).used

/-! ## Strobes (R15, R16) -/

/-- The first beat boundary at or after a time-scale value. -/
def boundaryFrom (t : Nat) : Nat := (t + unitsPerBeat - 1) / unitsPerBeat * unitsPerBeat

/-- The beat boundary that ends the beat in progress: the next one, or, in a LONG beat, the first boundary of the stepped
time scale at least one beat period after its own strobe (R16). -/
def nextBoundary (s : State) : Nat :=
  if s.tm.long then boundaryFrom (s.tm.now + unitsPerBeat) else (s.tm.now / unitsPerBeat + 1) * unitsPerBeat

/-- The first TCLK edge at or after an instant, counted from a reading at an edge (R15). -/
def edgeFrom (now b : Nat) : Nat := now + (b - now + unitsPerEdge - 1) / unitsPerEdge * unitsPerEdge

/-- The reading of the time scale at the next strobe. -/
def nextStrobe (s : State) : Nat := edgeFrom s.tm.now (nextBoundary s)

/-! ## Pip settings (R227, R232) -/

/-- The value of a seconds, nanoseconds and fraction field of 112 or 80 bits, in 2⁻¹⁶ ns. -/
def timeField (v : Nat) : Nat := ofTime (v / 2 ^ 48) (v / 2 ^ 16 % 2 ^ 32) (v % 2 ^ 16)

/-- START, PERIOD and WIDTH of a Pip, in 2⁻¹⁶ ns. -/
def pipStart (s : State) (n : Nat) : Nat := timeField (s.rd (F.timePipStart n))
def pipPeriod (s : State) (n : Nat) : Nat := timeField (s.rd (F.timePipPeriod n))
def pipWidth (s : State) (n : Nat) : Nat := s.rd (F.timePipWidth n) * 65536

/-- The Pip is periodic, drives a pin, and which pin. -/
def pipPeriodic (s : State) (n : Nat) : Bool := s.is (F.timePipPeriodic n)
def pipDrives (s : State) (n : Nat) : Bool := s.is (F.timePipPinen n)
def pipPin (s : State) (n : Nat) : Nat := s.rd (F.timePipPin n)

/-- Half the shortest toggle period that a slew code allows, in ns (R233, code 5). -/
def slewHalfNs (code : Nat) : Nat := match code with | 0 => 5 | 1 => 10 | 2 => 20 | _ => 40

/-- A setting lies outside R232. -/
def pipBadSetting (s : State) (n : Nat) : Bool :=
  s.rd (F.timePipWidth n) < 8 || 1000000000 < s.rd (F.timePipWidth n) ||
  (pipPeriodic s n &&
    (pipPeriod s n < 16 * 65536 || pipPeriod s n < pipWidth s n + 8 * 65536 ||
     4294967295 * unitsPerSec < pipPeriod s n))

/-- Another armed Pip drives the pin. -/
def pinTaken (s : State) (n pin : Nat) : Bool :=
  (List.range 16).any (fun m => m != n && s.is (F.timePipArmed m) && pipDrives s m && pipPin s m == pin)

/-- The enable bit of a Pip in force: PIPCTL for the custodian's, the owner's view for a tenant's (R119, R233). -/
def pipEn (s : State) (n : Nat) : Bool :=
  if s.owner 0 n = 0 then s.bitOf F.dPipctl n else s.bitOf (F.tvPipen (s.owner 0 n - 1)) n

/-- The first code of R233 that applies, leaving out another Pip arming at the same strobe; 0 where none does. -/
def armCode (s : State) (n : Nat) : Nat :=
  let pin := pipPin s n
  let half := slewHalfNs (s.rd (F.timeTioSlew pin)) * 65536
  if pipBadSetting s n then 1
  else if !pipDrives s n then 0
  else if pinTaken s n pin then 2
  else if s.rd (F.timeTioDir pin) != 2 || s.is (F.timeTioOutsrc pin) then 3
  else if s.owner 0 n != s.owner 3 pin then 4
  else if pipWidth s n < half || (pipPeriodic s n && pipPeriod s n - pipWidth s n < half) then 5
  else 0

/-- A lower-numbered Pip arms onto the same pin at this strobe, so this one takes code 2 (R233, R243). -/
def lowerArms (s : State) (n : Nat) : Bool :=
  pipDrives s n && (List.range n).any (fun m =>
    pipEn s m && !bit s.tm.pipPrev m && pipDrives s m && pipPin s m == pipPin s n && armCode s m == 0)

/-- The code of R233 recorded in ARMERR. -/
def armErr (s : State) (n : Nat) : Nat :=
  if armCode s n = 1 then 1 else if lowerArms s n then 2 else armCode s n

/-- The earliest edge of START + k × PERIOD at or after an instant (R234). -/
def firstEdge (start period from_ : Nat) : Nat :=
  if from_ ≤ start then start else start + (from_ - start + period - 1) / period * period

/-- Arming waits in PROVISION and in SAFE, and no Pip runs in BOOT (R81, R238). -/
def armingWaits (m : Mode) : Bool := m == .boot || m == .provision || m == .safe

/-- Edges fire from the strobe that follows the arming strobe: the Pip's first edge there, or MISSED (R234). -/
def pipStartFrom (s : State) (n from_ : Nat) : State :=
  if pipPeriodic s n then
    (s.set1 (F.timePipArmed n)).setPip n { s.pip n with due := some (firstEdge (pipStart s n) (pipPeriod s n) from_) }
  else if pipStart s n < from_ then
    ((s.set1 (F.timePipMissed n)).clr (F.timePipArmed n)).setPip n { s.pip n with due := none }
  else (s.set1 (F.timePipArmed n)).setPip n { s.pip n with due := some (pipStart s n) }

/-- A Pip that arms takes its pin, which is at the Pip's idle level from then on, or low in REPLAY (R238, R241). -/
def pinTake (n : Nat) (s : State) : State :=
  if pipDrives s n then
    let p := pipPin s n
    let pol := s.is (F.timePipPol n)
    (s.setTio p { s.tio p with drive := pol && s.mode != .replay, idle := pol }).setPip n { s.pip n with out := some (p, pol) }
  else s.setPip n { s.pip n with out := none }

/-- PIP_ARM (R233, R234). -/
def execPipArm (n : Fin 16) (s : State) : Res :=
  when (s.live && pipEn s n && !bit s.tm.pipPrev n && !armingWaits s.mode) (fun s =>
    let e := armErr s n
    let s1 : State := { s with tm.pipPrev := setBit s.tm.pipPrev n true }
    let s2 := s1.wr (F.timePipArmerr n) e
    if e = 0 then pipStartFrom (pinTake n s2) n (nextStrobe s2) else s2.clr (F.timePipArmed n)) s

/-- The pin of a disarmed Pip rests at the Pip's idle level, once any pulse in progress has ended (R236, R241). -/
def pinRest (n : Nat) (s : State) : State :=
  match (s.pip n).out with
  | some (p, pol) =>
    if (s.pip n).pulse.isNone && !s.is (F.timePipArmed n) then
      (s.setTio p { s.tio p with drive := pol, idle := pol }).setPip n { s.pip n with out := none }
    else s
  | none => s

/-- PIP_DISARM (R236): edges stop; a pulse in progress completes its width. -/
def execPipDisarm (n : Fin 16) (s : State) : Res :=
  when (s.live && !pipEn s n && bit s.tm.pipPrev n) (fun s =>
    let s1 : State := { s with tm.pipPrev := setBit s.tm.pipPrev n false }
    pinRest n ((s1.clr (F.timePipArmed n)).setPip n { s1.pip n with due := none })) s

/-- The unit drives a TIO pin: output, past its first departure from PROVISION, in service, and D12 on (R51, R241, R384). -/
def tioDriven (s : State) (p : Nat) : Bool :=
  s.rd (F.timeTioDir p) == 2 && s.md.leftProv && !s.isolated .tioShort p && s.mode != .boot && s.domOn 12

/-- FIRED in PIPSTAT, or in the view of the tenant that owns the Pip (R135, R345). -/
def pipFired (s : State) (n : Nat) : State :=
  if s.owner 0 n = 0 then s.wrBit F.dPipstat n true
  else tenantNote (s.owner 0 n) 1 n (s.wrBit (F.tvPipfired (s.owner 0 n - 1)) n true)

/-- A Pip asserts or releases its pin; the pin of an armed Pip is low throughout REPLAY (R238). -/
def pinTo (s : State) (n : Nat) (on : Bool) : State :=
  match (s.pip n).out with
  | some (p, pol) =>
    let lvl := (on != pol) && !(s.mode == .replay && s.is (F.timePipArmed n))
    s.setTio p { s.tio p with drive := lvl, idle := pol }
  | none => s

/-- The nearest of the instants, 125 ps apart, at which an edge can be placed (R234). -/
def place125 (t : Nat) : Nat := (t + 4096) / 8192 * 8192

/-- How late an edge due at `t` is placed: up to 8 ns, for a Pip whose PERIOD is one beat and whose edge falls less than 1 µs after its
strobe (R438). -/
def edgeLate (s : State) (n t late : Nat) : Nat :=
  if pipPeriodic s n && pipPeriod s n == unitsPerBeat && t - s.tm.now < 65536000 then min late 524288 else 0

/-- PIP_EDGE (R234, R238): the pin is asserted for WIDTH and the Bramble producer fires at the leading edge; `late` is how late the work
of the beat places the edge where R438 lets it. -/
def execPipEdge (n : Fin 16) (s : State) (late : BitVec 20 := 0) : Res :=
  match (s.pip n).due with
  | none => .next s
  | some t =>
    when (s.live && s.is (F.timePipArmed n) && s.tm.now ≤ t && t < nextStrobe s) (fun s =>
      let due := if pipPeriodic s n then some (t + pipPeriod s n) else none
      let at_ := t + edgeLate s n t late.toNat
      let s1 := s.setPip n { s.pip n with due := due, pulse := some (at_ + pipWidth s n), placed := some (place125 at_) }
      let s2 := pinTo (pipFired s1 n) n true
      if s.is (F.timePipBramen n) && s.mode != .replay then s2.fire n else s2) s

/-- A pin's SLEW change that waited for idle takes effect (R241). -/
def tioIdleSlew (s : State) (p : Nat) : State :=
  match (s.tio p).slewNext with
  | some c => (s.wr (F.timeTioSlew p) c).setTio p { s.tio p with slewNext := none }
  | none => s

/-- PIP_PULSE_END (R234): the pin returns to idle and a once Pip disarms. -/
def execPipPulseEnd (n : Fin 16) (s : State) : Res :=
  match (s.pip n).pulse with
  | none => .next s
  | some e =>
    when (s.live && e < nextStrobe s) (fun s =>
      let s0 := if (s.pip n).due.isNone then s.clr (F.timePipArmed n) else s
      let s1 := s0.setPip n { s.pip n with pulse := none }
      let s2 := pinRest n (pinTo s1 n false)
      match (s.pip n).out with
      | some (p, _) => tioIdleSlew s2 p
      | none => s2) s

/-- REPLAY begins: the pins of armed Pips are driven low (R238). -/
def pipsLow (s : State) : State :=
  forN 16 (fun n s =>
    match (s.pip n).out with
    | some (p, _) => if s.is (F.timePipArmed n) then s.setTio p { s.tio p with drive := false } else s
    | none => s) s

/-- At a step every armed Pip is re-armed against the stepped time scale; `from_` is the first strobe of that scale (R237). -/
def pipRearm (from_ n : Nat) (s : State) : State :=
  if s.is (F.timePipArmed n) then
    let s1 := s.set1 (F.timePipRearmed n)
    if !pipPeriodic s n && (s.pip n).due.isNone then s1 else pipStartFrom s1 n from_
  else s

/-- A pulse in progress at a step completes its width, counted in TCLK cycles: its end moves with the time scale (R237). -/
def pulseShift (delta : Int) (n : Nat) (s : State) : State :=
  match (s.pip n).pulse with
  | some e => s.setPip n { s.pip n with pulse := some ((e : Int) + delta).toNat }
  | none => s

/-- A step at a capture channel: the last edge it holds moves, and its next entry is flagged AFTERSTEP (R239). -/
def capShift (delta : Int) (n : Nat) (s : State) : State :=
  let c := s.cap n
  s.setCap n { c with lastEdge := c.lastEdge.map (fun e => ((e : Int) + delta).toNat), after := true }

/-- Every armed Pip re-armed, with REARMCNT counted once where any was armed (R237). -/
def rearmAll (from_ : Nat) (s : State) : State :=
  let any := (List.range 16).any (fun n => s.is (F.timePipArmed n))
  let s1 := forN 16 (pipRearm from_) s
  if any then s1.inc F.timeRearmcnt else s1

/-! ## UTC offset (R230, R231) -/

/-- The leap second: UTCOFF changes by one and LEAPPEND clears (R231). -/
def leapApply (s : State) : State :=
  let d : Int := if s.is F.timeLeapdir then -1 else 1
  ({ s with tm.leapOld := some (s.rd F.timeLeapat, s.rdS F.timeUtcoff) } : State).wrS F.timeUtcoff (s.rdS F.timeUtcoff + d)
    |>.clr F.timeLeappend

/-- The time scale is at the start of second LEAPAT with a leap second pending. -/
def leapDue (s : State) : Bool := s.is F.timeLeappend && s.rd F.timeLeapat == s.sec && s.beatOfSec == 0

/-- A step from second `old` carries the time scale from before LEAPAT to LEAPAT or later with a leap second pending. -/
def leapPassed (old : Nat) (s : State) : Bool :=
  s.is F.timeLeappend && old < s.rd F.timeLeapat && s.rd F.timeLeapat ≤ s.sec

/-- LEAP_SECOND (R231). -/
def execLeapSecond (s : State) : Res := when (s.powered && s.tm.running && leapDue s) leapApply s

/-! ## Reading the time (R229, R133) -/

/-- The reading that a LATCH written at a time-scale value holds: the TCLK edge is the fourth, fifth or sixth after it, 8 ns to 12 ns, and
which of them the synchroniser takes is free (R229). -/
def latchEdge (s : State) (t : Nat) : Nat := t + (4 + s.freeVal % 3) * unitsPerEdge

/-- TIME_LATCH: the reading at one TCLK edge is held (R229); `dt` is that edge, the synchronisation of the write behind it. -/
def execTimeLatch (dt : Dt) (s : State) : Res :=
  when s.live (fun s => ({ s with tm.latch := some (s.at dt.toNat) } : State).set1 F.dHeld) s

/-- TIME_RELEASE: the time registers return to the live time scale (R133). -/
def execTimeRelease (s : State) : Res :=
  when s.live (fun s => ({ s with tm.latch := none } : State).clr F.dHeld) s

/-! ## Captures (R239, R240, R242) -/

/-- Captures run in every mode but BOOT, PROVISION and REPLAY (R88). -/
def capsRun (m : Mode) : Bool := m.runs || m == .safe

/-- The source of a capture has another owner (R242). -/
def capSrcErr (s : State) (n : Nat) : Bool :=
  let src := s.rd (F.timeCapSrc n)
  if src < 16 then s.owner 1 n != s.owner 3 src
  else if 32 ≤ src then s.owner 1 n != s.owner 2 (src - 32)
  else false

/-- A capture entry: seconds, nanoseconds, fraction and flags (R244). -/
def capEntry (t : Nat) (fall coarse untraced after : Bool) : Nat :=
  secOf t * 2 ^ 64 + nsOf t * 2 ^ 32 + fracOf t * 2 ^ 16 +
    (1 + 2 * b2n fall + 4 * b2n coarse + 8 * b2n untraced + 16 * b2n after)

/-- A timestamp at the resolution of TCLK (R239: D2 off, or the channel held or out of service, R374, R380). -/
def coarsen (s : State) (t : Nat) : Nat := if s.tm.now ≤ t then s.tm.now + (t - s.tm.now) / unitsPerEdge * unitsPerEdge else t

/-- The beat and the SYSCLK cycle of a time-scale value. -/
def cycleAt (s : State) (t : Nat) : Nat × Nat := (s.beatcnt, (t - s.tm.now) / (2 * unitsPerEdge))

/-- The log of an entry in its owner's Press partition (R401). -/
def capLog (n e : Nat) (s : State) : State :=
  tenantLog (s.owner 1 n) 2 n (e / 2 ^ 64 % 2 ^ 32 * 2 ^ 48 + e / 2 ^ 16 % 2 ^ 48) s

/-- A capture takes an edge at a time-scale value: within 8 ns of the previous one it is lost, a full queue drops it, and
otherwise it is queued with its flags (R239, R240). -/
def capTake (n t : Nat) (fall : Bool) (s : State) : State :=
  let c := s.cap n
  let near := match c.lastEdge with | some p => decide (t - p < 8 * 65536) && decide (p - t < 8 * 65536) | none => false
  if near then s.inc (F.timeCapLostcnt n)
  else
    let coarse := !s.domOn 2 || s.calItem == some (0x26 + n) || s.tdcOut (6 + n)
    let v := if coarse then coarsen s t else t
    let e := capEntry v fall coarse s.untraced c.after
    let cy := cycleAt s t
    let c1 : Cap := { c with
      lastEdge := some t, recent := some (cy.1, cy.2, e, c.queue, s.rd (F.timeCapOvf n), s.rd (F.timeCapLostcnt n)) }
    if c.queue.length < 16 then capLog n e (s.setCap n { c1 with queue := c.queue ++ [e], after := false })
    else ((s.set1 (F.timeCapOvf n)).inc (F.timeCapLostcnt n)).setCap n c1

/-- The edge that a capture handled in the cycle of a head read, with what it found (R240). -/
def capSame (s : State) (n t : Nat) : Option (Nat × List Nat × Nat × Nat) :=
  (s.cap n).recent.bind (fun r => if (r.1, r.2.1) = cycleAt s t then some r.2.2 else none)

/-- A head read takes its entry before the edge of its own cycle is handled (R240). -/
def capBack (n t : Nat) (s : State) : State :=
  match capSame s n t with
  | some (_, q, ovf, lost) =>
    let s1 := s.setCap n { s.cap n with queue := q }
    if q.length < 16 then s1 else (s1.wr (F.timeCapOvf n) ovf).wr (F.timeCapLostcnt n) lost
  | none => s

/-- The oldest entry is removed, and the edge of the read's own cycle is accepted after it (R240). -/
def capPop (n t : Nat) (s : State) : State :=
  let c := s.cap n
  match capSame s n t with
  | some (e, q, _, _) =>
    let s1 := s.setCap n { c with queue := c.queue.tail ++ [e], recent := none, after := false }
    if q.length < 16 then s1 else capLog n e s1
  | none => s.setCap n { c with queue := c.queue.tail }

/-- EDGE selects this edge (R239): 1 rising, 2 falling, 3 both. -/
def edgeSel (code : Nat) (fall : Bool) : Bool := if fall then bit code 1 else bit code 0

/-- A TIO pin passes edges: an input, past the first departure from PROVISION, and D12 on (R51, R241). -/
def tioInput (s : State) (p : Nat) : Bool :=
  s.rd (F.timeTioDir p) == 1 && s.md.leftProv && !s.isolated .tioShort p && s.domOn 12

/-- LEVEL of a pin: its drive where the unit drives it, else the level that its last edge left (R241). -/
def tioLevel (s : State) (p : Nat) : Bool := if tioDriven s p then (s.tio p).drive else (s.tio p).pin

/-- A level that holds for this long, in 2 ns, passes the glitch filter of a pin (R241, R147). -/
def tioPasses (s : State) (p hold : Nat) : Bool := clampNat 1 500 (s.rd (F.timeTioGlitch p)) ≤ hold

/-- CAPTURE_EDGE: an edge at the pin, `dt` TCLK edges and `sub` × 2⁻¹⁶ ns after the strobe, whose new level holds for `hold` × 2 ns
(R239, R241). -/
def execCaptureEdge (n : Fin 16) (fall : Bool) (dt : Dt) (sub : BitVec 17) (s : State) (hold : BitVec 16 := 0xFFFF) : Res :=
  let src := s.rd (F.timeCapSrc n)
  when (s.live && capsRun s.mode && src < 16 && tioInput s src && !capSrcErr s n && tioPasses s src hold.toNat &&
      edgeSel (s.rd (F.timeCapEdge n)) fall)
    (fun s => capTake n (s.at dt.toNat + sub.toNat % unitsPerEdge) fall (s.setTio src { s.tio src with pin := !fall })) s

/-- The window-state key of the agent that reads a resource of owner `k`: the host bus 0, TL1 to TL4 4 to 7 (R25, R106). -/
def agentOf (k : Nat) : Nat := if k = 0 then 0 else k + 3

/-- A head read: the snapshot an agent's window takes, and the first word on the bus for the host (R107, R240). -/
def snapHead (k sp base words v : Nat) (s : State) : State :=
  let w := s.bus.win.getD (agentOf k) {}
  let s1 : State := { s with bus.win := s.bus.win.set (agentOf k) { w with snap := some ⟨sp, base, words, v⟩ } }
  if k = 0 then { s1 with bus.rdata := some (BitVec.ofNat 16 (v / 2 ^ (16 * (words - 1)))) } else s1

/-- A head is read by its owner: while the carrier's pins are released the access is abandoned, the host's with its count (R52). -/
def headRead (k : Nat) (f : State → State) (s : State) : State :=
  if s.pw.auxLow then (if k = 0 then s.inc F.sysHbabandon else s) else f s

/-- CAPTURE_HEAD_READ by the owner `k`: the oldest entry is snapped and removed; an empty queue gives VALID 0 (R240). -/
def execCaptureHeadRead (n : Fin 16) (k : Fin 5) (s : State) (dt : Dt := 0) : Res :=
  when (s.live && s.owner 1 n == k) (headRead k (fun s =>
    let s1 := capBack n (s.at dt.toNat) s
    capPop n (s.at dt.toNat) (snapHead k 4 (0x408 + 0x10 * n) 8 ((s1.cap n).queue.headD 0) s1))) s

/-! ## TIO pins (R241) -/

/-- The armed Pip that drives a pin. -/
def armedOn (s : State) (p : Nat) : Option Nat :=
  (List.range 16).find? (fun m => s.is (F.timePipArmed m) && pipDrives s m && pipPin s m == p)

/-- A pin's word committed (R241): DIR 3 is 0, GLITCH lies from 1 to 500; on a pin that an armed Pip drives DIR and OUTSRC
keep their values and WRBUSY is set, and SLEW waits for idle. -/
def tioConfig (p w : Nat) (s : State) : State :=
  let dir := if w % 4 = 3 then 0 else w % 4
  let slew := bits w 2 2
  let gl := clampNat 1 500 (bits w 4 9)
  let src := bits w 13 1
  let s1 := s.wr (F.timeTioGlitch p) gl
  match armedOn s p with
  | some m =>
    let s2 := if dir != s.rd (F.timeTioDir p) || src != s.rd (F.timeTioOutsrc p) then s1.set1 (F.timePipWrbusy m) else s1
    if slew != s.rd (F.timeTioSlew p) then s2.setTio p { s2.tio p with slewNext := some slew } else s2
  | none =>
    let s2 := ((s1.wr (F.timeTioDir p) dir).wr (F.timeTioOutsrc p) src).wr (F.timeTioSlew p) slew
    if dir != s.rd (F.timeTioDir p) || src != s.rd (F.timeTioOutsrc p) then
      s2.setTio p { s2.tio p with drive := false, idle := false, pulse := none }
    else s2

/-- TIO_CONFIG by the pin's owner. Its effect on the pin waits for the first departure from PROVISION (R241), which
`tioDriven` and `tioInput` read from `leftProv`. -/
def execTioConfig (n : Fin 16) (w : Word) (s : State) : Res := when s.live (tioConfig n w.toNat) s

/-- TIO_SHORT: a driven pin's level differs from its drive (R394). -/
def execTioShort (n : Fin 16) (dt : Dt) (s : State) : Res :=
  when (s.live && tioDriven s n) (fun s => s.liveSet .tioShort n n 9 dt.toNat) s

/-- TIO_SHORT_END: the level matches again, so the live bit falls. -/
def execTioShortEnd (n : Fin 16) (s : State) : Res := when s.live (fun s => s.liveClr .tioShort n) s

end Sys2Proof.Machine
end

