-- ==== Sys2Proof/Machine/Bramble.lean ====
section
/-! DEFINITION. Bramble: the crossbar of 48 producers, 32 channels and 64 consumers, its FIFOs and its TIO pulses
(R312 to R325). -/
namespace Sys2Proof.Machine

/-! ## Owners and enables (R313, R314, R318) -/

/-- A producer that may be enabled by any owner (R313). -/
def prodShared (p : Nat) : Bool := p == 32 || p == 33

/-- The owner of a producer. -/
def prodOwner (s : State) (p : Nat) : Nat :=
  if p < 16 then s.owner 0 p else if p < 32 then s.owner 3 (p - 16) else 0

/-- The owner of a consumer. -/
def consOwner (s : State) (k : Nat) : Nat :=
  if k < 16 then s.owner 1 k else if k < 32 then s.owner 3 (k - 16)
  else if 33 ≤ k ∧ k ≤ 36 then k - 32 else 0

/-- A PEN bit of channel `c` may be set for producer `p` (R318). -/
def penAllowed (s : State) (c p : Nat) : Bool := prodShared p || prodOwner s p == s.owner 2 c

/-- A CEN bit of channel `c` may be set for consumer `k` (R318, R319): DORMEXIT on a tenant's channel needs ALARMOK. -/
def cenAllowed (s : State) (c k : Nat) : Bool :=
  if k = 38 then s.owner 2 c == 0 || bit (s.rd F.bramAlarmok) (s.owner 2 c - 1)
  else consOwner s k == s.owner 2 c

/-- PEN committed: a bit that breaks R318 is committed as 0 and sets OWNERR. -/
def commitPen (c v : Nat) (s : State) : State :=
  let ok := maskOf 48 (fun p => bit v p && penAllowed s c p)
  let s1 := s.wr (F.bramPen c) ok
  if ok = v % 2 ^ 48 then s1 else s1.set1 (F.bramOwnerr c)

/-- CEN committed: bits 0 to 15 are read-only, bits 39 to 63 ignore writes (R314), and R318 as for PEN. -/
def commitCen (c v : Nat) (s : State) : State :=
  let ok := maskOf 39 (fun k => decide (16 ≤ k) && bit v k && cenAllowed s c k)
  let s1 := s.wr (F.bramCen c) ok
  if ok = v % 2 ^ 39 / 2 ^ 16 * 2 ^ 16 then s1 else s1.set1 (F.bramOwnerr c)

/-- CEN as it reads: bits 0 to 15 show the captures whose SRC names the channel (R314). -/
def cenView (s : State) (c : Nat) : Nat :=
  s.rd (F.bramCen c) / 65536 * 65536 + maskOf 16 (fun n => s.rd (F.timeCapSrc n) == 32 + c)

/-- An enable bit of a channel that breaks R318 after an owner change is cleared (R318). -/
def ownerSweep (c : Nat) (s : State) : State :=
  let s1 := s.wr (F.bramPen c) (maskOf 48 (fun p => bit (s.rd (F.bramPen c)) p && penAllowed s c p))
  s1.wr (F.bramCen c) (maskOf 39 (fun k => bit (s.rd (F.bramCen c)) k && cenAllowed s c k))

/-- Every channel swept after an owner change. -/
def ownerSweepAll (s : State) : State := forN 32 ownerSweep s

/-! ## FIFOs (R320) -/

/-- FIFO `k`: the host's 0, TNk's k. -/
def State.fifo (s : State) (k : Nat) : List Nat := s.br.fifos.getD k []

/-- An entry: the channel mask, the low half of BEATCNT, and VALID (R320, R325). -/
def fifoEntry (mask beat : Nat) : Nat := mask * 2 ^ 32 + beat % 65536 * 65536 + 1

/-- The lowest bit set in a mask of 32, 31 where none is. -/
def lowestBit (mask : Nat) : Nat := ((List.range 32).find? (fun i => bit mask i)).getD 31

/-- A push into FIFO `k` (R320): EVT and LASTCH are set; a full FIFO refuses with OVF, and the host FIFO's refusal counts in
FIFOOVF and raises BRAM_OVF. -/
def fifoPush (k mask dt : Nat) (s : State) : State :=
  if (s.fifo k).length < 16 then
    let s1 : State := { s with br.fifos := s.br.fifos.set k (s.fifo k ++ [fifoEntry mask s.beatcnt]) }
    if k = 0 then (s1.set1 F.dBramEvt).wr F.dLastch (lowestBit mask)
    else (s1.set1 (F.tvBramEvt (k - 1))).wr (F.tvLastch (k - 1)) (lowestBit mask)
  else if k = 0 then
    ((((s.set1 F.dBramOvf).set1 (F.bramOvf 0)).inc F.bramFifoovf)).occ .bramOvf 0 0 9 dt
  else (s.set1 (F.tvBramOvf (k - 1))).set1 (F.bramOvf k)

/-- BRAMBLE_FIFO_HEAD_READ by the owner: the oldest entry is snapped and removed (R320). -/
def execBrambleFifoHeadRead (k : Fin 5) (s : State) : Res :=
  when s.live (headRead k (fun s =>
    snapHead k 8 (0x601 + 0x10 * k) 4 ((s.fifo k).headD 0)
      ({ s with br.fifos := s.br.fifos.set k (s.fifo k).tail } : State))) s

/-! ## TIO pulses (R321) -/

/-- Half the shortest toggle period of a slew code in SYSCLK cycles of 4 ns, rounded up (R233, R321). -/
def slewCycles (code : Nat) : Nat := (slewHalfNs code + 3) / 4

/-- A TIO consumer acts on an event (R321). -/
def tioEvent (p : Nat) (s : State) : State :=
  if s.rd (F.timeTioDir p) == 2 && s.is (F.timeTioOutsrc p) then
    let q := s.tio p
    if s.is (F.bramToggle p) then s.setTio p { q with drive := !q.drive }
    else s.setTio p { q with drive := true, pulse := some (max (s.rd (F.bramPw p)) (slewCycles (s.rd (F.timeTioSlew p)))) }
  else s

/-- TIO_PULSE_END: the pulse ends after its cycles (R321). -/
def execTioPulseEnd (n : Fin 16) (s : State) : Res :=
  when (s.live && (s.tio n).pulse.isSome) (fun s =>
    tioIdleSlew (s.setTio n { s.tio n with drive := false, pulse := none }) n) s

/-! ## Delivery (R312, R314) -/

/-- The channels of a mask that have consumer `k` enabled. -/
def reaches (s : State) (mask k : Nat) : Nat := maskOf 32 (fun c => bit mask c && bit (cenView s c) k)

/-- An exit from DORMANT requested by an alarm-class event (R319): a tenant's channel needs its ALARMOK bit. -/
def dormExit (mask : Nat) (s : State) : State :=
  let ok := (List.range 32).any (fun c => bit mask c && cenAllowed s c 38)
  if s.mode == .dormant && ok then ({ s with md.exit := some .alarm } : State).note 0xA0 (bytesBE 1 1) else s

/-- Consumer `k` acts once on the channels of `mask` that reach it, at time-scale value `t` (R314). -/
def consume (mask t dt k : Nat) (s : State) : State :=
  let m := reaches s mask k
  if m = 0 then s
  else if k < 16 then
    if capsRun s.mode && s.rd (F.timeCapEdge k) != 0 && !capSrcErr s k then capTake k t false s else s
  else if k < 32 then (if s.md.leftProv then tioEvent (k - 16) s else s)
  else if k < 37 then fifoPush (k - 32) m dt s
  else if k = 37 then ({ s with pr.trigEvt := true } : State).note 0xA0 (bytesBE 1 0)
  else if k = 38 then dormExit m s
  else s

/-- The channels of `mask` carry an event in one cycle: each counts it, and every enabled consumer acts (R312, R325). -/
def carry (mask cyc t dt : Nat) (s : State) : State :=
  if mask = 0 then s
  else
    let s1 := forN 32 (fun c s => if bit mask c then
      tenantNote (s.owner 2 c) 3 c { (s.inc (F.bramEvtcnt c)) with br.lastDel := s.br.lastDel.set c cyc } else s) s
    forN 39 (consume mask t dt) s1

/-- A channel that already carried an event in the cycle coalesces another into it (R316). -/
def coalesce (mask : Nat) (s : State) : State :=
  forN 32 (fun c s => if bit mask c then
    (let s1 := s.inc (F.bramCoalcnt c)
     if s.owner 2 c = 0 then s1.set1 F.dBramCoal else s1.set1 (F.tvBramCoal (s.owner 2 c - 1))) else s) s

/-- Channels of `mask` asked to carry an event in cycle `cyc`: those that carry one in that cycle already coalesce. -/
def carryNew (mask cyc t dt : Nat) (s : State) : State :=
  let old := maskOf 32 (fun c => bit mask c && s.br.lastDel.get? c == some cyc)
  carry (maskOf 32 (fun c => bit mask c && !bit old c)) cyc t dt (coalesce old s)

/-- An asynchronous producer (R313): Pips and TIO pins. -/
def prodAsync (p : Nat) : Bool := p < 32

/-- Producer `p` can deliver an event now: an internal producer has fired, a TIO pin is an input with an edge selected
(R313), and Pips are silent in REPLAY (R322). -/
def prodReady (s : State) (p : Nat) : Bool :=
  if p < 16 then bit s.br.due p && s.mode != .replay
  else if p < 32 then tioInput s (p - 16) && s.rd (F.bramPedge (p - 16)) != 0
  else bit s.br.due p

/-- How many enabled producers of `prods` that `sel` admits channel `c` takes. -/
def taken (s : State) (c prods : Nat) (sel : Nat → Bool) : Nat :=
  popcount 48 (maskOf 48 (fun p => sel p && bit prods p && bit (s.rd (F.bramPen c)) p))

/-- On a resynchronised channel an edge less than 3 cycles after the one that made the same producer's last event is merged
into that event (R315, KL-05). -/
def merged (s : State) (p cyc : Nat) : Bool :=
  match s.br.lastArr.get? p with
  | some a => decide (a ≤ cyc) && decide (cyc - a < 3) && prodAsync p
  | none => false

/-- The channels of one path that an admitted producer reaches. -/
def pathMask (s : State) (path : Nat) (prods : Nat) (sel : Nat → Bool) : Nat :=
  maskOf 32 (fun c => s.rd (F.bramPath c) == path && 0 < taken s c prods sel)

/-- The channels of one path that two or more admitted producers reach in the cycle (R316). -/
def pathMany (s : State) (path : Nat) (prods : Nat) (sel : Nat → Bool) : Nat :=
  maskOf 32 (fun c => s.rd (F.bramPath c) == path && 1 < taken s c prods sel)

/-- BRAMBLE_EVENT: the producers of `prods` deliver in cycle `cyc` of the beat, `dt` TCLK edges after the strobe. A
synchronous producer reaches a clocked channel's consumers in that cycle, any producer a resynchronised channel's two
cycles later, and an asynchronous one a clocked channel's three cycles later (R315). -/
def execBrambleEvent (prods : BitVec 48) (cyc : BitVec 19) (dt : Dt) (s : State) : Res :=
  when (s.live && s.domOn 5) (fun s =>
    let ps := maskOf 48 (fun p => bit prods.toNat p && prodReady s p)
    let n := cyc.toNat
    let d := dt.toNat
    let sync : Nat → Bool := fun p => !prodAsync p
    let fresh : Nat → Bool := fun p => !merged s p n
    let m0 := pathMask s 0 ps sync
    let k0 := pathMany s 0 ps sync
    let m1 := pathMask s 1 ps fresh
    let k1 := pathMany s 1 ps fresh
    let m2 := pathMask s 0 ps prodAsync
    let k2 := pathMany s 0 ps prodAsync
    let s0 : State := { s with
      br.due := maskOf 48 (fun p => bit s.br.due p && !bit ps p)
      br.lastArr := (List.range 48).foldl (fun m p => if bit ps p && fresh p then SMap.set m p n else m) s.br.lastArr }
    let s1 := coalesce k0 (carryNew m0 n (s.at d) d s0)
    let s2 := coalesce k1 (carryNew m1 (n + 2) (s.at (d + 4)) (d + 4) s1)
    coalesce k2 (carryNew m2 (n + 3) (s.at (d + 6)) (d + 6) s2)) s

/-- A fire of a channel by its owner `k` (R317): a channel of another owner is ignored and DENY is set (R323, R345). -/
def fireChannel (k chan cyc dt : Nat) (s : State) : State :=
  if s.owner 2 chan = k then carryNew (2 ^ chan) cyc (s.at dt) dt s
  else if k = 0 then s.set1 F.dBramDeny else s.set1 (F.tvBramDeny (k - 1))

/-- BRAMBLE_FIRE: a BRAMFIRE write with GO, by the host (0) or TNk; the channel carries the event in the next cycle. -/
def execBrambleFire (k : Fin 5) (chan : Fin 32) (cyc : BitVec 19) (dt : Dt) (s : State) : Res :=
  when (s.live && s.domOn 5) (fireChannel k chan (cyc.toNat + 1) dt.toNat) s

/-- Clearing ALARMOK bit `k` clears DORMEXIT on every channel of that tenant (R319). -/
def alarmClear (k : Nat) (s : State) : State :=
  forN 32 (fun c s => if s.owner 2 c == k + 1 then s.wrBit (F.bramCen c) 38 false else s)
    (s.wrBit F.bramAlarmok k false)

/-- ALARMOK_CLEAR for TN(k+1) (R319). -/
def execAlarmokClear (k : Fin 4) (s : State) : Res := when s.live (alarmClear k) s

end Sys2Proof.Machine
end

