-- ==== Sys2Proof/Machine/Stone.lean ====
section
/-! DEFINITION. Stone: the shadow SRAM, stores, transactions, the journal, power-up recall, margin reads and tallies (R346 to
R365). -/
namespace Sys2Proof.Machine

/-! ## Owners of words (R329, R340) -/

/-- The owner of the resource that a word belongs to, in TIME, BRAMBLE and SYNTH; none for a global word. PEDGE and PW of a pin
are words that R340 shares, so they are global. -/
def wordOwner (s : State) (sp a : Nat) : Option Nat :=
  if sp = 4 then
    (if 0x100 ≤ a ∧ a < 0x200 then some (s.owner 0 ((a - 0x100) / 16))
     else if 0x400 ≤ a ∧ a < 0x500 then some (s.owner 1 ((a - 0x400) / 16))
     else if 0x600 ≤ a ∧ a < 0x610 then some (s.owner 3 (a - 0x600)) else none)
  else if sp = 8 then
    (if 0x100 ≤ a ∧ a < 0x300 then some (s.owner 2 ((a - 0x100) / 16))
     else if 0x600 ≤ a ∧ a < 0x650 then some ((a - 0x600) / 16) else none)
  else if sp = 3 then (if 0x20 ≤ a ∧ a < 0xA0 then some (s.owner 4 ((a - 0x20) / 16)) else none)
  else none

/-! ## The configuration record (R348) -/

/-- The record takes a field: RW or RWL, Kept, in the spaces of R348, and of no tenant's resource. -/
def cfgTakes (s : State) (k : Nat) : Bool :=
  match fldOfKey k with
  | some f => (f.acc == .rw || f.acc == .rwl) && f.kept && [0, 1, 2, 3, 4, 5, 6, 7, 8, 9].contains f.sp &&
      (wordOwner s f.sp f.addr).getD 0 == 0
  | none => false

/-- The configuration record as it stands. -/
def cfgRecord (s : State) : Rec := ⟨true, s.regs.filter (fun p => cfgTakes s p.1)⟩

/-- The record recalled: its fields are set, and every other one it covers stays at its Reset value (R348). -/
def cfgRecall (r : Rec) (s : State) : State := { s with regs := r.vals.foldl (fun m p => m.set p.1 p.2) s.regs }

/-! ## Banks -/

/-- A bank, and a bank replaced. -/
def State.bank (s : State) (b : Bool) : Bank := if b then s.st.bankB else s.st.bankA
def State.setBank (s : State) (b : Bool) (x : Bank) : State :=
  if b then { s with st.bankB := x } else { s with st.bankA := x }

/-- The older bank: A where neither is sealed, the unsealed one, or the one that is not the newest (log 17). -/
def olderBank (s : State) : Bool :=
  if !s.st.bankA.isSealed then false else if !s.st.bankB.isSealed then true else !s.st.newestB

/-- The unit's bank programs counted. -/
def eraseInc (b : Bool) (s : State) : State :=
  if b then { s with st.eraseB := s.st.eraseB + 1 } else { s with st.eraseA := s.st.eraseA + 1 }

/-! ## Stores (R349 to R351) -/

/-- A store starts: the configuration record is rewritten, JSER recorded, the SRAM locked and the older bank erased. -/
def storeBegin (why : StoreWhy) (s : State) : State :=
  let sh : Image := { s.st.shadow with cfg := some (cfgRecord s) }
  let b := olderBank s
  let s1 : State := { s with st.shadow := sh, st.store := some ⟨why, b, s.st.applied, sh, false⟩ }
  eraseInc b (s1.setBank b { unfinished := true, jser := s.st.applied, img := sh })

/-- A store asked for: it starts where none runs, or waits; while Stone is out of service none is made. -/
def storeAsk (why : StoreWhy) (s : State) : State :=
  if s.stoneIsol then s
  else if s.st.store.isNone then storeBegin why s
  else { s with st.storeQ := s.st.storeQ ++ [why] }

/-- The lock is released: what waited takes effect in arrival order. -/
def unlock (s : State) : State :=
  (s.st.hold ++ s.st.defer).foldl (fun s h => shadowApply h s) { s with st.store := none, st.hold := [], st.defer := [] }

/-- The seal of a store, and its end (R349): BANK flips, STOREDONE, tally 3, and the absorbed journal slots are freed. -/
def storeSeal (r : StoreRun) (s : State) : State :=
  let q := s.st.seq + 1
  let s1 := s.setBank r.bankB { isSealed := true, seq := q, jser := r.jser, img := r.img }
  let s2 : State := { s1 with
    st.seq := q, st.newestB := r.bankB
    st.journal := s1.st.journal.filter (fun e => !(e.2.isSealed && e.2.serial ≤ r.jser)) }
  (unlock (((s2.wrB F.dStBank r.bankB).set1 F.dStoredone).tally 3)).fire 43

/-- A refresh counted: REFRESHED and tally 15 (R358). -/
def refreshed (s : State) : State := (s.set1 F.dRefreshed).tally 15

/-- The stores of a wipe still to be made, one fewer; at the last the Stone part of the wipe is done. -/
def wipeStored (s : State) : State :=
  match s.tn.wipe with
  | some w => { s with tn.wipe := some { w with stores := w.stores - 1 } }
  | none => s

/-- What a completed store does for the one that asked for it. -/
def storeFor (why : StoreWhy) (s : State) : State :=
  match why with
  | .cmd => s.cmdEnd 1 0
  | .refresh => refreshed s
  | .wipe => wipeStored s
  | _ => s

/-- Stores that wait while Stone has gone out of service are refused (R351): the command and the wipe that wait for one fail. -/
def storesRefused (s : State) : State :=
  let s1 : State := { s with st.storeQ := [] }
  let s2 := if s.st.storeQ.contains .cmd then s1.cmdEnd 1 5 else s1
  if s.st.storeQ.contains .wipe then { s2 with tn.wipe := s2.tn.wipe.map (fun w => { w with failed := true }) } else s2

/-- The next store that waits. -/
def storeNext (s : State) : State :=
  match s.st.storeQ with
  | [] => s
  | w :: l =>
    if s.stoneIsol then storesRefused s
    else if s.st.store.isNone then storeBegin w { s with st.storeQ := l } else s

/-- A store that the power-fail and cold-reset rows end. -/
def StoreWhy.ofPower : StoreWhy → Bool
  | .powerFail => true
  | .cold => true
  | .resumed => true
  | _ => false

/-- STORE_DONE (R349). -/
def execStoreDone (s : State) : Res :=
  match s.st.store with
  | none => .next s
  | some r => when (s.powered && !r.why.ofPower) (fun s => storeFor r.why (storeSeal r s)) s

/-- RESUMED_STORE_SEAL (R356): the store resumed at power-up. -/
def execResumedStoreSeal (s : State) : Res :=
  match s.st.store with
  | none => .next s
  | some r => when (s.powered && r.why == .resumed) (storeSeal r) s

/-- A store that has failed: the bank holds no image, the lock is released, and whoever waits is told. -/
def storeFailed (r : StoreRun) (s : State) : State :=
  let s1 := unlock (s.setBank r.bankB {})
  let s2 : State := { s1 with st.storeQ := [] }
  let s3 := s2.cmdEnd 1 5
  match s3.tn.wipe with
  | some w => { s3 with tn.wipe := some { w with failed := true } }
  | none => s3

/-- STORE_VERIFY_FAIL (R351): the store is repeated once, and a second failure isolates Stone. -/
def execStoreVerifyFail (dt : Dt) (s : State) : Res :=
  match s.st.store with
  | none => .next s
  | some r =>
    when s.powered (fun s =>
      let s1 := s.inc F.stoStorefail
      if r.again then (storeFailed r s1).occ .stoneProg 0 0 9 dt.toNat
      else eraseInc r.bankB { s1 with st.store := some { r with again := true } }) s

/-- SCHEDULED_STORE (R350): at second 10,800 of every 21,600; a running store serves for it. -/
def execScheduledStore (s : State) : Res :=
  when (s.live && s.tm.running && s.sec % 21600 == 10800 && s.st.sched != some s.sec) (fun s =>
    let s1 : State := { s with st.sched := some s.sec }
    if s1.st.store.isNone then storeAsk .sched s1 else s1) s

/-- A commanded or queued store given up at step 2 of R61 (R363). -/
def storeAbandon (s : State) : State :=
  match s.st.store with
  | some r =>
    if r.why.ofPower then s
    else
      let s1 := (unlock s).cmdEnd 1 5
      { s1 with st.storeQ := [], tn.wipe := s1.tn.wipe.map (fun w => { w with failed := true }) }
  | none => s

/-! ## Transactions (R352) -/

/-- The buffer of an agent, 0 for the host bus and 1 to 4 for TN1 to TN4. -/
def State.txn (s : State) (k : Nat) : Option (SMap Nat) := s.st.txns.get? k

/-- BEGIN_TXN: a transaction opens with an empty buffer. -/
def txnOpen (k : Nat) (s : State) : State := { s with st.txns := s.st.txns.set k [] }

/-- ABORT_TXN: the buffer is discarded. -/
def txnDrop (k : Nat) (s : State) : State := { s with st.txns := s.st.txns.del k }

/-- A write gathered: whether it is taken, and the state. A later write to a word replaces the earlier one; a 681st word, or a
write with no transaction open, is refused and counted for the host. -/
def gather (k a w : Nat) (s : State) : Bool × State :=
  match s.txn k with
  | none => (false, if k = 0 then s.inc F.stoNotxn else s)
  | some m =>
    if 680 ≤ m.length ∧ (m.get? a).isNone then (false, if k = 0 then s.inc F.stoBufrej else s)
    else (true, { s with st.txns := s.st.txns.set k (m.set a w) })

/-! ## Commits (R353, R354) -/

/-- A free slot of an agent's journal strip. -/
def freeSlot (s : State) (k : Nat) : Option Nat := (List.range 48).find? (fun i => (s.st.journal.get? (64 * k + i)).isNone)

/-- Unabsorbed entries of a strip. -/
def stripUsed (s : State) (k : Nat) : Nat := (s.st.journal.filter (fun e => e.1 / 64 == k)).length

/-- The buffer frozen as an unsealed journal entry under the next serial; its transaction closes. -/
def commitBegin (k slot : Nat) (m : SMap Nat) (s : State) : State :=
  let n := s.st.serial + 1
  { s with
    st.serial := n
    st.journal := s.st.journal.set (64 * k + slot) ⟨n, false, m⟩
    st.commits := s.st.commits.set k ⟨64 * k + slot, n⟩
    st.txns := s.st.txns.del k }

/-- The host's COMMIT has completed. -/
def hostCommitted (s : State) : State := (s.set1 F.dCommitdone).cmdEnd 2 0

/-- COMMIT of the host at its strobe: ERR 4 with no transaction open or a full strip, ERR 5 with Stone out of service; an
empty buffer completes at once. -/
def hostCommit (s : State) : State :=
  match s.txn 0 with
  | none => s.cmdEnd 2 4
  | some [] => hostCommitted (txnDrop 0 s)
  | some m =>
    if s.stoneIsol then s.cmdEnd 2 5
    else match freeSlot s 0 with
      | none => s.cmdEnd 2 4
      | some i => commitBegin 0 i m s

/-- The entry of a commit sealed and applied to the SRAM. -/
def commitSeal (k : Nat) (c : Commit) (s : State) : State :=
  let e := (s.st.journal.getD c.slot ⟨c.serial, false, []⟩)
  let s1 := engineWrite (.entry { e with isSealed := true })
    { s with st.commits := s.st.commits.del k, st.journal := s.st.journal.set c.slot { e with isSealed := true } }
  if k = 0 then (hostCommitted s1).tally 4 else s1

/-- A commit whose program has failed twice. -/
def commitFail (k : Nat) (c : Commit) (dt : Nat) (s : State) : State :=
  let s1 : State := { s with st.commits := s.st.commits.del k, st.journal := s.st.journal.del c.slot }
  let s2 := if k = 0 then s1.cmdEnd 2 5
    else { s1 with st.tcom := s1.st.tcom.set k ((s1.st.tcom.getD k []).map (fun c => if c.reason = 0 then { c with reason := 5 } else c)) }
  s2.occ .stoneProg 0 0 9 dt

/-- Every commit in progress completes (R61, R91). -/
def commitsFinish (s : State) : State := s.st.commits.foldl (fun s p => commitSeal p.1 p.2 s) s

/-- COMMIT_DONE: the entry is sealed and applied, or its program has failed twice (R353). -/
def execCommitDone (k : Fin 5) (ok : Bool) (dt : Dt) (s : State) : Res :=
  match s.st.commits.get? k with
  | none => .next s
  | some c => when s.powered (fun s => if ok then commitSeal k c s else commitFail k c dt.toNat s) s

/-- FAIL with a REASON in TXNSTAT (R365). -/
def txnFail (k reason : Nat) (s : State) : State := (s.set1 (F.tvStFail k)).wr (F.tvStReason k) reason

/-- BEGIN of TN(k+1) (R365); refused in a power-fail sequence (R61; log 94). -/
def tenantBegin (k : Nat) (s : State) : State :=
  if s.pw.pf != .none then txnFail k 5 s else if (s.txn (k + 1)).isSome then txnFail k 2 s else txnOpen (k + 1) s

/-- ABORT of TN(k+1). -/
def tenantAbort (k : Nat) (s : State) : State := if (s.txn (k + 1)).isNone then txnFail k 1 s else txnDrop (k + 1) s

/-- 600 s have passed since the tenant's last accepted commit. -/
def tenantMay (s : State) (k : Nat) : Bool :=
  match s.st.tcAt.get? (k + 1) with
  | some b => decide (b + 614400 ≤ s.beatcnt)
  | none => true

/-- COMMIT of TN(k+1): REASON of R365, reported at the ninth strobe whatever the outcome (R354); one that comes while another waits
for its report has a report of its own. In a power-fail sequence it is refused, and the transaction stays (R61; log 94). -/
def tenantCommit (k : Nat) (s : State) : State :=
  let j := k + 1
  let run (reason : Nat) (s : State) : State :=
    ({ s with st.tcom := s.st.tcom.set j (s.st.tcom.getD j [] ++ [⟨0, reason⟩]) } : State).set1 (F.tvStRunning k)
  if s.pw.pf != .none then run 5 s
  else match s.txn j with
  | none => run 1 s
  | some m =>
    if !tenantMay s k then run 3 s
    else if s.stoneIsol then run 5 s
    else match freeSlot s j with
      | none => run 4 s
      | some i =>
        let s1 : State := { s with st.tcAt := s.st.tcAt.set j s.beatcnt }
        run 0 (if m.isEmpty then txnDrop j s1 else commitBegin j i m s1)

/-- The link of TN(k+1) is open: TNEN set and no wipe of the tenant in progress (R333, R334). -/
def linkOpen (s : State) (k : Nat) : Bool :=
  s.live && s.domOn 13 && bit (s.rd F.tenTnen) k && match s.tn.wipe with | some w => w.k != k | none => true

/-- TL_TXN_BEGIN, TL_TXN_COMMIT and TL_TXN_ABORT. -/
def execTlTxnBegin (k : Fin 4) (s : State) : Res := when (linkOpen s k) (tenantBegin k) s
def execTlTxnCommit (k : Fin 4) (s : State) : Res := when (linkOpen s k) (tenantCommit k) s
def execTlTxnAbort (k : Fin 4) (s : State) : Res := when (linkOpen s k) (tenantAbort k) s

/-- TXNSTAT_REPORT: DONE or FAIL at the ninth strobe (R354). -/
def execTxnstatReport (k : Fin 4) (s : State) : Res :=
  match s.st.tcom.getD (k + 1) [] with
  | [] => .next s
  | c :: l =>
    when (s.powered && 9 ≤ c.beats) (fun s =>
      let s1 := ({ s with st.tcom := s.st.tcom.set (k + 1) l } : State).wrB (F.tvStRunning k) (!l.isEmpty)
      if c.reason = 0 then (s1.set1 (F.tvStDone k)).wr (F.tvStReason k) 0 else txnFail k c.reason s1) s

/-! ## Tenant partitions (R347, R365) -/

/-- The shadow word of a word of a partition: its blocks are contiguous to the tenant. -/
def blockWord (blks : List Nat) (i : Nat) : Option Nat := (blks[i / 2048]?).map (fun b => 0x40000 + b * 2048 + i % 2048)

/-- The blocks of a tenant's Stone and log partitions. -/
def partOf (s : State) (k : Nat) : List Nat := s.st.parts.getD (k + 1) []
def logOf (s : State) (k : Nat) : List Nat := s.st.logs.getD (k + 1) []

/-- A word appended to the log partition, wrapping at its end; with no partition it is dropped. -/
def logAppend (k w : Nat) (s : State) : State :=
  let h := s.rd (F.tvStLoghead k)
  let n := 2048 * (logOf s k).length
  match blockWord (logOf s k) h with
  | none => s
  | some a =>
    let s1 := engineWrite (.words [(a, w)]) s
    if h + 1 < n then s1.wr (F.tvStLoghead k) (h + 1) else (s1.wr (F.tvStLoghead k) 0).inc (F.tvStLogwraps k)

/-- LOGPUSH. -/
def execLogpush (k : Fin 4) (w : Word) (s : State) : Res := when (linkOpen s k) (logAppend k w.toNat) s

/-! ## Tallies (R359, R360) -/

/-- A tally counter and its value. -/
def State.tallyC (s : State) (n : Nat) : Tally := s.st.tallies.getD n {}
def Tally.value (t : Tally) : Nat := min 4294967295 (t.base + t.cells)

/-- The counter moves to its other strip: the present value as its base, and the generation plus 1. -/
def Tally.rotate (t : Tally) : Tally := { strip := !t.strip, gen := t.gen + 1, base := t.value, cells := 0 }

/-- The next cell programmed; at the last cell of a strip the counter moves to the other. -/
def Tally.step (t : Tally) : Tally :=
  if t.value = 4294967295 then t
  else if t.cells + 1 = 16384 then { t with cells := t.cells + 1 }.rotate
  else { t with cells := t.cells + 1 }

/-- One increment taken from the queue. -/
def tallyQPop : List (Nat × Nat) → List (Nat × Nat)
  | [] => []
  | (n, c) :: q => if c ≤ 1 then q else (n, c - 1) :: q

/-- TALLY_INCREMENT: the oldest queued increment programs the next cell of its counter; a failed program raises TALLY_WEAR. While
Stone is out of service increments wait (R13). -/
def execTallyIncrement (worn : Bool) (dt : Dt) (s : State) : Res :=
  match s.st.tallyQ with
  | [] => .next s
  | (n, _) :: _ =>
    when (s.powered && !s.stoneIsol) (fun s =>
      let s1 : State := { s with st.tallies := s.st.tallies.set n (s.tallyC n).step, st.tallyQ := tallyQPop s.st.tallyQ }
      if worn then s1.occ .tallyWear n n 9 dt.toNat else s1) s

/-- TALLYINC: counters 18 to 31 only; another number is counted in TINCREJ (R360). -/
def tallyInc (n : Nat) (s : State) : State := if 18 ≤ n ∧ n < 32 then s.tally n else s.inc F.stoTincrej

/-- TALLYINC. -/
def execTallyinc (n : BitVec 5) (s : State) : Res := when s.live (tallyInc n.toNat) s

/-! ## Margin reads and refresh (R357, R358) -/

/-- The bank that a page of the scan lies in: the newest first, then the older. -/
def pageBank (s : State) (p : Nat) : Bool := if p < 256 then s.st.newestB else !s.st.newestB

/-- STONE_REFRESH: what a weak page asks for; nothing while Stone is out of service (R351). A page in the bank that a store overwrites is rewritten by it (R363). -/
def stoneRefresh (p : Nat) (s : State) : State :=
  let storing := match s.st.store with | some r => decide (p < 512) && r.bankB == pageBank s p | none => false
  if !s.is F.dAutorefresh || storing || s.stoneIsol then s
  else if p < 512 then storeAsk .refresh s
  else if p < 752 then
    (let i := p - 512
     match s.st.journal.get? (64 * (i / 48) + i % 48) with
     | some e => if e.isSealed then storeAsk .refresh s else s
     | none => s)
  else if 800 ≤ p ∧ p < 832 then refreshed { s with st.tallies := s.st.tallies.set (p - 800) (s.tallyC (p - 800)).rotate }
  else refreshed s

/-- A page that cannot be corrected: STONE_UE, a store for a bank, and a code slot rejected at the next BOOT. -/
def pageUe (p : Nat) (s : State) : State :=
  let s1 := (s.inc F.stoUecnt).occ .stoneUe 0 0 9 0
  if p < 512 then stoneRefresh p s1
  else if 752 ≤ p ∧ p < 800 then
    { s1 with st.slots := s1.st.slots.map (fun e => if e.1 = (p - 752) / 8 then (e.1, { e.2 with bad := true }) else e) }
  else s1

/-- The scan advances. -/
def scanNext (s : State) : State :=
  if s.rd F.stoMscanpos + 1 < 4928 then s.wr F.stoMscanpos (s.rd F.stoMscanpos + 1) else (s.wr F.stoMscanpos 0).inc F.stoMscans

/-- Margin-read scheduling runs in a beat: with MARGINEN, and in DORMANT inside wake windows only (R357, R22, R24). -/
def marginRuns (s : State) : Bool :=
  s.live && s.qcRuns && s.is F.dMarginen && !s.deferOff && !bit s.en.abandoned 1 && (s.mode != .dormant || s.is F.dWake)

/-- MARGIN_READ: one page of the scan. -/
def marginRead (m : MarginIn) (s : State) : State :=
  if !marginRuns s then s
  else
    let p := s.rd F.stoMscanpos
    let s1 := scanNext (s.incBy F.stoCecnt m.fixed.toNat)
    if m.ue then pageUe p s1
    else if m.weak then stoneRefresh p (((s1.set1 F.dStWeak).inc F.stoWeakcnt).occ .stoneWeak 0 0 9 0)
    else s1

/-! ## Power-up (R355, R356) -/

/-- A bank that can be recalled. -/
def Bank.usable (b : Bank) : Bool := b.isSealed && b.good

/-- A bank recalled, and the sealed journal entries above its JSER applied in serial order; the State's JAPPLIED counts them. -/
def journalApply (jser : Nat) (s : State) : State :=
  let es := (s.st.journal.map (·.2)).filter (fun e => e.isSealed && jser < e.serial)
  let sorted := (List.range es.length).foldl (fun (acc : List JEntry × List JEntry) _ =>
    match acc.2.foldl (fun (m : Option JEntry) e => match m with | none => some e | some x => if e.serial < x.serial then some e else m) none with
    | some e => (acc.1 ++ [e], acc.2.filter (· != e))
    | none => acc) ([], es)
  let s1 := sorted.1.foldl (fun s e => shadowApply (.entry e) s) s
  s1.wr F.stoJapplied es.length

/-- A bank's image becomes the shadow. -/
def bankRecall (b : Bool) (s : State) : State :=
  journalApply (s.bank b).jser { s with st.shadow := (s.bank b).img, st.applied := (s.bank b).jser, st.newestB := b }

/-- A bit of PUFLAGS. -/
def puflag (i : Nat) (s : State) : State := s.wrBit F.stoPuflags i true

/-- Row 1: neither bank is sealed, or neither passes. -/
def recallEmpty (s : State) : State :=
  puflag 4 ({ s with st.shadow := {} } : State) |>.occ .stoneEmpty 0 0 9 0

/-- Rows 1 to 5 of R356. -/
def stoneRows (retained : Bool) (s : State) : State :=
  let n := s.st.newestB
  let o := olderBank s
  if !s.st.bankA.usable && !s.st.bankB.usable then recallEmpty s
  else if (s.bank o).unfinished && retained then
    let b := s.bank o
    journalApply b.jser (puflag 1 (puflag 0 { s with st.store := some ⟨.resumed, o, b.jser, b.img, false⟩, st.applied := max s.st.applied b.jser }))
  else if (s.bank o).unfinished then bankRecall (!o) (puflag 2 (s.setBank o {}))
  else if !(s.bank n).usable then (bankRecall (!n) (puflag 3 s)).occ .stoneRecallOld 0 0 9 0
  else bankRecall n s

/-- Unsealed journal entries are discarded, with JDISCARD. -/
def journalDiscard (s : State) : State :=
  let l := s.st.journal.filter (fun e => e.2.isSealed)
  let s1 : State := { s with st.journal := l, st.commits := [] }
  if l.length = s.st.journal.length then s1 else puflag 5 s1

/-- Step 7 of R83: the rows, PUACT, and STONE_ROLLBACK. -/
def stonePowerUp (retained : Bool) (s : State) : State :=
  let s1 := journalDiscard (stoneRows retained s)
  let s2 : State := { s1 with st.serial := s1.st.journal.foldl (fun n e => max n e.2.serial) (max s1.st.serial s1.st.applied) }
  let f := s2.rd F.stoPuflags
  let act := if bit f 2 || bit f 5 then 3 else if 0 < s2.rd F.stoJapplied then 2 else if bit f 1 then 1 else 0
  let s3 := (s2.wr F.dPuact act).wrB F.dStBank s2.st.newestB
  if act = 3 then s3.occ .stoneRollback 0 0 9 0 else s3

/-! ## The strobe -/

/-- Stone at a strobe: waiting stores, deferred engine writes and the tenants' reports. -/
def stoneStrobe (s : State) : State :=
  let s1 := storeNext s
  { s1 with st.tcom := s1.st.tcom.map (fun p => (p.1, p.2.map (fun c => { c with beats := c.beats + 1 }))) }

/-! ## What STONE shows (R139, R364) -/

/-- BUSY: a store or a refresh, or a commit of the host (R354). -/
def stoneBusy (s : State) : Bool := s.st.store.isSome || !s.st.storeQ.isEmpty || (s.st.commits.get? 0).isSome

end Sys2Proof.Machine
end

