-- ==== Sys2Proof/Machine/Press.lean ====
section
/-! DEFINITION. Press: the ring, snapshots, the slow record and replay (R397 to R413). -/
namespace Sys2Proof.Machine

/-! ## The ring (R397 to R399) -/

/-- The size of the ring. -/
def ringSize : Nat := 2 ^ 20

/-- The bytes that a list of records holds. -/
def idxLen (l : List PIdx) : Nat := l.foldl (fun n r => n + r.len) 0

/-- The oldest records overwritten until what is held fits in the ring. -/
def ringTrim : Nat → List PIdx → List PIdx
  | _, [] => []
  | n, r :: l => if n ≤ ringSize then r :: l else ringTrim (n - r.len) l

/-- DEPTH: whole seconds from the oldest record to the newest. -/
def ringDepth (l : List PIdx) : Nat :=
  match l.head?, l.getLast? with
  | some a, some b => (b.beat - a.beat) / 1024
  | _, _ => 0

/-- Bytes into the ring from a position, going on at its start past its end. -/
def ringBytes (pos : Nat) (b : List Byte) (m : Mem) : Mem :=
  let k := ringSize - pos
  Mem.writeN (Mem.writeN m pos (b.take k)) 0 (b.drop k)

/-- A record into the ring: its header and its body. -/
def ringPut (kind flags beat time : Nat) (cfg : SMap Nat) (res : EngRes) (body : List Byte) (s : State) : State :=
  let pos := s.rd F.prsWrpos
  let len := 8 + body.length
  let b := bytesBE 1 kind ++ bytesBE 1 flags ++ bytesBE 2 len ++ bytesBE 4 (beat % 2 ^ 32) ++ body
  let l := s.pr.idx ++ [⟨kind, beat, pos, len, time, cfg, res⟩]
  let l1 := ringTrim (idxLen l) l
  let s1 : State := { s with en.orchard := ringBytes pos b s.en.orchard, pr.idx := l1 }
  (s1.wr F.prsWrpos ((pos + len) % ringSize)).wr F.prsDepth (ringDepth l1)

/-- A gap marker for a beat (R23, R397): PRESS_GAP and GAPCNT. -/
def ringGap (beat : Nat) (s : State) : State := ((ringPut 15 0 beat 0 [] {} [] s).inc F.prsGapcnt).occ .pressGap 0 0 2 0

/-- A vector compressed into its beat record; `late` where a later beat does it. -/
def ringVec (late : Bool) (v : Vect) (s : State) : State :=
  ringPut 1 (v.flags + if late then 4 else 0) v.beat 0 [] v.res (v.items ++ bytesBE 4 v.crc) s

/-- Press records: every mode except BOOT and REPLAY, with QC running and no upload open (R397, R424). -/
def pressRuns (s : State) : Bool := s.live && s.mode != .replay && s.qcRuns && !s.pr.upload

/-- Press compression runs in a beat (R22, R24). -/
def comprRuns (s : State) : Bool := !s.deferOff && !bit s.en.abandoned 0

/-- PRESS_BEAT_RECORD: the vector of the beat that ends, with those that wait; a fifth that waits puts a gap marker in the place of
the oldest (R23). -/
def pressBeat (v : Vect) (s : State) : State :=
  if comprRuns s then
    ringVec false v (s.pr.vecs.foldl (fun s v => ringVec true v s) { s with pr.vecs := [] })
  else match s.pr.vecs with
    | o :: l => if 4 ≤ s.pr.vecs.length then ringGap o.beat { s with pr.vecs := l ++ [v] } else { s with pr.vecs := s.pr.vecs ++ [v] }
    | [] => { s with pr.vecs := [v] }

/-- The engine-read fields of the configuration record (R399). -/
def engCfg (s : State) : SMap Nat := (cfgRecord s).vals.filter (fun p => (fldOfKey p.1).any Fld.eng)

/-! ## Items (R398; log 93) -/

/-- A number in `n` bytes of two's complement, most significant first. -/
def bytesS (n : Nat) (i : Int) : List Byte := bytesBE n (uns (8 * n) i)

/-- The fewest bytes, from 1 to 8, that hold each of some numbers. -/
def fewest (l : List Int) : Nat :=
  ((List.range' 1 7).find? (fun n => l.all (fun i => -(2 ^ (8 * n - 1) : Int) ≤ i && i < (2 ^ (8 * n - 1) : Int)))).getD 8

/-- An item: its tag, its length and its payload. -/
def item (tag : Nat) (p : List Byte) : List Byte := bytesBE 1 tag ++ bytesBE 1 p.length ++ p

/-- The numbers of an item, each in the fewest bytes that hold all of them. -/
def numPayload (l : List Int) : List Byte := l.flatMap (bytesS (fewest l))

/-- An item of numbers after `old`: the signed differences, and nothing where none has changed. -/
def numItem (old : SMap (List Int)) (p : Nat × List Int) : List Byte :=
  let o := old.getD p.1 (p.2.map (fun _ => 0))
  if o = p.2 then [] else item p.1 (numPayload (List.zipWith (· - ·) p.2 o))

/-- The references whose inputs Press records, in the order of TDC0 to TDC5. -/
def tdcRefs : List Nat := [0, 1, 2, 3, 8, 9]

/-- Classes 0 and 1: TDC samples with STALE; edge counts, missing and stray, and level. -/
def refItems (i : RefIn) (s : State) : List (Nat × List Int) :=
  let n := i.n.val
  let tdc := ((tdcRefs.findIdx? (· == n)).bind (fun c => i.phase.map (fun p => [(c, [sgn 48 p.toNat, b2n i.stale])]))).getD []
  tdc ++ [(0x10 + n, [(i.count.toNat : Int), b2n i.edges.isEmpty, b2n (1 < i.edges.length), (s.rd (F.refLevel n) : Int)])]

/-- Class 2: what PC gives the engines of a port, and class 9: its received Quality Level. -/
def ptpItems (n : Nat) (s : State) : List (Nat × List Int) :=
  let q := if s.rd F.ptpParentport = n then s.rd F.ptpGmclass else 0
  (0x20 + n, [s.rdS (F.ptpOffset n), s.rdS (F.ptpMpd n), (q : Int)]) :: (if n < 2 then [(0x90 + n, [(s.rd (F.refQlrx (8 + n)) : Int)])] else [])

/-- Class 3: the label of the last edge of the paired RIN. -/
def gnssItems (s : State) : List (Nat × List Int) :=
  match s.rf.gn.cur with
  | some l => [(0x30 + s.rd F.refGnssrin, [(l : Int)])]
  | none => []

/-- Class 4: a peer's measurement, STATE octet, MQ and digest. -/
def peerItems (k : Nat) (s : State) : List (Nat × List Int) :=
  if s.rd (F.ensPstate k) = 0 then []
  else [(0x40 + k, [s.rdS (F.ensPoff k), s.rdS (F.ensPdelay k), (s.rd (F.ensPstatebits k) : Int), (s.rd (F.ensPmq k) : Int),
    (s.rd (F.ensPdigest k) : Int)])]

/-- The mask of the force writes of a block since the last strobe. -/
def forcedIn (s : State) (b : Nat) : Nat :=
  s.pr.notes.foldl (fun m p => if p.1 = 0xB0 + b then m ||| ofBytesBE p.2 else m) 0

/-- Classes 5, 8 and 11: the temperature; domains, links and transceivers; a block's live bits and force writes. -/
def unitItems (s : State) : List (Nat × List Int) :=
  [(0x50, [((s.rd F.servoRtemp * 256 + s.rd F.servoRtempf : Nat) : Int)]),
   (0x80, [(s.rd F.dPowstat : Int), ((maskOf 4 (fun n => s.is (F.portLink n)) : Nat) : Int),
    ((maskOf 2 (fun n => s.is (F.portSfppres n)) : Nat) : Int)])] ++
  (List.range 14).map (fun b => (0xB0 + b, [(liveWord s b : Int), (forcedIn s b : Int)]))

/-- The numbers that a beat brings the engines, by tag; one that brings no value keeps the last one. -/
def itemNums (refs : List RefIn) (s : State) : SMap (List Int) :=
  let l := refs.flatMap (fun i => refItems i s) ++ (List.range 4).flatMap (fun n => ptpItems n s) ++ gnssItems s ++
    (List.range 16).flatMap (fun k => peerItems k s) ++ unitItems s
  l.foldl (fun m p => m.set p.1 p.2) s.pr.items

/-- The items of a beat: the numbers that have changed by tag, then host writes, requests, commands and events in their order. -/
def beatItems (refs : List RefIn) (s : State) : List Byte :=
  (itemNums refs s).flatMap (numItem s.pr.items) ++
    s.pr.notes.flatMap (fun p => if 0xB0 ≤ p.1 then [] else item p.1 p.2)

/-- The vector is captured: the next beat's differences count from it. -/
def itemsTaken (refs : List RefIn) (s : State) : State := { s with pr.items := itemNums refs s, pr.notes := [] }

/-- The body of a checkpoint (R399): the time scale, every item in full, CFGDIG and the state blocks. -/
def checkpointBody (blocks : List Byte) (s : State) : List Byte :=
  bytesBE 8 (secOf s.tm.now) ++ bytesBE 4 (nsOf s.tm.now) ++ bytesBE 2 (fracOf s.tm.now) ++
    s.pr.items.flatMap (fun p => item p.1 (numPayload p.2)) ++ bytesBE 4 (Config.cfgDig (engCfg s)).toNat ++ blocks.take 6144

/-- PRESS_CHECKPOINT at the strobe of beat 0 of a second. -/
def pressCheckpoint (blocks : List Byte) (s : State) : State :=
  ringPut 2 0 s.beatcnt s.tm.now (engCfg s) {} (checkpointBody blocks s) s

/-! ## Snapshots (R402 to R406) -/

/-- A snapshot slot. -/
def State.snapSlot (s : State) (i : Nat) : SnapSlot := s.st.snaps.getD i {}
def State.setSnap (s : State) (i : Nat) (x : SnapSlot) : State := { s with st.snaps := s.st.snaps.set i x }

/-- The slot a new snapshot takes: an invalid one, or with SNAPPOL 0 the older (R405). -/
def snapTarget (s : State) : Option Nat :=
  let a := s.snapSlot 0
  let b := s.snapSlot 1
  if !a.valid then some 0 else if !b.valid then some 1
  else if s.is F.prsSnappol then none
  else some (if a.time ≤ b.time then 0 else 1)

/-- A trigger taken at a strobe: a new snapshot, or one more trigger of the pending one (R402, R403). -/
def pressTrigger (cause : Nat) (cmd : Bool) (s : State) : State :=
  match s.pr.snap with
  | some r =>
    ({ s with pr.snap := some { r with
        trigs := if r.trigs.length < 8 then r.trigs ++ [s.beatcnt] else r.trigs, cmd := r.cmd || cmd } } : State).inc F.prsCoaltrig
  | none =>
    match snapTarget s with
    | none =>
      let s1 := s.occ .pressSnapFail 0 0xF 2 0
      if cmd then s1.cmdEnd 0x20 5 else s1
    | some i => ({ s with pr.snap := some ⟨i, s.beatcnt, s.tm.now, cause, [s.beatcnt], cmd, none, []⟩ } : State).wr F.prsSnapstate 1

/-- SNAPSHOT_TRIGGER: a PRESSTRIG event or a fault record; none is taken in BOOT or REPLAY. -/
def execSnapshotTrigger (s : State) : Res :=
  when (s.powered && (s.pr.trigEvt || s.pr.trigFault)) (fun s =>
    let s0 : State := { s with pr.trigEvt := false, pr.trigFault := false }
    if !s.live || s.mode == .replay then s0
    else
      let s1 := if s.pr.trigFault then pressTrigger 1 false s0 else s0
      if s.pr.trigEvt then pressTrigger 2 false s1 else s1) s

/-- The bytes that the tenants' sections take in a slot. -/
def sectLen (s : State) : Nat := (List.range 4).foldl (fun n k => n + 4096 * s.rd (F.tenPressblk k)) 0

/-- The room a slot has for records. -/
def slotRoom (s : State) : Nat := 393216 - 512 - 32768 - sectLen s

/-- The records that fit in a room, from the first. -/
def fitting : Nat → List PIdx → List PIdx
  | _, [] => []
  | n, r :: l => if r.len ≤ n then r :: fitting (n - r.len) l else []

/-- The span from a checkpoint to the beat T + POST. -/
def spanFrom (l : List PIdx) (c last : Nat) : List PIdx := l.filter (fun r => c ≤ r.beat && r.beat ≤ last)

/-- The span of R403, with SHORT and TRUNC: from the latest checkpoint at or before T − PRE, or the oldest held; where it would
not fit, from the latest checkpoint at or before T, and where that does not fit, cut at the room's end. -/
def snapSpan (s : State) (t : Nat) : List PIdx × Bool × Bool :=
  let l := s.pr.idx
  let last := t + s.rd F.prsPost
  let cks := (l.filter (fun r => r.kind == 2)).map PIdx.beat
  let before (b : Nat) : Option Nat := (cks.filter (· ≤ b)).getLast?
  let (c, short) := match (if s.rd F.prsPre ≤ t then before (t - s.rd F.prsPre) else none) with
    | some c => (c, false)
    | none => (cks.headD t, true)
  let sp := spanFrom l c last
  if idxLen sp ≤ slotRoom s then (sp, short, false)
  else
    let sp1 := spanFrom l ((before t).getD t) last
    if idxLen sp1 ≤ slotRoom s then (sp1, short, false) else (fitting (slotRoom s) sp1, short, true)

/-- The bytes of a record in the ring. -/
def recBytes (s : State) (r : PIdx) : List Byte := (List.range r.len).map (fun i => s.en.orchard.read ((r.pos + i) % ringSize))

/-- The digests of the SC and QC bodies loaded. -/
def imgIds (s : State) : List (List Byte) := (List.range 2).map (fun e => ((s.en.eng.getD e {}).img.map UImage.hash).getD [])

/-- A frozen copy of each tenant's Press partition. -/
def sections (s : State) : SMap (List Byte) :=
  ((List.range 4).filter (fun k => 0 < s.rd (F.tenPressblk k))).map (fun k =>
    (k + 1, s.en.orchard.readN (tenantBase (k + 1)) (4096 * s.rd (F.tenPressblk k))))

/-- What a snapshot writes into its slot (R404), not yet VALID. -/
def snapImage (r : SnapRun) (s : State) : SnapSlot :=
  let (sp, short, trunc) := snapSpan s r.t
  let cfg := (sp.find? (fun x => x.kind == 2)).elim [] PIdx.cfg
  let beats := sp.filter (fun x => x.kind != 2)
  { short := short, trunc := trunc, cause := r.cause, t := r.t, time := r.time, start := (sp.head?.elim r.t PIdx.beat)
    beats := beats.length, trigs := r.trigs, imgs := imgIds s, cfgdig := (Config.cfgDig cfg).toNat
    cfg := cfg.foldl (fun m p => m.set p.1 p.2) (cfgRecord s).vals
    sects := sections s, recs := sp.flatMap (recBytes s), idx := beats.map (fun x => ⟨x.beat, x.kind == 15, x.res⟩) }

/-- The pages of 4 KiB that a slot's content takes. -/
def snapPages (s : State) (x : SnapSlot) : Nat := (512 + 32768 + sectLen s + x.recs.length + 4095) / 4096

/-- SNAPSHOT_COPY_START: beat T + POST has been recorded. -/
def execSnapshotCopyStart (s : State) : Res :=
  match s.pr.snap with
  | none => .next s
  | some r =>
    when (s.live && r.pages.isNone && r.t + s.rd F.prsPost < s.beatcnt && !s.stoneIsol) (fun s =>
      let x := snapImage r s
      ({ s.setSnap r.slot x with pr.snap := some { r with pages := some (snapPages s x) } } : State).wr F.prsSnapstate 2) s

/-- A snapshot abandoned (R406): its slot is left invalid and PRESS_SNAP_FAIL names it. -/
def snapAbandon (s : State) : State :=
  match s.pr.snap with
  | none => s
  | some r =>
    let s1 := ({ s.setSnap r.slot {} with pr.snap := none } : State).wr F.prsSnapstate 0
    let s2 := s1.occ .pressSnapFail 0 r.slot 2 0
    if r.cmd then s2.cmdEnd 0x20 5 else s2

/-- The section of TNj in a slot zeroed from byte `off` on (R405). -/
def SnapSlot.zeroSect (x : SnapSlot) (j off : Nat) : SnapSlot :=
  { x with sects := x.sects.map (fun p => if p.1 = j then (p.1, p.2.take off ++ (p.2.drop off).map (fun _ => 0)) else p) }

/-- TNj's sections zeroed as its Press partition is (R330, R405); one that is being copied is zeroed once the copy ends (R411). -/
def sectsZero (j off : Nat) (s : State) : State :=
  let busy := (s.pr.snap.filter (fun r => r.pages.isSome)).map SnapRun.slot
  { s with
    st.snaps := s.st.snaps.map (fun p => if busy = some p.1 then p else (p.1, p.2.zeroSect j off))
    pr.snap := s.pr.snap.map (fun r => if r.pages.isSome then { r with zero := r.zero ++ [(j, off)] } else r) }

/-- SNAPSHOT_DONE: the last page is sealed, or a page has failed to program. -/
def execSnapshotDone (ok : Bool) (s : State) : Res :=
  match s.pr.snap with
  | none => .next s
  | some r =>
    when (s.powered && r.pages == some 0) (fun s =>
      if !ok then snapAbandon s
      else
        let x := r.zero.foldl (fun x p => x.zeroSect p.1 p.2) (s.snapSlot r.slot)
        let s1 := s.setSnap r.slot { x with valid := true }
        let s2 := (({ s1 with pr.snap := none } : State).wr F.prsSnapstate 0).fire 47
        if r.cmd then s2.cmdEnd 0x20 0 else s2) s

/-- SLOTFREE: a kept slot is released; on the slot being written it is ignored (R405, R411). -/
def slotFree (i : Nat) (s : State) : State :=
  if s.pr.snap.any (fun r => r.slot == i) then s else s.setSnap i { s.snapSlot i with valid := false }

/-- SLOTFREE. -/
def execSlotfree (n : Fin 2) (s : State) : Res := when s.live (slotFree n) s

/-! ## The slow record (R407) -/

/-- The sums of a beat; at a strobe that begins a second the entry of the second that ended is formed from them. -/
def slowBeat (sec : Bool) (s : State) : State :=
  let p := s.pr
  let s1 : State := { s with
    pr.errSum := p.errSum + s.rdS F.servoErr, pr.errN := p.errN + 1
    pr.tempSum := p.tempSum + s.rdS F.servoRtemp, pr.tempN := p.tempN + 1 }
  if !sec then s1
  else
    let q := s1.pr
    let w0 := if s.mode == .replay then 6
      else s.mode.code + 8 * s.rd F.dSelref + 128 * s.rd F.dServoState + 1024 * (s.rd F.dMq / 4)
    let w1 := if s.mode == .replay then 0 else uns 16 (satSgn 16 (rdiv q.errSum (16384 * max 1 q.errN)))
    let w2 := if s.mode == .replay then 0 else uns 16 (rdiv q.tempSum (max 1 q.tempN))
    { s1 with pr.errSum := 0, pr.errN := 0, pr.tempSum := 0, pr.tempN := 0
              pr.slowDue := some (s.sec - 1, w0 * 2 ^ 32 + w1 * 2 ^ 16 + w2) }

/-- A full page into the record array, at the next of 3,802 pages. -/
def slowProgram (s : State) : State :=
  let b := bytesBE 4 (s.pr.slowSec % 2 ^ 32) ++ s.pr.slow.flatMap (bytesBE 6)
  { s with st.slowMem := s.st.slowMem.writeN (0x0C0000 + 4096 * s.st.slowPage) b, st.slowPage := (s.st.slowPage + 1) % 3802 }

/-- SLOW_RECORD_ENTRY: the entry is appended; a full page is programmed, or dropped and counted. -/
def execSlowRecordEntry (ok : Bool) (s : State) : Res :=
  match s.pr.slowDue with
  | none => .next s
  | some (t, e) =>
    when (s.live && s.qcRuns) (fun s =>
      let s1 : State := { s with
        pr.slowDue := none, pr.slow := s.pr.slow ++ [e], pr.slowSec := if s.pr.slow.isEmpty then t else s.pr.slowSec }
      if s1.pr.slow.length < 682 then s1
      else
        let s2 := if ok && !s1.stoneIsol then slowProgram s1 else s1.inc F.prsSlowdrop
        { s2 with pr.slow := [] }) s

/-! ## Replay (R408, R409) -/

/-- Entry into REPLAY: recording stops and the source is loaded. -/
def replayEnter (s : State) : State :=
  let s1 := ((((s.wr F.prsRstate 1).wr F.prsRerr 0).clr F.prsExact).wr F.prsRbeat 0).wr F.prsDivbeat 0xFFFFFFFF
  let s2 : State := { s1.wr F.prsDivcnt 0 with pr.rp := some { src := s.rd F.prsRsrc, saved := s.res }, pr.vecs := [] }
  if 2 ≤ s.rd F.prsRsrc then s2
  else { s2 with en.orchard := Mem.writeN s2.en.orchard 0 (s.snapSlot (s.rd F.prsRsrc)).recs, pr.idx := [] }

/-- The first check that fails, 0 where all pass: for a slot from what it holds, for an upload as its own checks find. -/
def replayErr (src : Nat) (u : UploadIn) (s : State) : Nat :=
  if src < 2 then
    let x := s.snapSlot src
    if !x.valid then 1 else if x.imgs != imgIds s then 2
    else if (Config.cfgDig (x.cfg.filter (fun p => (fldOfKey p.1).any Fld.eng))).toNat != x.cfgdig then 5 else 0
  else if src = 2 ∧ s.pr.upload then
    (if !u.crcOk then 1 else if !u.verOk then 4 else if !u.hashOk then 2 else if !u.cfgOk then 5 else 0)
  else 1

/-- The beats that a replay runs. -/
def replaySpan (src : Nat) (u : UploadIn) (s : State) : List RBeat :=
  if src < 2 then (s.snapSlot src).idx else u.recs.map (fun r => ⟨r.beat.toNat, r.gap, { s.res with regs := r.res }⟩)

/-- REPLAY_CHECK: the replay starts, or stops with RERR. -/
def execReplayCheck (u : UploadIn) (s : State) : Res :=
  match s.pr.rp with
  | none => .next s
  | some r =>
    when (s.live && s.mode == .replay && s.rd F.prsRstate == 1) (fun s =>
      let e := replayErr r.src u s
      if e = 0 then ({ s with pr.rp := some { r with todo := replaySpan r.src u s } } : State).wr F.prsRstate 2
      else (s.wr F.prsRstate 4).wr F.prsRerr e) s

/-- SC and QC go on from recorded results, on the scratch copy that a replay works on (R195, R409). -/
def replayTake (r : EngRes) (s : State) : State := takeRes 1 r (takeRes 0 r s)

/-- REPLAY_BEAT: one recorded beat; a gap marker ends the replay, and a mismatch of RESCRC is counted. A slot recorded under the
images and configuration just checked repeats its results (R410), so the replayed beat publishes what the recorded one did. -/
def replayBeat (diverged : Bool) (s : State) : State :=
  match s.pr.rp with
  | none => s
  | some r =>
    if s.rd F.prsRstate != 2 then s
    else match r.todo with
      | [] => s
      | ⟨_, true, _⟩ :: _ => (({ s with pr.rp := some { r with todo := [] } } : State).wr F.prsRstate 4).wr F.prsRerr 3
      | ⟨b, false, x⟩ :: l =>
        let s1 := (replayTake x { s with pr.rp := some { r with todo := l } }).inc F.prsRbeat
        if r.src = 2 ∧ diverged then
          (if s1.rd F.prsDivcnt = 0 then s1.wr F.prsDivbeat (b % 2 ^ 32) else s1).inc F.prsDivcnt
        else s1

/-- REPLAY_SPAN_END: RSTATE 3, and EXACT where nothing diverged. -/
def execReplaySpanEnd (s : State) : Res :=
  match s.pr.rp with
  | none => .next s
  | some r =>
    when (s.live && s.mode == .replay && s.rd F.prsRstate == 2 && r.todo.isEmpty)
      (fun s => (s.wr F.prsRstate 3).wrB F.prsExact (s.rd F.prsDivcnt == 0)) s

/-- A reference starts as when ENABLE is set: REF0 to REF3 from INDETERMINATE, the others from OBSERVING (R155). -/
def refRestart (n : Nat) (s : State) : State := if n < 4 then toIndeterminate n s else toObserving n s

/-- Exit from REPLAY: the live state returns, every enabled reference starts as when ENABLE is set, and the ring restarts with a gap
marker. -/
def replayExit (s : State) : State :=
  let s0 := s.pr.rp.elim s (fun r => replayTake r.saved s)
  let s1 : State := { s0 with pr.rp := none, pr.idx := [], pr.upload := false }
  let s2 := if s1.rd F.prsRstate = 1 ∨ s1.rd F.prsRstate = 2 then s1.wr F.prsRstate 0 else s1
  ringGap s.beatcnt (forN 10 (fun n s => if s.is (F.refEnable n) then refRestart n s else s) s2)

/-! ## The strobe -/

/-- Press at a strobe: the vector of the beat that ended (`beat`, `flags`), then a checkpoint where a second begins, the pages of
a snapshot and the slow record. -/
def pressStrobe (beat flags : Nat) (b : BeatIn) (sec : Bool) (s : State) : State :=
  let v : Vect := ⟨beat, flags, beatItems b.refs s, b.rescrc.toNat, s.res⟩
  let s0 := itemsTaken b.refs s
  let s1 := if pressRuns s then pressBeat v s0 else s0
  let s2 := if pressRuns s && sec then pressCheckpoint b.ckpt s1 else s1
  let s3 := match s2.pr.snap with
    | some r => if s2.stoneIsol then snapAbandon s2 else { s2 with pr.snap := some { r with pages := r.pages.map (· - 1) } }
    | none => s2
  if s3.live then slowBeat sec s3 else s3

end Sys2Proof.Machine
end

