-- ==== Sys2Proof/Machine/Orchard.lean ====
section
/-! DEFINITION. Errors found in Orchard by the scrubber and by accesses, and the commands of the engine caches and of HB (R29 to R33). -/
namespace Sys2Proof.Machine

/-! ## Errors in Orchard (R29) -/

/-- A record of the ring that holds a byte address. -/
def coversByte (r : PIdx) (a : Nat) : Bool := (a + ringSize - r.pos) % ringSize < r.len

/-- The record that holds the word becomes a gap marker. -/
def ringSpoil (a : Nat) (s : State) : State :=
  match s.pr.idx.find? (fun r => coversByte r a) with
  | none => s
  | some r =>
    let b := bytesBE 1 15 ++ bytesBE 1 0 ++ bytesBE 2 8 ++ bytesBE 4 (r.beat % 2 ^ 32)
    let s1 : State := { s with
      en.orchard := ringBytes r.pos b s.en.orchard
      pr.idx := s.pr.idx.map (fun x => if coversByte x a then { x with kind := 15, cfg := [] } else x) }
    (s1.inc F.prsGapcnt).occ .pressGap 0 0 2 0

/-- The PC's frame that holds the word is dropped from its TQ and counted on its port. -/
def frameSpoil (p k : Nat) (s : State) : State :=
  if k < (s.queue p 4).length then (s.setQueue p 4 ((s.queue p 4).eraseIdx k)).inc (F.portFlushdrop p) else s

/-- A word found in error `dt` edges after the strobe, by agent `g` or the scrubber (9): corrected, or handled by its region. -/
def eccWord (g dt : Nat) (e : EccIn) (s : State) : State :=
  let a := e.addr.toNat
  let s1 := s.wr F.fabEccaddr a
  if !e.double then (s1.inc F.fabEccce).occ .orchardCe (a / 64) (a / 64) g dt
  else
    let s2 := (s1.inc F.fabEccue).occ .orchardUe (a / 64) (a / 64) g dt
    if a < 0x100000 then ringSpoil a s2 else if a < 0x140000 then frameSpoil e.port e.slot s2 else s2

/-- ORCHARD_SCRUB: one line in the guard of each beat, with the errors found in it. -/
def scrub (l : List EccIn) (dt : Nat) (s : State) : State :=
  let n := s.rd F.fabScrubpos
  ((l.filter (fun e => e.addr.toNat / 64 == n)).foldl (fun s e => eccWord 9 dt e s) s).wr F.fabScrubpos ((n + 1) % 32768)

/-- The errors in one line that an access of agent `g` finds there; where an engine owns the line it supplies the data, and Orchard is not
read. -/
def lineEcc (g line dt : Nat) (l : List EccIn) (s : State) : State :=
  match s.en.dir.get? line with
  | some (.m _) => s
  | _ => (l.filter (fun e => e.addr.toNat / 64 == line)).foldl (fun s e => eccWord g dt e s) s

/-! ## The commands -/

/-- CACHE_GETS: a local read; a hit has no effect. -/
def execCacheGets (e : Fin 3) (line : BitVec 15) (s : State) (ecc : List EccIn := []) (dt : Dt := 0) : Res :=
  when (takesLine s line.toNat e && (s.cline e line.toNat).isNone)
    (fun s => localRead e line.toNat (lineEcc (e + 1) line.toNat dt.toNat ecc s)) s

/-- The engines of a mask. -/
def rivalsOf (m : Nat) : List Nat := (List.range 3).filter (bit m)

/-- CACHE_GETM: a local write of a 64-bit word, with the claims of `rivals` in the same cycle; in a contention the word is the one that
the winner writes. -/
def execCacheGetm (e : Fin 3) (line : BitVec 15) (idx : Fin 8) (data : BitVec 64) (rivals : BitVec 3) (s : State)
    (ecc : List EccIn := []) (dt : Dt := 0) : Res :=
  let l := line.toNat
  when ((e.val :: rivalsOf rivals.toNat ++ waitingOn s l).all (takesLine s l)) (fun s =>
    localWrite e l idx data.toNat (rivalsOf rivals.toNat) (lineEcc (e + 1) l dt.toNat ecc s)) s

/-- CACHE_EVICT. -/
def execCacheEvict (e : Fin 3) (line : BitVec 15) (s : State) : Res :=
  when (cacheUp s e && (s.cline e line.toNat).isSome) (evict e line.toNat) s

/-- OWNERSHIP_CLAIM_RETRY: the claims that wait on a line are made again after the owner's first write. -/
def execOwnershipClaimRetry (line : BitVec 15) (idx : Fin 8) (data : BitVec 64) (s : State) : Res :=
  let l := waitingOn s line.toNat
  when (!l.isEmpty && l.all (takesLine s line.toNat)) (contend line.toNat l idx data.toNat) s

/-- An engine's request for the line in HB's cycle is served first (R32). -/
def engineFirst (line : Nat) (req : Option LineReq) (s : State) : State :=
  match req with
  | none => s
  | some r =>
    if takesLine s line r.e then
      match r.word with
      | some p => localWrite r.e line p.1 p.2.toNat [] s
      | none => localRead r.e line s
    else s

/-- HB's copy of a line, the owner staying in M (R32). -/
def hbRead (l : Nat) (s : State) : State :=
  let s1 := drainLine l s
  let b := match s1.en.dir.get? l with
    | some (.m o) => ((s1.cline o l).map CLine.data).getD (orchLine s1 l)
    | _ => orchLine s1 l
  { s1 with en.hbLine := b }

/-- HB_LINE_READ. -/
def execHbLineRead (line : BitVec 15) (s : State) (req : Option LineReq := none) (ecc : List EccIn := []) (dt : Dt := 0) : Res :=
  when (s.powered && s.domOn 13)
    (fun s => hbRead line.toNat (lineEcc 0 line.toNat dt.toNat ecc (engineFirst line.toNat req s))) s

/-- HB's write (R32): the copies are recalled or invalidated, the write is merged into Orchard, and the line is left in U. -/
def hbWrite (l i w : Nat) (s : State) : State :=
  let r := recallLine l (drainLine l s)
  putLine l (lineWord r.1 i w) r.2

/-- HB_LINE_WRITE. -/
def execHbLineWrite (line : BitVec 15) (idx : Fin 8) (data : BitVec 64) (s : State) (req : Option LineReq := none)
    (ecc : List EccIn := []) (dt : Dt := 0) : Res :=
  when (s.powered && s.domOn 13)
    (fun s => hbWrite line.toNat idx data.toNat (lineEcc 0 line.toNat dt.toNat ecc (engineFirst line.toNat req s))) s

end Sys2Proof.Machine
end

