-- ==== Sys2Proof/Machine/Servo.lean ====
section
/-! DEFINITION. The servo: Grafts, the loop, the bandwidth law, slews and the jump rule (R167 to R185). -/
namespace Sys2Proof.Machine

/-! ## Constants -/

/-- STEPMAX, 5 × 10⁻⁹, and 2 ppm, in 2⁻⁴⁸ (R177). -/
def stepMax : Int := 1407374
def ppm2 : Int := 562949953

/-- 1 ns/s in 2⁻⁴⁸, times 10⁹. -/
def rateOf (nsPerSec : Nat) : Int := ndiv ((nsPerSec : Int) * 2 ^ 48) 1000000000

/-- The time that a frequency offset gains over one beat, in 2⁻¹⁶ ns. -/
def beatGain (f : Int) : Int := rdiv (f * unitsPerBeat) (2 ^ 48)

/-- ns as 2⁻¹⁶ ns. -/
def nsU (n : Nat) : Nat := n * 65536

/-! ## The input (R167) -/

/-- The class of an input: packet for REF4 to REF7 and REF10, physical otherwise. -/
def packetClass (n : Nat) : Bool := (4 ≤ n && n < 8) || n == 10

/-- The interval between samples of an input, in strobes. -/
def sampleBeats (s : State) (n : Nat) : Nat :=
  if n < 4 && paired s n then 1024
  else if 4 ≤ n && n < 8 then syncBeats s (n - 4)
  else if n < 4 && nomFreq s n < 16384 then max 1 (16384 / max 1 (nomFreq s n))
  else if n == 10 then
    (let l := s.rdS F.ensLoglep
     if 0 ≤ l then 1024 * 2 ^ min l.toNat 20 else max 1 (1024 / 2 ^ min (-l).toNat 10))
  else 1

/-- What the servo follows in a beat: nothing, a missing sample, no sample due, or a sample in 2⁻¹⁶ ns. -/
inductive SIn where
  | nothing | missing | notDue
  | sample (x : Int)
deriving DecidableEq, Repr

/-- The mode follows a reference or the peers: TRACK, ENSEMBLE, or DORMANT inside a wake window (R167). -/
def follows (s : State) : Bool :=
  s.mode == .track || s.mode == .ensemble || (s.mode == .dormant && s.is F.dWake)

/-- What the servo follows: SELREF, and in a wake window that has no reference its peers, where two or more count (R167). -/
def inputRef (s : State) : Nat :=
  if s.mode == .dormant && s.is F.dWake && !selHeld s then (if 2 ≤ s.rd F.ensCount then 10 else 11) else s.rd F.dSelref

/-- The input of the servo in this beat (R167, R158 rule 3, R180, R306). -/
def servoIn (s : State) : SIn :=
  let n := inputRef s
  if !follows s then .nothing
  else if n == 10 then
    match s.sv.ensSamp with
    | some c => .sample c
    | none => if 3 * sampleBeats s 10 < 2 * s.sv.ensAge then .missing else .notDue
  else if 10 < n then .nothing
  else
    let r := s.ref n
    if s.refState n != 3 || s.is (F.refStale n) then .missing
    else if timeRef s n then
      (if 0 < s.sv.exRun.getD n 0 || (4 ≤ n && 3 * syncBeats s (n - 4) < 2 * r.noSample) then .missing
       else if r.fresh then .sample (if n < 4 then refOffset s n else r.samp.getD 0) else .notDue)
    else match r.samp with
      | some x => .sample x
      | none => if nomFreq s n < 16384 then .notDue else .missing

/-! ## Bandwidth (R175, R176) -/

/-- The upper limit of the bandwidth in 0.01 mHz: the class's, and one twentieth of the sample rate. -/
def bwHi (s : State) (n : Nat) : Nat :=
  min (if packetClass n then 10000 else 200000) (max 100 (5000 * 1024 / sampleBeats s n))

/-- N of the bandwidth law, in 0.25 ns. -/
def bwNoise (s : State) (n : Nat) : Nat := if n == 10 then s.rd F.ensCnoise else s.rd (F.refNoise n)

/-- The target: BWK / N in 0.01 mHz, clamped; the upper limit where N is 0. -/
def bwTarget (s : State) (n : Nat) : Nat :=
  let k := if packetClass n then s.rd F.servoBwkpkt else s.rd F.servoBwkphys
  if bwNoise s n = 0 then bwHi s n else clampNat 100 (bwHi s n) (rdiv (k * 400 : Nat) (bwNoise s n)).toNat

/-- BWCUR moved toward a target by at most a factor of 2^(1/8) = 1.0905077326652577. -/
def bwMove (cur tgt : Nat) : Nat :=
  if cur ≤ tgt then min tgt (rdiv (cur * 10905077326652577 : Nat) 10000000000000000).toNat
  else max tgt (rdiv (cur * 10000000000000000 : Nat) 10905077326652577).toNat

/-- The working bandwidth after an update: BWMAN, held, or moved (R175, R176). -/
def bwNext (s : State) (n : Nat) : Nat :=
  if s.is F.servoBwmanual then clampNat 100 (bwHi s n) (s.rd F.servoBwman * 100)
  else if s.is F.servoBwfrz then s.rd F.servoBwcur
  else bwMove (s.rd F.servoBwcur) (bwTarget s n)

/-- BANDWIDTH_UPDATE's effect. -/
def bwUpdate (n : Nat) (s : State) : State :=
  let s1 := ((s.wr F.servoNin (bwNoise s n)).wr F.servoBwtgt (bwTarget s n)).wr F.servoBwcur (bwNext s n)
  { s1 with sv.bwBeats := 0 }

/-- SC forms servo results of its own: in REPLAY they are the record's (R157, R167). -/
def servoRuns (s : State) : Bool := s.live && s.scRuns && s.mode != .replay

/-- BANDWIDTH_UPDATE: every 64 beats (R175). -/
def execBandwidthUpdate (s : State) : Res :=
  match s.sv.input with
  | none => .next s
  | some n => when (servoRuns s && 64 ≤ s.sv.bwBeats) (bwUpdate n) s

/-- BWMAN taken as the working bandwidth while BWMANUAL is set, within the limits of the input in use, or of the physical class where
there is none (R176). -/
def bwManual (s : State) : State :=
  if s.is F.servoBwmanual then
    s.wr F.servoBwcur (clampNat 100 (s.sv.input.elim 200000 (bwHi s)) (s.rd F.servoBwman * 100))
  else s

/-- ACQUIRE starts at the highest bandwidth, unless it is frozen or manual (R173, R176). -/
def acquireBw (n : Nat) (s : State) : State :=
  if s.is F.servoBwfrz || s.is F.servoBwmanual then s else s.wr F.servoBwcur (bwHi s n)

/-! ## The loop (R172) -/

/-- SERVOSTAT STATE taken, with CHG where it changes (R132). -/
def putServo (st : Nat) (s : State) : State :=
  if s.rd F.dServoState = st then s else (s.wr F.dServoState st).set1 F.dServoChg

/-- 2π × 10¹⁴, rounded. -/
def twoPi : Nat := 628318530717959

/-- kp × err / T in 2⁻⁴⁸ for a bandwidth in 0.01 mHz and an error in 2⁻¹⁶ ns: 2 × 0.707 × ωn × err, ωn = 2πB / 2.06. -/
def propTerm (bw : Nat) (err : Int) : Int :=
  rdiv (err * (bw * 1414 * twoPi * 100 * 2 ^ 32 : Nat)) (206 * 1000 * 10 ^ 14 * 10 ^ 5 * 10 ^ 9)

/-- ki × err / T in 2⁻⁸⁰: ωn² × T × err, with T in strobes. -/
def integTerm (bw beats : Nat) (err : Int) : Int :=
  rdiv (err * (bw * bw * twoPi * twoPi * 10000 * beats * 2 ^ 64 : Nat)) (206 * 206 * 10 ^ 28 * 10 ^ 10 * 10 ^ 9 * 1024)

/-- The phase of a sample with the cycles it has run through since the last one, and a phase hit built out (R170). -/
def phaseHit (n : Nat) (x : Int) (s : State) : State :=
  let p := nomPeriod s n
  match s.sv.raw with
  | none =>
    let b := s.rdS F.servoBuildout
    { s with sv.raw := some x, sv.phase := b + wrapPhase (x - b) p }
  | some y =>
    let d := wrapPhase (x - y) p
    let s1 : State := { s with sv.raw := some x, sv.phase := s.sv.phase + d }
    if 16384 * s.rd F.servoPhit < d.natAbs then
      (let b := s1.rdS F.servoBuildout + d
       ({ s1 with sv.builds := s1.sv.builds.set n b } : State).wrSat F.servoBuildout b).inc F.servoPhitcnt
    else s1

/-- The phase that err is taken from: a frequency reference's unwrapped phase minus its build-out, or an offset. -/
def takeSample (n : Nat) (x : Int) (s : State) : State :=
  if n == 10 || timeRef s n then { s with sv.raw := some x, sv.phase := x }
  else phaseHit n x s

/-- The lock counters after an error (R173). -/
def lockCount (n : Nat) (err : Int) (s : State) : State :=
  let thr := 16384 * (if packetClass n then s.rd F.servoLockpkt else s.rd F.servoLockphys)
  { s with
    sv.lockRun := if err.natAbs < thr then s.sv.lockRun + 1 else 0
    sv.unlockRun := if 4 * thr < err.natAbs then s.sv.unlockRun + 1 else 0 }

/-- fcorr clamped so that fcorr + fslew stays within 2 ppm; STEPLIM where the clamp acts (R172, R177). -/
def clampCorr (fcorr : Int) (s : State) : State :=
  let fslew := s.rdS F.servoFslew
  let tot := clampInt (-ppm2) ppm2 (fcorr + fslew)
  ((s.wrSat F.servoFcorr (tot - fslew)).wrB F.dSteplim (tot != fcorr + fslew))

/-- The update on a good sample (R172). -/
def loopUpdate (n : Nat) (x : Int) (s : State) : State :=
  let s1 := takeSample n x s
  let err := s1.sv.phase - (if n == 10 || timeRef s n then 0 else s1.rdS F.servoBuildout) - s1.rdS F.servoSlewrem
  let bw := s1.rd F.servoBwcur
  let s2 : State := { s1 with sv.integ := s1.sv.integ + integTerm bw (sampleBeats s n) err, sv.updated := true }
  let s3 := clampCorr (rdiv s2.sv.integ (2 ^ 32) + propTerm bw err) (s2.wrSat F.servoErr err)
  let s4 := lockCount n err s3
  putServo (if n == 10 then 3 else if s4.sv.locked then 2 else 1) s4

/-- The loop starts on an input: from MODEL or HALT the integrator is 0 and ACQUIRE begins (R172, R173). -/
def startInput (n : Nat) (s : State) : State :=
  if s.sv.input = some n then s
  else
    let fromModel := s.rd F.dServoState == 0 || s.rd F.dServoState == 5
    acquireBw n { s with
      sv.input := some n, sv.raw := none, sv.locked := false, sv.lockRun := 0, sv.unlockRun := 0
      sv.integ := if fromModel then 0 else s.sv.integ }

/-- A build-out Graft has had its first update (R169). -/
def graftUpdated (s : State) : State :=
  match s.sv.graft with
  | some (.build _) => { s with sv.graft := some (.build true) }
  | _ => s

/-- The first sample of a reference without 16 common beats is its build-out (R169). -/
def firstBuildOut (n : Nat) (x : Int) (s : State) : State :=
  if timeRef s n || n == 10 || (s.sv.builds.get? n).isSome then s
  else
    let s1 : State := { s with sv.builds := s.sv.builds.set n x }
    s1.wrSat F.servoBuildout x

/-- The servo's state and correction for its input (R172). -/
def servoLoop (s : State) : State :=
  let n := inputRef s
  match servoIn s with
  | .nothing =>
    let s1 := if s.rd F.dServoState != 0 then biasCapture s else s
    ((putServo 0 { s1 with sv.input := none, sv.integ := 0, sv.locked := false }).wr F.servoFcorr 0).clr F.dSteplim
  | .missing => putServo 4 { startInput n s with sv.updated := false }
  | .notDue =>
    let s1 := startInput n s
    if s1.rd F.dServoState = 0 ∨ s1.rd F.dServoState = 5 then putServo (if n == 10 then 3 else 1) s1 else s1
  | .sample x => graftUpdated (loopUpdate n x (firstBuildOut n x (startInput n s)))

/-- fword: fmodel + fcorr + fslew, moved by at most STEPMAX in a beat (R172, R177). -/
def putWord (s : State) : State :=
  let fm := modelPredict s
  let tgt := fm + s.rdS F.servoFcorr + s.rdS F.servoFslew
  let cur := s.rdS F.servoFword
  (s.wrSat F.servoFmodel fm).wrSat F.servoFword (cur + clampInt (-stepMax) stepMax (tgt - cur))

/-! ## Slews (R178, R179) -/

/-- The time worked off while a rate ramps down to 0 by STEPMAX in a beat. -/
def rampGain (f : Int) : Int :=
  let k := f / stepMax
  beatGain (k * f - stepMax * (k * (k + 1) / 2))

/-- The next magnitude of fslew for a magnitude `f`, a rate and a remaining slew `r`: the greatest of one step toward the rate, the
same and one step down that still lets the rate reach 0 as the slew does; a last short beat works off what is left. -/
def slewNext (f rate r : Int) : Int :=
  let up := max (f - stepMax) (min rate (f + stepMax))
  let dn := max 0 (f - stepMax)
  if r ≤ beatGain (min rate stepMax) ∧ f ≤ stepMax then rdiv (r * 2 ^ 48) unitsPerBeat
  else if beatGain up + rampGain up ≤ r then up
  else if f ≤ rate ∧ beatGain f + rampGain f ≤ r then f
  else max dn (min rate stepMax)

/-- fslew kept where fcorr + fslew stays within 2 ppm (R177). -/
def fitSlew (s : State) (fs : Int) : Int := clampInt (-ppm2 - s.rdS F.servoFcorr) (ppm2 - s.rdS F.servoFcorr) fs

/-- fslew taken, and SLEWREM falls by what it gains over the beat; a gain that takes up all that is left ends it (R178). -/
def putSlew (fs : Int) (s : State) : State :=
  let rem := s.rdS F.servoSlewrem
  let g := beatGain fs
  let past := decide ((0 < rem ∧ rem ≤ g) ∨ (rem < 0 ∧ g ≤ rem))
  (s.wrS F.servoFslew fs).wrS F.servoSlewrem (if past then 0 else rem - g)

/-- One beat of a slew. A rate left by a slew that was discarded runs down first (R178, R184). -/
def slewBeat (s : State) : State :=
  let rem := s.rdS F.servoSlewrem
  let fs := s.rdS F.servoFslew
  let sg : Int := if rem < 0 then -1 else 1
  let f := sg * fs
  let rate := min (rateOf (if s.sv.jslew then s.rd F.servoJslew else s.rd F.servoSlewlim)) ppm2
  if rem = 0 then s.wrS F.servoFslew (fitSlew s (fs - clampInt (-stepMax) stepMax fs))
  else if f < 0 then putSlew (fitSlew s (fs + sg * stepMax)) s
  else putSlew (fitSlew s (sg * slewNext f rate rem.natAbs)) s

/-- Slews are held in PROVISION and SAFE, with fslew at 0 (R179). -/
def slewStep (s : State) : State :=
  if s.mode == .provision || s.mode == .safe then s.wr F.servoFslew 0 else slewBeat s

/-- A slew of an amount starts, at JSLEW or at SLEWLIM (R178). -/
def startSlew (x : Int) (jump : Bool) (s : State) : State :=
  ({ s.wrSat F.servoSlewrem x with sv.jslew := jump } : State).set1 F.dSlewing

/-- A slew in progress is discarded (R183, R184). -/
def dropSlew (s : State) : State := s.wr F.servoSlewrem 0

/-- SLEW_END: SLEWREM and fslew have reached 0 (R178). A lifted offset is worked off with it, and a later Graft is compared again (R171). -/
def execSlewEnd (s : State) : Res :=
  when (s.powered && s.is F.dSlewing && s.rd F.servoSlewrem == 0 && s.rd F.servoFslew == 0)
    (fun s => ({ s with sv.jslew := false, sv.lifted := 0 } : State).clr F.dSlewing) s

/-! ## The servo at a strobe -/

/-- HALT: SAFE, or SC stopped; synthesiser B keeps its last word (R167). -/
def servoHalts (s : State) : Bool := s.mode == .safe || !s.scRuns

/-- SERVO_UPDATE (R172): the loop, the word and the slew; in BOOT the model alone steers (R83), in SAFE a slew is held with fslew at 0
(R179), and in REPLAY the servo's results are those of the record (R167). -/
def servoStrobe (s : State) : State :=
  let s0 : State := { s with sv.updated := false, sv.ensAge := s.sv.ensAge + 1 }
  if s.mode == .replay then s0
  else if s.mode == .boot then (if s.scRuns then putWord s0 else s0)
  else if servoHalts s0 then
    (let s1 := (putServo 5 { s0 with sv.input := none, sv.clampRun := 0 }).wrB F.dServoStale false
     if s1.mode == .safe && s1.scRuns then s1.wr F.servoFslew 0 else s1)
  else
    let s1 := s0.wrB F.dServoStale (s0.rd F.dSelref < 10 && follows s0 && s0.is (F.refStale (s0.rd F.dSelref)))
    let s2 := slewStep (putWord (servoLoop (bwManual s1)))
    let s3 : State := { s2 with
      sv.clampRun := if s2.is F.dSteplim then s2.sv.clampRun + 1 else 0
      sv.bwBeats := s2.sv.bwBeats + 1
      sv.ensSamp := none
      sv.ensAge := if s0.sv.ensSamp.isSome then 0 else s2.sv.ensAge }
    if s2.is F.dSteplim then s3 else s3.liveClr .servoLimit 0

/-- SERVO_LOCK: 64 consecutive samples below the threshold (R173). -/
def execServoLock (s : State) : Res :=
  when (servoRuns s && s.rd F.dServoState == 1 && 64 ≤ s.sv.lockRun)
    (fun s => putServo 2 { s with sv.locked := true, sv.unlockRun := 0 }) s

/-- SERVO_UNLOCK: 16 consecutive samples above four times the threshold (R173). -/
def execServoUnlock (s : State) : Res :=
  when (servoRuns s && s.rd F.dServoState == 2 && 16 ≤ s.sv.unlockRun)
    (fun s => acquireBw (inputRef s) (putServo 1 { s with sv.locked := false, sv.lockRun := 0 })) s

/-- SERVO_LIMIT: the clamp has acted for 1,024 consecutive beats (R177). -/
def execServoLimit (s : State) : Res :=
  when (servoRuns s && 1024 ≤ s.sv.clampRun) (fun s => s.liveSet .servoLimit 0 0 1 0) s

/-! ## Graft (R168 to R171, R184) -/

/-- GW: the smaller of GWIN and THRESH, in ns. -/
def graftWindow (s : State) : Nat := min (s.rd F.servoGwin) (s.rd F.dThresh)

/-- Common beats of the selected reference and each frequency reference; those of a reference that is lost count no more (R169). -/
def commonBeat (s0 : State) : State :=
  let sel := s0.rd F.dSelref
  let s : State := { s0 with sv.common := if s0.refHeld sel then s0.sv.common.filter (fun p => s0.refHeld p.1) else [] }
  if !s.refQual sel || (4 ≤ sel && sel < 8 && !(s.ref sel).fresh) then s
  else match (s.ref sel).samp with
    | none => s
    | some o =>
      let old := o - (if timeRef s sel then 0 else s.rdS F.servoBuildout)
      forN 10 (fun n s =>
        if n == sel || timeRef s n || s.refState n != 3 then s
        else match (s.ref n).samp with
          | none => s
          | some x =>
            let l := (wrapPhase (x - old) (nomPeriod s n) :: s.sv.common.getD n []).take 16
            { s with sv.common := s.sv.common.set n l }) s

/-- A Graft in progress ends uncompleted: build-out values stand, tally 6 does not count it, and it is no ground any more for the move
that it began (R77, R184). -/
def graftCut (s : State) : State :=
  if s.is F.dGrafting then
    { (((s.inc F.servoAbandcnt).clr F.dGrafting).wr F.dGraftref 15).wr F.servoGstate 0 with sv.graft := none, md.requalified := false }
  else s

/-- GRAFT_ABANDON (R184): selection changed, and SLEWREM is discarded with the Graft. -/
def graftDrop (s : State) : State := if s.is F.dGrafting then dropSlew (graftCut s) else s

/-- A Graft dropped, so that a GRAFT_NOW that waits for it has not achieved its result (R125). -/
def graftAbandon (s : State) : State := if s.is F.dGrafting then (graftDrop s).cmdEnd 0x30 5 else s

/-- A Graft that a change of mode ends: its slew goes on or is held as the mode has it (R179). -/
def graftLeave (s : State) : State := if s.is F.dGrafting then (graftCut s).cmdEnd 0x30 5 else s

/-- SELREF takes a reference: a change sets CHG and fires REFCHG (R129, R313), and BUILDOUT is the new reference's, 0 where it has none
(R185). -/
def selTo (n : Nat) (s : State) : State :=
  if s.rd F.dSelref = n then s
  else (((s.wr F.dSelref n).set1 F.dRefChg).fire 37).wrSat F.servoBuildout
    (if n < 10 && !timeRef s n then s.sv.builds.getD n 0 else 0)

/-- A Graft begins: SELREF, GRAFTREF and GRAFTING (R168); selection goes on from the new SELREF. -/
def graftBegin (n : Nat) (g : Graft) (gstate : Nat) (s : State) : State :=
  let s1 := (((selTo n s).wr F.dGraftref n).set1 F.dGrafting).wr F.servoGstate gstate
  { s1.wrB F.servoGtime (timeRef s n) with
    sv.graft := some g, sv.common := [], sv.raw := none, md.requalified := true, rf.choice := n, rf.shown := n }

/-- A Graft onto a frequency reference: the mean of 16 common beats, or the first sample (R169). -/
def graftFreq (n : Nat) (s : State) : State :=
  let l := s.sv.common.getD n []
  let s1 := graftBegin n (.build false) 1 s
  if l.length = 16 then
    let b := wrapPhase (rdiv (sumInt l) 16) (nomPeriod s n)
    ({ s1 with sv.builds := s1.sv.builds.set n b } : State).wrSat F.servoBuildout b
  else { s1.wr F.servoBuildout 0 with sv.builds := s1.sv.builds.del n }

/-- A Graft onto a time reference (R171): its offset against GW and THRESH. -/
def graftTime (n : Nat) (s : State) : State :=
  let d := refOffset s n
  if s.untraced then graftBegin n .slew 2 s
  else if bit s.sv.lifted n then
    graftBegin n (if s.tm.pend.isSome || s.tm.long then .step else .slew) 2 { s with sv.lifted := setBit s.sv.lifted n false }
  else if nsU (s.rd F.dThresh) < d.natAbs then ((s.wr F.servoGstate 3).set1 F.servoGtime).cmdEnd 0x30 5
  else
    let s1 := startSlew d false (graftBegin n .slew 2 s)
    if nsU (graftWindow s) < d.natAbs then s1.occ .graftWide n n 1 0 else s1

/-- A mode in which a Graft can start: TRACK, HOLDOVER without a Hold, ENSEMBLE, or DORMANT inside a window (R77, R167). -/
def graftMode (s : State) : Bool :=
  s.mode == .track || (s.mode == .holdover && !s.is F.sysHoldreq) || s.mode == .ensemble ||
  (s.mode == .dormant && s.is F.dWake)

/-- The reference onto which a Graft may start: the one that selection has published, or at once one whose refusal was lifted at this
strobe (R158, R168, R183, log 98: DEDUCED). -/
def graftTarget (s : State) : Nat := if bit s.sv.lifted s.rf.choice then s.rf.choice else s.rf.shown

/-- GRAFT_START: selection has published another reference than SELREF (R168). A refused target waits for the jump rule, and a refusal
due at this strobe goes before the Graft (R184). -/
def execGraftStart (s : State) : Res :=
  let n := graftTarget s
  when (servoRuns s && graftMode s && n < 10 && n != s.rd F.dSelref && s.refQual n && s.sv.exRun.getD n 0 < 4 &&
      (!timeRef s n || hasOffset s n || s.untraced || bit s.sv.lifted n))
    (fun s => (if timeRef s n then graftTime n else graftFreq n) (graftAbandon s)) s

/-- A Graft has done what it started: its first update, the end of its slew, or its step (R169, R171). -/
def graftDone (s : State) : Bool :=
  match s.sv.graft with
  | none => false
  | some (.build u) => u
  | some .slew => s.rd F.servoSlewrem == 0 && s.rd F.servoFslew == 0
  | some .step => s.tm.pend.isNone

/-- GRAFT_COMPLETE (R168): GRAFTREF returns to 0xF, tally 6 and GRAFTCNT count it, and GRAFT_NOW ends. -/
def graftComplete (s : State) : State :=
  let s1 := (((s.wr F.dGraftref 15).clr F.dGrafting).wr F.servoGstate 0).inc F.servoGraftcnt
  ((({ s1 with sv.graft := none } : State).tally 6).fire 38).cmdEnd 0x30 0

/-- GRAFT_COMPLETE. -/
def execGraftComplete (s : State) : Res := when (servoRuns s && graftDone s) graftComplete s

/-! ## The jump rule (R180 to R183) -/

/-- The residual of a time reference: its offset, minus SLEWREM where it is SELREF (R180). -/
def residual (s : State) (n : Nat) : Int := refOffset s n - (if n = s.rd F.dSelref then s.rdS F.servoSlewrem else 0)

/-- JOFFSEC and JOFFNS of an offset (R181, R185). -/
def putJoff (d : Int) (s : State) : State :=
  (s.wrSat F.servoJoffsec (tdiv d unitsPerSec)).wrS F.servoJoffns (tdiv (d - tdiv d unitsPerSec * unitsPerSec) 65536)

/-- A reference turned SUSPECT at this strobe by a violation: the row of the jump rule goes before that one (R155). -/
def suspectNow (s : State) (n : Nat) : Bool := s.refState n == 4 && !(s.ref n).jump && (s.ref n).since4 == some s.beatcnt

/-- Excess samples of every QUALIFIED time reference in a beat, and the offset of JREF refreshed (R180, R181). -/
def jumpBeat (s0 : State) : State :=
  let s : State := { s0 with sv.jrefWas := if s0.is F.dJumpPend then some (s0.rd F.dJref) else none }
  forN 8 (fun n s =>
    if !timeRef s n || !(s.ref n).fresh || !hasOffset s n then s
    else
      let d := residual s n
      let neg := decide (d < 0)
      let s1 := if s.bitOf F.servoJrefmask n then
          (let t : State := { s with sv.joff := s.sv.joff.set n (refOffset s n) }
           if s.rd F.dJref = n then putJoff (refOffset s n) t else t)
        else s
      if !(s.refState n == 3 || suspectNow s n) || s.untraced || d.natAbs ≤ nsU (s.rd F.dThresh) then
        { s1 with sv.exRun := s1.sv.exRun.set n 0 }
      else
        let run := s1.sv.exRun.getD n 0
        { s1 with
          sv.exRun := s1.sv.exRun.set n (if 0 < run ∧ bit s1.sv.exNeg n = neg then run + 1 else 1)
          sv.exNeg := setBit s1.sv.exNeg n neg }) s

/-- JUMPSTAT of a refusal (R134, R181). -/
def putJump (n : Nat) (d : Int) (s : State) : State :=
  let s1 := ((s.wr F.dJref n).wrB F.dJumpNeg (d < 0)).wr F.dJumpMag (min 127 (d.natAbs / 65536 / 256))
  putJoff d (s1.set1 F.dJumpPend)

/-- The refusal of a reference ends and it returns to QUALIFIED (R155). -/
def refuseEnd (n : Nat) (s : State) : State :=
  let s1 := if s.refState n = 4 then s.toState n 3 else s
  let s2 := if (s1.ref n).jump || s1.bitOf F.servoJrefmask n then s1.jumpClear n else s1
  refSelection { s2 with sv.exRun := s2.sv.exRun.set n 0 }

/-- The refusal of a reference is lifted, by confirmation or ACCEPT_JUMP: a Graft onto it is not compared again (R171). -/
def jumpLift (n : Nat) (s : State) : State :=
  let s1 := refuseEnd n s
  if n = s.rd F.dSelref then s1 else { s1 with sv.lifted := setBit s1.sv.lifted n true }

/-- The reference refused at this strobe whose offset agrees with `d` within GW (R182). -/
def confirmer (s : State) (n : Nat) (d : Int) : Option Nat :=
  (List.range 8).find? (fun m => m != n && s.bitOf F.servoJrefmask m && s.sv.jbeat.getD m 0 == s.beatcnt + 1 &&
    (s.sv.joff.getD m 0 - d).natAbs ≤ nsU (graftWindow s))

/-- JUMP_CONFIRMED (R182): both are lifted and the common offset, the mean of the two, is slewed at JSLEW. -/
def jumpConfirm (n m : Nat) (d : Int) (s0 : State) : State :=
  let s : State := { s0 with sv.confirmed := some (s0.beatcnt, n, m, s0.rd F.dJumpConf, s0.rd F.servoConfref) }
  let s1 := jumpLift m (jumpLift n s)
  startSlew (rdiv (d + s.sv.joff.getD m 0) 2) true ((s1.set1 F.dJumpConf).wr F.servoConfref n)

/-- With AUTOCONF set a refusal meets another of its strobe (R182). -/
def jumpMeet (n : Nat) (d : Int) (s : State) : State :=
  if s.is F.dAutoconf then
    match confirmer s n d with
    | some m => jumpConfirm n m d s
    | none => s
  else s

/-- A refused reference evaluated again after a jump of `d`: lifted where what is left lies within THRESH, else it takes JREF (R183). -/
def jumpAgain (d : Int) (m : Nat) (s : State) : State :=
  let x := s.sv.joff.getD m 0 - d
  if x.natAbs ≤ nsU (s.rd F.dThresh) then refuseEnd m s
  else putJump m x { s with sv.joff := s.sv.joff.set m x }

/-- JUMP_REFUSED's effect (R181); the samples of the jumped reference start anew. After an ACCEPT_JUMP of the same strobe it is evaluated
against the jump applied (R184). -/
def jumpRefuse (n : Nat) (s : State) : State :=
  let d := refOffset s n
  let s1 := (s.toState n 4).wr (F.refReason n) 7
  let r := s1.ref n
  let s2 := s1.setRef n { r with jump := true, samples := (r.held ++ r.samples).take 1, held := [] }
  let s3 := putJump n d (s2.wrBit F.servoJrefmask n true)
  let s4 := if 4 ≤ n then s3.inc (F.ptpJumpref (n - 4)) else s3
  let s5 := ((s4.tally 9).occ .jumpRefused n n 1 0).fire 39
  let s6 := if s.rf.shown = n && n != s.rd F.dSelref then (s5.wr F.servoGstate 3).cmdEnd 0x30 5 else s5
  let s7 : State := { s6 with
    sv.joff := s6.sv.joff.set n d, sv.jbeat := s6.sv.jbeat.set n (s.beatcnt + 1), sv.exRun := s6.sv.exRun.set n 0 }
  let s8 := refSelection s7
  match s8.sv.accepted with
  | some (b, a) => if b = s.beatcnt then jumpAgain a n s8 else jumpMeet n d s8
  | none => jumpMeet n d s8

/-- JUMP_REFUSED: four consecutive excess samples of one sign (R180). -/
def execJumpRefused (n : Fin 10) (s : State) : Res :=
  when (servoRuns s && timeRef s n && (s.refState n == 3 || suspectNow s n) && 4 ≤ s.sv.exRun.getD n 0) (jumpRefuse n) s

/-- The other references of JREFMASK after a jump of `d` has been applied (R183). -/
def jumpReeval (d : Int) (s : State) : State :=
  forN 8 (fun m s => if s.bitOf F.servoJrefmask m then jumpAgain d m s else s) s

/-- A confirmation of this strobe (R184). -/
def confirmedNow (s : State) : Bool := s.sv.confirmed.any (fun c => c.1 == s.beatcnt)

/-- JREF as ACCEPT_JUMP takes it: as it was before this strobe, where a refusal was pending then (R184). -/
def acceptRef (s : State) : Nat := (s.sv.jrefWas.filter (fun n => s.bitOf F.servoJrefmask n || confirmedNow s)).getD (s.rd F.dJref)

/-- ACCEPT_JUMP governs a confirmation of the same refusal at its strobe: CONF and CONFREF are as they were (R184). -/
def unconfirm (n : Nat) (s : State) : State :=
  match s.sv.confirmed with
  | some (b, x, y, c, r) =>
    if b = s.beatcnt ∧ (n = x ∨ n = y) then ({ s with sv.confirmed := none } : State).wr F.dJumpConf c |>.wr F.servoConfref r else s
  | none => s

/-- The offset of JREF in whole nanoseconds, as JOFFSEC and JOFFNS hold it (R183). -/
def joffOf (d : Int) : Int := tdiv d 65536 * 65536

/-- ACCEPT_JUMP (R183): JREF's offset is applied as a slew at JSLEW, or as a step at the next beat boundary. -/
def acceptJump (step : Bool) (s : State) : State :=
  let n := acceptRef s
  let d := if n = s.rd F.dJref then s.rdS F.servoJoffsec * unitsPerSec + s.rdS F.servoJoffns * 65536
    else joffOf (s.sv.joff.getD n 0)
  let s1 := jumpLift n (dropSlew (graftAbandon (unconfirm n s)))
  let s2 := ({ s1 with sv.accepted := some (s.beatcnt, d) } : State).set1 F.dJumpAcc
  let s3 := if step then ((s2.decideStep d .jump).set1 F.dJumpStepped).inc F.servoStepcnt else startSlew d true s2
  jumpReeval d s3

/-- The samples of time references have been used. -/
def freshClear (s : State) : State :=
  forN 8 (fun n s => if (s.ref n).fresh then s.setRef n { s.ref n with fresh := false } else s) s

/-- The references and the servo at a strobe, in the order of R172: common beats, the jump rule, then the loop. -/
def steerStrobe (s : State) : State :=
  if s.live && s.mode != .replay then freshClear (servoStrobe (jumpBeat (commonBeat s))) else servoStrobe s

end Sys2Proof.Machine
end

