-- ==== Sys2Proof/Machine/Ptp.lean ====
section
/-! DEFINITION. The precision time protocol on P0 to P3, transparent-clock correction, the packet budget and ESMC (R267 to
R290). -/
namespace Sys2Proof.Machine

/-! ## Ports and roles (R270, R271) -/

/-- The record of a PTP port. -/
def State.ptp (s : State) (n : Nat) : PtpPort := s.pt.ports.getD n {}
def State.setPtp (s : State) (n : Nat) (p : PtpPort) : State := { s with pt.ports := s.pt.ports.set n p }

/-- CLKTYPE. -/
def clkType (s : State) : Nat := s.rd F.ptpClktype

/-- The lowest-numbered port with PTPEN set. -/
def firstPtp (s : State) : Option Nat := (List.range 4).find? (fun n => s.is (F.ptpEn n))

/-- The port is run: an OC runs its lowest-numbered enabled port only (R270). -/
def ptpRole (s : State) (n : Nat) : Bool :=
  s.is (F.ptpEn n) && clkType s != 0 && clkType s < 5 && (clkType s != 1 || firstPtp s == some n)

/-- The port takes and sends messages: run, its link up, the packet core running. -/
def ptpUp (s : State) (n : Nat) : Bool := ptpRole s n && s.is (F.portLink n) && s.pcRuns && s.live

/-- The port hears messages: they reach the packet core, or are dropped while it is stopped for a reload (R37). -/
def ptpHears (s : State) (n : Nat) : Bool := ptpRole s n && s.is (F.portLink n) && (s.pcRuns || s.pcStops) && s.live

/-- PSTATE of a port. -/
def pstate (s : State) (n : Nat) : Nat := s.rd (F.ptpPstate n)

/-- SLAVE or UNCALIBRATED. -/
def following (s : State) (n : Nat) : Bool := pstate s n == 8 || pstate s n == 9

/-- A message of the unit's own domain on a port that terminates it (R270). -/
def ptpMine (s : State) (n : Nat) (m : PtpMsg) : Bool := ptpHears s n && m.domain.toNat == s.rd F.ptpDomain

/-- A bit of PTPIRQSTAT (R290). -/
def ptpIrq (n i : Nat) (s : State) : State := s.wrBit (F.ptpIrqstat n) i true

/-- The modes in which a MASTER port sends: those in which outputs run, in DORMANT inside a window (R88, R273). -/
def ptpSends (s : State) : Bool := s.mode.runs && (s.mode != .dormant || s.is F.dWake)

/-! ## The budget (R280, R281) -/

/-- The reserve of a class, for event or for general messages. -/
def reserve (s : State) (event : Bool) (cls : Nat) : Nat :=
  match event, cls with
  | true, 1 => s.rd F.ptpRsv1e
  | true, 2 => s.rd F.ptpRsv2e
  | true, 3 => s.rd F.ptpRsv3e
  | false, 1 => s.rd F.ptpRsv1g
  | false, 2 => s.rd F.ptpRsv2g
  | _, _ => 0

/-- What is left of a reserve in this beat. -/
def holdOf (s : State) (event : Bool) (cls : Nat) : Nat :=
  reserve s event cls - s.pt.used.getD (cls + if event then 0 else 8) 0

/-- The ports with PTPEN set, at least 1. -/
def ptpCount (s : State) : Nat := max 1 ((List.range 4).filter (fun n => s.is (F.ptpEn n))).length

/-- R281 admits a message of a class on a port. -/
def admits (s : State) (event : Bool) (cls n : Nat) : Bool :=
  let budget := if event then 64 else 32
  let adm := if event then s.pt.admE else s.pt.admG
  match cls with
  | 1 => adm < budget
  | 2 => adm + holdOf s event 1 < budget
  | 3 => adm + holdOf s event 1 + holdOf s event 2 < budget &&
      s.pt.used3.getD n 0 < (budget - reserve s event 1 - reserve s event 2) / ptpCount s
  | _ => adm + holdOf s event 1 + holdOf s event 2 + holdOf s event 3 < budget

/-- An admitted message counted, or a drop (R281, R282, R290). -/
def ptpCountMsg (event : Bool) (cls n : Nat) (s : State) : State :=
  if admits s event cls n then
    let k := cls + if event then 0 else 8
    { s with
      pt.admE := if event then s.pt.admE + 1 else s.pt.admE
      pt.admG := if event then s.pt.admG else s.pt.admG + 1
      pt.used := s.pt.used.set k (s.pt.used.getD k 0 + 1)
      pt.used3 := if cls = 3 then s.pt.used3.set n (s.pt.used3.getD n 0 + 1) else s.pt.used3 }
  else
    let s1 := ptpIrq n 2 (s.inc (F.ptpDrop n (cls - 1)))
    { s1 with pt.dropPort := some (s.pt.dropPort.getD n) }

/-- A message under the budget: `f` acts on an admitted one only. While the packet core is stopped the message is dropped at ingress
and counted with the drops of its class, outside the overload seconds (R37, log 103: DESIGN CHOICE). -/
def budgeted (event : Bool) (cls n : Nat) (f : State → State) (s : State) : State :=
  if !s.pcRuns then ptpIrq n 2 (s.inc (F.ptpDrop n (cls - 1)))
  else
    let t := ptpCountMsg event cls n s
    if admits s event cls n then f t else t

/-! ## Frames out (R256, R267, R268) -/

/-- The 16-bit words of a byte list, summed for an Internet checksum. -/
def sum16 : List Byte → Nat
  | [] => 0
  | [a] => a.toNat * 256
  | a :: b :: l => a.toNat * 256 + b.toNat + sum16 l

/-- The ones' complement of a sum folded to 16 bits. -/
def csum (n : Nat) : Nat := 65535 - (n % 65536 + n / 65536 % 65536 + (n % 65536 + n / 65536) / 65536) % 65536

/-- The multicast addresses of a transport: MAC, then IP; peer-delay messages have their own (R268). -/
def ptpDst (tr : Nat) (peer : Bool) : Nat :=
  match tr, peer with
  | 0, false => 0x011B19000000
  | 0, true => 0x0180C200000E
  | 1, false => 0x01005E000181
  | 1, true => 0x01005E00006B
  | _, false => 0x333300000181
  | _, true => 0x33330000006B

/-- The IP destination of a transport. -/
def ptpIp (tr : Nat) (peer : Bool) : Nat :=
  match tr, peer with
  | 1, false => 0xE0000181
  | 1, true => 0xE000006B
  | _, false => 0xFF0E * 2 ^ 112 + 0x181
  | _, true => 0xFF02 * 2 ^ 112 + 0x6B

/-- A UDP datagram to port 319 for event and 320 for general messages, over IPv6 with its checksum, over IPv4 with none. -/
def udpOf (s : State) (n : Nat) (event peer v6 : Bool) (b : List Byte) : List Byte :=
  let p := if event then 319 else 320
  let len := b.length + 8
  let head := bytesBE 2 p ++ bytesBE 2 p ++ bytesBE 2 len
  let pseudo := bytesBE 16 (s.rd (F.ptpIpv6 n)) ++ bytesBE 16 (ptpIp 2 peer) ++ bytesBE 4 len ++ bytesBE 4 17
  head ++ bytesBE 2 (if v6 then csum (sum16 (pseudo ++ head ++ b)) else 0) ++ b

/-- The payload of a transport, from the EtherType on. -/
def ptpWrap (s : State) (n : Nat) (event peer : Bool) (b : List Byte) : List Byte :=
  match s.rd (F.ptpTransport n) with
  | 0 => bytesBE 2 0x88F7 ++ b
  | 1 =>
    let u := udpOf s n event peer false b
    let h := [0x45, 0].map (BitVec.ofNat 8) ++ bytesBE 2 (u.length + 20) ++ bytesBE 4 0 ++ bytesBE 1 (s.rd (F.ptpTtl n)) ++ bytesBE 1 17
    let a := bytesBE 4 (s.rd (F.ptpIpv4 n)) ++ bytesBE 4 (ptpIp 1 peer)
    bytesBE 2 0x0800 ++ h ++ bytesBE 2 (csum (sum16 (h ++ a))) ++ a ++ u
  | _ =>
    let u := udpOf s n event peer true b
    bytesBE 2 0x86DD ++ bytesBE 4 0x60000000 ++ bytesBE 2 u.length ++ bytesBE 1 17 ++ bytesBE 1 (s.rd (F.ptpTtl n)) ++
      bytesBE 16 (s.rd (F.ptpIpv6 n)) ++ bytesBE 16 (ptpIp 2 peer) ++ u

/-- A PTP message (IEEE 1588-2019 clause 13): header, with the port's identity, and body. -/
def ptpBytes (s : State) (n type flags corr seq ctl log : Nat) (body : List Byte) : List Byte :=
  bytesBE 1 type ++ bytesBE 1 0x12 ++ bytesBE 2 (34 + body.length) ++ bytesBE 1 (s.rd F.ptpDomain) ++ bytesBE 1 0 ++
  bytesBE 2 flags ++ bytesBE 8 corr ++ bytesBE 4 0 ++ bytesBE 8 Config.clkid.toNat ++ bytesBE 2 (n + 1) ++ bytesBE 2 seq ++
  bytesBE 1 ctl ++ bytesBE 1 log ++ body

/-- The time queue has room (R256). -/
def tqRoom (s : State) (n : Nat) : Bool := (s.queue n 4).length < 32

/-- A frame of the PC into the time queue, on PTPVID where that is not 0; with no room it is refused and counted (R279). -/
def tqPush (n dst : Nat) (body : List Byte) (s : State) : State :=
  let vid := s.rd (F.ptpPvid n)
  let tag := if vid = 0 then [] else bytesBE 2 0x8100 ++ bytesBE 2 (s.rd (F.ptpPpcp n) * 8192 + vid)
  let f : Frame := ⟨s.po.nextId, dst, (Config.mac n).toNat, tag ++ body, none, 0, vid, s.rd (F.ptpPpcp n), body.length + 16, n⟩
  if tqRoom s n then pushFrame n 4 f { s with po.nextId := s.po.nextId + 1 } else s.inc (F.ptpTqrefuse n)

/-- A PTP message sent. -/
def ptpSend (n : Nat) (event peer : Bool) (b : List Byte) (s : State) : State :=
  tqPush n (ptpDst (s.rd (F.ptpTransport n)) peer) (ptpWrap s n event peer b) s

/-- A timestamp as ten octets: seconds, low 48 bits, and nanoseconds. -/
def stamp (t : Nat) : List Byte := bytesBE 6 (secOf t % 2 ^ 48) ++ bytesBE 4 (nsOf t)

/-- An entry of the transmit-timestamp queue (R252). -/
def tsPush (n t : Nat) (s : State) : State := s.setPtp n { s.ptp n with tsq := ((s.ptp n).tsq ++ [t]).take 64 }

/-! ## Quality (R283) -/

/-- clockClass, clockAccuracy, variance, the two traceable flags and timeSource. -/
structure Quality where
  cls : Nat
  acc : Nat
  var : Nat
  time : Bool
  freq : Bool
  src : Nat
deriving DecidableEq, Repr

/-- The unit's quality: the first row of R283 that applies; where none does the values are open (log 15). -/
def quality (s : State) : Quality :=
  let sel := s.rd F.dSelref
  let m := s.mode
  let keeps := m == .holdover || m == .dormant || m == .ensemble
  if s.is F.ptpSlaveonly then ⟨255, 0xFE, 0xFFFF, false, false, 0xA0⟩
  else if s.untraced then ⟨248, 0xFE, 0xFFFF, false, false, 0xA0⟩
  else if m == .track && sel < 4 && paired s sel then ⟨6, 0x21, 0x4E5D, true, true, 0x20⟩
  else if m == .track && sel < 10 && !timeRef s sel then ⟨7, 0xFE, 0x4E5D, false, true, 0x90⟩
  else if keeps && s.is F.dReady && (m == .ensemble || s.rd F.servoHest ≤ s.rd F.servoHlimit) then
    ⟨7, 0xFE, 0x5A00, false, false, 0xA0⟩
  else if keeps then ⟨52, 0xFE, 0x6400, false, false, 0xA0⟩
  else ⟨Config.openClass.toNat, Config.openAcc.toNat, Config.openVar.toNat, false, false, 0xA0⟩

/-- The unit's own data set. -/
def ownDs (s : State) : Foreign :=
  let q := quality s
  ⟨s.rd F.ptpPrio1, q.cls, q.acc, q.var, s.rd F.ptpPrio2, Config.clkid.toNat, 0, Config.clkid.toNat, 0, 0, 0, none, 0, false, false, false⟩

/-! ## The best master clock (R272) -/

/-- The order of two lists of attributes, from the first that differs. -/
def lexLt : List Nat → List Nat → Bool
  | a :: l, b :: m => if a < b then true else if b < a then false else lexLt l m
  | _, _ => false

/-- The comparison of two data sets of one grandmaster: 2 and −2 better, 1 and −1 better by topology. -/
def cmpTopo (a b : Foreign) : Int :=
  let own := Config.clkid.toNat
  if a.steps + 1 < b.steps then 2
  else if b.steps + 1 < a.steps then -2
  else if a.steps < b.steps then (if own < b.snd then 2 else 1)
  else if b.steps < a.steps then (if own < a.snd then -2 else -1)
  else if lexLt [a.snd, a.sport, a.rx] [b.snd, b.sport, b.rx] then 1
  else if lexLt [b.snd, b.sport, b.rx] [a.snd, a.sport, a.rx] then -1
  else 0

/-- The data set comparison of clause 9.3.4. -/
def cmpDs (a b : Foreign) : Int :=
  if a.gm = b.gm then cmpTopo a b
  else if lexLt [a.p1, a.cls, a.acc, a.var, a.p2, a.gm] [b.p1, b.cls, b.acc, b.var, b.p2, b.gm] then 2 else -2

/-- An interval of 2^log s in strobes. -/
def logBeats (l : Int) : Nat := if 0 ≤ l then 1024 * 2 ^ min l.toNat 20 else max 1 (1024 / 2 ^ min (-l).toNat 10)

/-- The announce interval of a port, and its announce receipt timeout, in strobes. -/
def annBeats (s : State) (n : Nat) : Nat := logBeats (s.rdS (F.ptpLogann n))
def annTimeout (s : State) (n : Nat) : Nat := s.rd (F.ptpArto n) * annBeats s n

/-- A foreign master that has been heard twice within four announce intervals, and lately. -/
def qualified (s : State) (n : Nat) (f : Foreign) : Bool :=
  match f.at0 with
  | none => false
  | some b => f.at1 ≤ b + 4 * annBeats s n && s.beatcnt ≤ f.at1 + annTimeout s n

/-- The best of a list of data sets. -/
def bestDs (l : List Foreign) : Option Foreign :=
  l.foldl (fun b f => match b with | none => some f | some g => if 0 < cmpDs f g then some f else some g) none

/-- The best foreign master of a port, and of the unit. -/
def erbest (s : State) (n : Nat) : Option Foreign :=
  if ptpUp s n && !s.is (F.ptpMasteronly n) && !s.is (F.ptpExtcfg n) then bestDs ((s.ptp n).foreign.filter (qualified s n)) else none
def ebest (s : State) : Option Foreign := bestDs ((List.range 4).filterMap (erbest s))

/-- The state that the BMCA recommends for a port: 6 MASTER, 7 PASSIVE, 9 SLAVE, 4 LISTENING, and 5 PRE_MASTER for a
MASTER that waits out its qualification. A TC has no port in MASTER (log 104: DEDUCED). -/
def recommend (s : State) (n : Nat) : Nat :=
  let master := if (s.is F.ptpSlaveonly && clkType s == 1) || clkType s == 4 then 4 else 6
  let quiet := pstate s n == 4 && (erbest s n).isNone && (s.ptp n).lis < annTimeout s n
  match ebest s with
  | none => if quiet then 4 else master
  | some e =>
    if 0 < cmpDs (ownDs s) e then (if quiet then 4 else master)
    else if e.rx = n then 9
    else match erbest s n with
      | none => if quiet then 4 else if pstate s n = 6 then 6 else if master = 6 then 5 else 4
      | some f => if cmpDs e f = 1 then 7 else if pstate s n = 6 then 6 else if master = 6 then 5 else 4

/-- PSTATE taken, with PTPIRQSTAT bit 0 where it changes. -/
def putPstate (n st : Nat) (s : State) : State := if pstate s n = st then s else ptpIrq n 0 (s.wr (F.ptpPstate n) st)

/-- A port begins to follow a parent: UNCALIBRATED, from its first sample (R271). -/
def followParent (n : Nat) (f : Foreign) (s : State) : State :=
  if following s n && (s.ptp n).parent == some (f.snd, f.sport) then s
  else
    let s1 := s.setPtp n { s.ptp n with
      parent := some (f.snd, f.sport), nsamp := 0, annAge := 0, annOut := false, sync := none, fup := none, last := none, delays := [] }
    putPstate n 8 (ptpIrq n 3 s1)

/-- The wait in PRE_MASTER: the unit's own stepsRemoved plus 1 announce intervals (IEEE 1588-2019, clause 9.2.6). -/
def preBeats (s : State) (n : Nat) : Nat := (match ebest s with | some e => e.steps + 2 | none => 1) * annBeats s n

/-- A port in a recommended state. -/
def takeState (n st : Nat) (s : State) : State :=
  match st, erbest s n with
  | 9, some f => followParent n f s
  | 5, _ =>
    if pstate s n = 5 then (if (s.ptp n).pre = 0 then putPstate n 6 s else s)
    else putPstate n 5 (s.setPtp n { s.ptp n with pre := preBeats s n, parent := none })
  | k, _ => putPstate n k (s.setPtp n { s.ptp n with parent := none, lis := if pstate s n = 4 then (s.ptp n).lis else 0 })

/-- The data set of a port's parent, as its last Announce gave it. -/
def parentData (s : State) (n : Nat) : Option Foreign := (s.ptp n).foreign.find? (fun f => (s.ptp n).parent == some (f.snd, f.sport))

/-- The parent of a port that EXTSTATE makes SLAVE: the sender of the Announce messages that reach it; it changes only when
the present one is heard no more (R272, DEDUCED: a SLAVE port follows a parent, and the BMCA does not choose this one). -/
def extParent (n : Nat) (s : State) : State :=
  match parentData s n, (s.ptp n).foreign with
  | none, f :: _ => ptpIrq n 3 (s.setPtp n { s.ptp n with
      parent := some (f.snd, f.sport), nsamp := 0, annAge := 0, annOut := false, sync := none, fup := none, last := none, delays := [] })
  | _, _ => s

/-- The state that EXTSTATE gives a port (R272). -/
def extPort (n : Nat) (s : State) : State :=
  let e := s.rd (F.ptpExtstate n)
  if e = 9 then extParent n (putPstate n 9 s)
  else putPstate n (if e = 6 ∨ e = 7 then e else 4) (s.setPtp n { s.ptp n with parent := none })

/-- The state of one port; those of an E2E TC read DISABLED (log 104: DEDUCED). DISABLED, FAULTY, what EXTSTATE says, or what the BMCA recommends (R271, R272). In DORMANT a
port whose link is down keeps its state. -/
def bmcaPort (n : Nat) (s : State) : State :=
  if !ptpRole s n || clkType s == 3 then putPstate n 3 s
  else if !s.is (F.portLink n) || portIsol s n then (if s.mode == .dormant then s else putPstate n 2 s)
  else if s.is (F.ptpExtcfg n) then extPort n s
  else
    let r := recommend s n
    takeState n (if s.is (F.ptpMasteronly n) && (r == 7 || r == 9 || r == 4 || r == 5) then 6 else r) s

/-- The parent data shown: of the SLAVE port's parent, or of the unit itself (R283, R289). -/
def parentShow (s : State) : State :=
  let sl := (List.range 4).find? (fun n => pstate s n == 9)
  let q := quality s
  let s1 := (s.wr F.ptpClass q.cls).wr F.ptpAccuracy q.acc
  match sl, sl.bind (parentData s) with
  | some n, some e => (((s1.wr F.ptpParentport n).wr F.ptpGmid e.gm).wr F.ptpGmclass e.cls).wr F.ptpSteps e.steps
  | _, _ => (((s1.wr F.ptpParentport 15).wr F.ptpGmid Config.clkid.toNat).wr F.ptpGmclass q.cls).wr F.ptpSteps 0

/-- BMCA_RUN: every port, then the data shown. -/
def bmcaRun (s : State) : State :=
  if s.pcRuns && s.live && !(s.mode == .dormant && !s.is F.dWake) then parentShow (forN 4 bmcaPort s) else s

/-! ## Offset samples (R274 to R276) -/

/-- ASYM in 2⁻¹⁶ ns (R275). -/
def asymU (s : State) (n : Nat) : Int := rdiv (s.rdS (F.ptpAsym n) * 65536) 10

/-- The delay of a sample: the mean of the last 8 for E2E, the link delay for P2P, 0 with no mechanism; none before the first. -/
def pathDelay (s : State) (n : Nat) : Option Int :=
  match s.rd (F.ptpMech n) with
  | 0 => match (s.ptp n).delays with | [] => none | l => some (rdiv (sumInt l) l.length)
  | 1 => (s.ptp n).link
  | _ => some 0

/-- An offset sample of REF4 to REF7: the reference's time minus the time scale, with FOFF from successive samples of which
neither is excess (R154, R180). -/
def refSample (k : Nat) (d : Int) (s : State) : State :=
  let r := s.ref k
  let x := d + s.sv.steer
  let exc := sampleOver s k d
  let s1 := match r.samples, r.held with
    | p :: _, [] => if exc then s else s.wrSat (F.refFoff k) (rdiv ((x - p) * 2 ^ 48) (max 1 r.noSample * unitsPerBeat))
    | _, _ => s
  s1.setRef k { refTake x exc (sampleResid s k d < 0) r with samp := some d, fresh := true, noSample := 0 }

/-- A complete Sync from the parent (R274): offset = t2 − t1 − delay − corrections. -/
def syncDone (n : Nat) (t1 t2 corr : Int) (s : State) : State :=
  let p := s.ptp n
  let s1 := s.setPtp n { p with sync := none, fup := none, last := some (t1, t2, corr) }
  if !following s n || clkType s == 3 then s1
  else match pathDelay s n with
    | none => s1
    | some d =>
      let off := t2 - t1 - d - corr - asymU s n
      let s2 := (s1.wrSat (F.ptpOffset n) off).setPtp n { s1.ptp n with nsamp := p.nsamp + 1 }
      if s.is (F.refEnable (n + 4)) && s.mode != .replay then refSample (n + 4) (-off) s2 else s2

/-- The origin time of a message in 2⁻¹⁶ ns. -/
def originOf (m : PtpMsg) : Int := (m.sec.toNat * unitsPerSec + m.ns.toNat * 65536 : Nat)

/-- The message is from the port's parent. -/
def fromParent (s : State) (n : Nat) (m : PtpMsg) : Bool := (s.ptp n).parent == some (m.clk.toNat, m.port.toNat)

/-- An instant of the beat in progress, at the port's PHY. -/
def instant (s : State) (dt : Dt) (sub : BitVec 17) : Nat := s.at dt.toNat + sub.toNat % unitsPerEdge

/-- A transceiver latency in 2⁻¹⁶ ns; on P2 and P3 the unit compensates the PHY itself (R248, R252). -/
def latU (s : State) (n : Nat) (f : Fld) : Int := if n < 2 then rdiv (s.rdS f * 65536) 10 else 0

/-- The instants at which a received and a sent message cross the port's reference plane (R252). -/
def rxInstant (s : State) (n : Nat) (dt : Dt) (sub : BitVec 17) : Nat :=
  ((instant s dt sub : Int) - latU s n (F.portRxlat n)).toNat
def txInstant (s : State) (n : Nat) (dt : Dt) (sub : BitVec 17) : Nat :=
  ((instant s dt sub : Int) + latU s n (F.portTxlat n)).toNat

/-- The class of a Sync or a Follow_Up (R280). -/
def syncClass (s : State) (n : Nat) (m : PtpMsg) : Nat := if following s n && fromParent s n m then 1 else 4

/-- The reference of a port is in violation of time of day (R276). -/
def ptpTod (n : Nat) (s : State) : State := s.setRef (n + 4) { s.ref (n + 4) with todViol := true }

/-- An admitted Sync from the parent. -/
def syncTake (n : Nat) (m : PtpMsg) (t2 : Nat) (s : State) : State :=
  let s1 := if m.ptpTimescale then s else ptpTod n s
  if (s.port n).stalled then s1
  else if m.twoStep then
    match (s.ptp n).fup with
    | some h => if h.seq = m.seq.toNat then syncDone n h.t t2 (h.corr + m.corr.toInt) s1
                else s1.setPtp n { s1.ptp n with sync := some ⟨m.seq.toNat, t2, m.corr.toInt, s.beatcnt⟩ }
    | none => s1.setPtp n { s1.ptp n with sync := some ⟨m.seq.toNat, t2, m.corr.toInt, s.beatcnt⟩ }
  else syncDone n (originOf m) t2 m.corr.toInt s1

/-- PTP_SYNC_RX (R274). -/
def execPtpSyncRx (n : Fin 4) (m : PtpMsg) (dt : Dt) (sub : BitVec 17) (s : State) : Res :=
  when (ptpMine s n m && clkType s != 3) (fun s =>
    let c := syncClass s n m
    budgeted true c n (fun s => if c = 1 then syncTake n m (rxInstant s n dt sub) s else s) s) s

/-- An admitted Follow_Up from the parent: it completes its Sync, or is held for one beat (R288). -/
def fupTake (n : Nat) (m : PtpMsg) (s : State) : State :=
  match (s.ptp n).sync with
  | some h =>
    if h.seq = m.seq.toNat then syncDone n (originOf m) h.t (h.corr + m.corr.toInt) s
    else s.setPtp n { s.ptp n with fup := some ⟨m.seq.toNat, originOf m, m.corr.toInt, s.beatcnt⟩ }
  | none => s.setPtp n { s.ptp n with fup := some ⟨m.seq.toNat, originOf m, m.corr.toInt, s.beatcnt⟩ }

/-- PTP_FOLLOW_UP_RX (R274). -/
def execPtpFollowUpRx (n : Fin 4) (m : PtpMsg) (s : State) : Res :=
  when (ptpMine s n m && clkType s != 3) (fun s =>
    let c := syncClass s n m
    budgeted false c n (fun s => if c = 1 then fupTake n m s else s) s) s

/-- FOLLOW_UP_HOLD_EXPIRE: a Follow_Up held for more than one beat is discarded (R288). -/
def execFollowUpHoldExpire (n : Fin 4) (s : State) : Res :=
  match (s.ptp n).fup with
  | none => .next s
  | some h => when (s.live && h.beat < s.beatcnt) (fun s => s.setPtp n { s.ptp n with fup := none }) s

/-- PORT_SLAVE: sixteen offset samples (R271). -/
def execPortSlave (n : Fin 4) (s : State) : Res :=
  when (s.live && pstate s n == 8 && 16 ≤ (s.ptp n).nsamp) (fun s => parentShow (putPstate n 9 s)) s

/-! ## Delay (R274, R277, R280) -/

/-- The message answers the unit's own request. -/
def answersUs (s : State) (n : Nat) (m : PtpMsg) : Bool :=
  m.reqClk.toNat == Config.clkid.toNat && m.reqPort.toNat == n + 1 &&
  match (s.ptp n).req with | some h => h.seq == m.seq.toNat | none => false

/-- A Delay_Resp: its receive timestamp, the request's sequence number and requesting port. -/
def delayRespBytes (s : State) (n : Nat) (m : PtpMsg) (t4 : Nat) : List Byte :=
  ptpBytes s n 9 0 (uns 64 (m.corr.toInt - fracOf t4)) m.seq.toNat 3 (s.rd (F.ptpLogdreq n))
    (stamp t4 ++ bytesBE 8 m.clk.toNat ++ bytesBE 2 m.port.toNat)

/-- PTP_DELAY_REQ_RX: a MASTER port with the E2E mechanism answers; on any other port the message is class 4 (R273, R280). -/
def execPtpDelayReqRx (n : Fin 4) (m : PtpMsg) (dt : Dt) (sub : BitVec 17) (s : State) : Res :=
  when (ptpMine s n m && clkType s != 3) (fun s =>
    let master := pstate s n == 6
    budgeted true (if master then 3 else 4) n (fun s =>
      if master && s.rd (F.ptpMech n) = 0 && ptpSends s && !(s.port n).stalled then
        ptpSend n false false (delayRespBytes s n m (rxInstant s n dt sub)) s
      else s) s) s

/-- A mean path delay taken: the last 8 are kept, and MPD shows the newest. -/
def putDelay (n : Nat) (d : Int) (s : State) : State :=
  (s.wrSat (F.ptpMpd n) d).setPtp n { s.ptp n with delays := (d :: (s.ptp n).delays).take 8, req := none }

/-- PTP_DELAY_RESP_RX: meanPathDelay of IEEE 1588-2019 clause 11.3 (R274). -/
def execPtpDelayRespRx (n : Fin 4) (m : PtpMsg) (s : State) : Res :=
  when (ptpMine s n m && clkType s != 3) (fun s =>
    let ours := s.rd (F.ptpMech n) == 0 && answersUs s n m
    budgeted false (if ours then 2 else 4) n (fun s =>
      match ours, (s.ptp n).req, (s.ptp n).last with
      | true, some q, some (t1, t2, c) => putDelay n (rdiv ((t2 - q.t) + (originOf m - t1) - c - m.corr.toInt) 2) s
      | _, _, _ => s) s) s

/-- A Pdelay_Resp, with requestReceiptTimestamp 0 and the turnaround in the correction when one-step (R277). -/
def pdelayRespBytes (s : State) (n : Nat) (m : PtpMsg) (t2 : Nat) (turn : Nat) (one : Bool) : List Byte :=
  ptpBytes s n 3 (if one then 0 else 0x200) (uns 64 (if one then m.corr.toInt + turn else m.corr.toInt - fracOf t2)) m.seq.toNat 5 0x7F
    ((if one then bytesBE 10 0 else stamp t2) ++ bytesBE 8 m.clk.toNat ++ bytesBE 2 m.port.toNat)

/-- A Pdelay_Resp_Follow_Up with the departure time of the response. -/
def pdelayFupBytes (s : State) (n : Nat) (m : PtpMsg) (t3 : Nat) : List Byte :=
  ptpBytes s n 10 0 (fracOf t3) m.seq.toNat 5 0x7F (stamp t3 ++ bytesBE 8 m.clk.toNat ++ bytesBE 2 m.port.toNat)

/-- One-step leaves two-step on P2 where the frame carries two tags, counted in ONESTEPFB (R277, R431). -/
def oneStepNow (s : State) (n : Nat) (twoTags : Bool) : Bool := s.is (F.ptpOnestep n) && !(n == 2 && twoTags)
def oneStepFb (n : Nat) (twoTags : Bool) (s : State) : State :=
  if n == 2 && twoTags && s.is (F.ptpOnestep n) then s.inc (F.ptpOnestepfb n) else s

/-- PTP_PDELAY_REQ_RX: class 3 on any port, answered on a P2P port, one-step or two-step (R277, R280). -/
def execPtpPdelayReqRx (n : Fin 4) (m : PtpMsg) (dt : Dt) (sub : BitVec 17) (turn : BitVec 48) (twoTags : Bool) (s : State) : Res :=
  when (ptpMine s n m && clkType s != 3) (fun s =>
    budgeted true 3 n (fun s =>
      let t2 := rxInstant s n dt sub
      if (s.port n).stalled || s.rd (F.ptpMech n) != 1 then s
      else if oneStepNow s n twoTags then ptpSend n true true (pdelayRespBytes s n m t2 turn.toNat true) s
      else
        let t3 := t2 + turn.toNat
        let s1 := tsPush n t3 (ptpSend n true true (pdelayRespBytes s n m t2 0 false) (oneStepFb n twoTags s))
        ptpSend n false true (pdelayFupBytes s n m t3) s1) s) s

/-- A mean link delay taken. -/
def putLink (n : Nat) (d : Int) (s : State) : State :=
  (s.wrSat (F.ptpMpd n) d).setPtp n { s.ptp n with link := some d, req := none, resp := none }

/-- PTP_PDELAY_RESP_RX: a one-step response gives meanLinkDelay, a two-step one waits (R274). -/
def execPtpPdelayRespRx (n : Fin 4) (m : PtpMsg) (dt : Dt) (sub : BitVec 17) (s : State) : Res :=
  when (ptpMine s n m && clkType s != 3) (fun s =>
    let ours := s.rd (F.ptpMech n) == 1 && answersUs s n m
    budgeted true (if ours then 2 else 4) n (fun s =>
      match ours && !(s.port n).stalled, (s.ptp n).req with
      | true, some q =>
        let t4 := rxInstant s n dt sub
        if m.twoStep then s.setPtp n { s.ptp n with resp := some ⟨m.seq.toNat, originOf m, t4, m.corr.toInt⟩ }
        else putLink n (rdiv ((t4 : Int) - q.t - m.corr.toInt) 2) s
      | _, _ => s) s) s

/-- PTP_PDELAY_RESP_FUP_RX: completes a two-step exchange (R274). -/
def execPtpPdelayRespFupRx (n : Fin 4) (m : PtpMsg) (s : State) : Res :=
  when (ptpMine s n m && clkType s != 3) (fun s =>
    let ours := s.rd (F.ptpMech n) == 1 && answersUs s n m
    budgeted false (if ours then 2 else 4) n (fun s =>
      match ours, (s.ptp n).req, (s.ptp n).resp with
      | true, some q, some r =>
        if r.seq = m.seq.toNat then putLink n (rdiv ((r.t4 - q.t) - (originOf m - r.t2) - r.corr - m.corr.toInt) 2) s else s
      | _, _, _ => s) s) s

/-- The strobe begins an interval of 2^log s on the time scale (R273). -/
def beatDue (s : State) (l : Int) : Bool := s.tm.now / unitsPerBeat % logBeats l == 0

/-- The port has a message of type `k` to send in this beat: one of 2^l seconds begins, and it has not been sent yet. -/
def sendDue (s : State) (n k : Nat) (l : Int) : Bool := beatDue s l && !(s.ptp n).sent.contains k

/-- The message of type `k` is sent in this beat. -/
def sentNow (n k : Nat) (s : State) : State := s.setPtp n { s.ptp n with sent := k :: (s.ptp n).sent }

/-- PTP_DELAY_REQ_TX: at its request interval a following port sends a Delay_Req, and every P2P port a Pdelay_Req. -/
def execPtpDelayReqTx (n : Fin 4) (dt : Dt) (sub : BitVec 17) (s : State) : Res :=
  let mech := s.rd (F.ptpMech n)
  when (ptpUp s n && sendDue s n 1 (s.rdS (F.ptpLogdreq n)) && !(s.port n).stalled &&
      ((mech == 0 && following s n) || (mech == 1 && clkType s != 3))) (fun s =>
    let q := ((s.ptp n).seqReq + 1) % 65536
    let t3 := txInstant s n dt sub
    let s1 := sentNow n 1 (tsPush n t3 <| s.setPtp n { s.ptp n with seqReq := q, req := some ⟨q, t3, 0, s.beatcnt⟩, resp := none })
    let b := ptpBytes s n (if mech = 0 then 1 else 2) 0 0 q (if mech = 0 then 1 else 5) 0x7F
      (if mech = 0 then bytesBE 10 0 else bytesBE 20 0)
    ptpSend n true (mech == 1) b s1) s

/-! ## Announce (R272, R283) -/

/-- The data set of an Announce received on a port. -/
def dsOf (n : Nat) (m : PtpMsg) (beat : Nat) (prev : Option Nat) : Foreign :=
  ⟨m.prio1.toNat, m.cls.toNat, m.acc.toNat, m.var.toNat, m.prio2.toNat, m.gm.toNat, m.steps.toNat, m.clk.toNat, m.port.toNat, n, beat,
   prev, m.utcOff.toNat, m.ptpTimescale && m.utcValid, m.leap61, m.leap59⟩

/-- An admitted Announce: its sender's data set, and the parent's receipt timer. -/
def annTake (n : Nat) (m : PtpMsg) (s : State) : State :=
  let p := s.ptp n
  let old := p.foreign.find? (fun f => f.snd == m.clk.toNat && f.sport == m.port.toNat)
  let rest := p.foreign.filter (fun f => !(f.snd == m.clk.toNat && f.sport == m.port.toNat))
  bmcaRun (s.setPtp n { p with
    foreign := dsOf n m s.beatcnt (old.map Foreign.at1) :: rest.take 15
    annAge := if fromParent s n m then 0 else p.annAge
    annOut := !fromParent s n m && p.annOut })

/-- PTP_ANNOUNCE_RX: class 4; the unit's own Announce says nothing (R272, R280). -/
def execPtpAnnounceRx (n : Fin 4) (m : PtpMsg) (s : State) : Res :=
  when (ptpMine s n m && clkType s != 3) (fun s =>
    budgeted false 4 n (fun s => if m.clk.toNat = Config.clkid.toNat then s else annTake n m s) s) s

/-- ANNOUNCE_RECEIPT_TIMEOUT: the reference is in violation, ANNTMO counts it, and the BMCA runs after it (R276, R288). -/
def execAnnounceReceiptTimeout (n : Fin 4) (s : State) : Res :=
  when (ptpUp s n && following s n && !(s.ptp n).annOut && annTimeout s n ≤ (s.ptp n).annAge) (fun s =>
    let s1 := ptpIrq n 1 ((ptpTod n s).inc (F.ptpAnntmo n))
    let p := s1.ptp n
    bmcaRun (s1.setPtp n { p with annOut := true, foreign := p.foreign.filter (fun f => p.parent != some (f.snd, f.sport)) })) s

/-- A leap second of the next 12 h (R283). -/
def leapSoon (s : State) : Bool := s.is F.timeLeappend && s.sec < s.rd F.timeLeapat && s.rd F.timeLeapat ≤ s.sec + 43200

/-- The parent's data, where SELREF is the reference of the SLAVE port. -/
def relayed (s : State) : Option Foreign :=
  match (List.range 4).find? (fun n => pstate s n == 9) with
  | none => none
  | some n => if s.rd F.dSelref = n + 4 then parentData s n else none

/-- The flags of an Announce: leap61, leap59, currentUtcOffsetValid, ptpTimescale, timeTraceable, frequencyTraceable. -/
def annFlags (s : State) : Nat :=
  let q := quality s
  b2n (leapSoon s && !s.is F.timeLeapdir) + 2 * b2n (leapSoon s && s.is F.timeLeapdir) +
  4 * b2n (s.is F.timeUtcsrc || s.is F.ptpUtcvalid) + 8 + 16 * b2n q.time + 32 * b2n q.freq

/-- The body of an Announce (R283); timeSource and the traceable flags are the unit's own, also beside a parent's grandmaster data
(log 15: DESIGN CHOICE). -/
def annBody (s : State) : List Byte :=
  let q := quality s
  let (p1, cls, acc, var, p2, gm, st) := match relayed s with
    | some f => (f.p1, f.cls, f.acc, f.var, f.p2, f.gm, f.steps + 1)
    | none => (s.rd F.ptpPrio1, q.cls, q.acc, q.var, s.rd F.ptpPrio2, Config.clkid.toNat, 0)
  bytesBE 10 0 ++ bytesBE 2 (s.rd F.timeUtcoff) ++ bytesBE 1 0 ++ bytesBE 1 p1 ++ bytesBE 1 cls ++ bytesBE 1 acc ++ bytesBE 2 var ++
    bytesBE 1 p2 ++ bytesBE 8 gm ++ bytesBE 2 st ++ bytesBE 1 q.src

/-- PTP_ANNOUNCE_TX: a MASTER port at its announce interval (R273). -/
def execPtpAnnounceTx (n : Fin 4) (s : State) : Res :=
  when (ptpUp s n && clkType s < 3 && pstate s n == 6 && ptpSends s && sendDue s n 11 (s.rdS (F.ptpLogann n))) (fun s =>
    let q := ((s.ptp n).seqAnn + 1) % 65536
    ptpSend n false false (ptpBytes s n 11 (annFlags s) 0 q 5 (s.rd (F.ptpLogann n)) (annBody s))
      (sentNow n 11 (s.setPtp n { s.ptp n with seqAnn := q }))) s

/-! ## Sync out (R273, R277) -/

/-- ONE_STEP_INSERT: originTimestamp and correctionField of a one-step Sync take the departure time (R277). -/
def syncBytes (s : State) (n seq t : Nat) (one : Bool) : List Byte :=
  ptpBytes s n 0 (if one then 8 else 0x208) (if one then fracOf t else 0) seq 0 (s.rd (F.ptpLogsync n)) (stamp t)

/-- A Follow_Up with the departure time of its Sync. -/
def fupBytes (s : State) (n seq t : Nat) : List Byte :=
  ptpBytes s n 8 8 (fracOf t) seq 2 (s.rd (F.ptpLogsync n)) (stamp t)

/-- PTP_SYNC_TX: at k × 2^logSyncInterval; one due in a stalled beat is sent in the next (R273, R288). -/
def execPtpSyncTx (n : Fin 4) (dt : Dt) (sub : BitVec 17) (twoTags : Bool) (s : State) : Res :=
  when (ptpUp s n && clkType s < 3 && pstate s n == 6 && ptpSends s && (sendDue s n 0 (s.rdS (F.ptpLogsync n)) || (s.ptp n).syncPend)) (fun s =>
    if (s.port n).stalled then sentNow n 0 (s.setPtp n { s.ptp n with syncPend := true })
    else
      let q := ((s.ptp n).seqSync + 1) % 65536
      let t := txInstant s n dt sub
      let s1 := sentNow n 0 (s.setPtp n { s.ptp n with seqSync := q, syncPend := false })
      if oneStepNow s n twoTags then ptpSend n true false (syncBytes s n q t true) s1
      else
        ptpSend n false false (fupBytes s n q t)
          (tsPush n t (ptpSend n true false (syncBytes s n q t false) (oneStepFb n twoTags s1)))) s

/-! ## Other messages (R267) -/

/-- PTP_MANAGEMENT_RX: forwarded unchanged as a TC, otherwise a message of class 4 that is discarded and counted (R267, R280). One of
another domain is data to an OC or a BC (R270). -/
def execPtpManagementRx (n : Fin 4) (f : FrameIn) (s : State) : Res :=
  let p := parseFrame (f.bytes.take (f.bytes.length - 4))
  when (ptpHears s n && ptpTakes s n p) (fun s =>
    if 3 ≤ clkType s then forward n p f.bytes.length f.fcsOk s
    else budgeted false 4 n (fun s => s.inc (F.ptpMgmtdrop n)) s) s

/-- PTP_UNSUPPORTED_RX: a type not listed, or another version. -/
def execPtpUnsupportedRx (n : Fin 4) (s : State) : Res :=
  when (s.live && s.domOn 6 && s.is (F.portLink n) && ptpPort s n) (fun s => s.inc (F.ptpMgmtdrop n)) s

/-! ## Transparent clock (R278, R279) -/

/-- A correction with a value added, held at the largest (R278). -/
def addCorr (c v : Int) : Nat := if c = 2 ^ 63 - 1 then 2 ^ 63 - 1 else uns 64 (min (2 ^ 63 - 1) (c + v))

/-- Octets of a message as a number, and its messageType, twoStepFlag, sender and sequenceId (IEEE 1588-2019, clause 13). -/
def octets (b : List Byte) (i k : Nat) : Nat := ofBytesBE ((b.drop i).take k)
def msgKind (b : List Byte) : Nat := octets b 0 1 % 16
def msgTwoStep (b : List Byte) : Bool := bit (octets b 6 1) 1
def msgSrc (b : List Byte) : Nat := octets b 20 10
def msgSeq (b : List Byte) : Nat := octets b 30 2

/-- A message with a value added to its correctionField, octets 8 to 15 (R278). -/
def tcBytes (b : List Byte) (v : Int) : List Byte :=
  b.take 8 ++ bytesBE 8 (addCorr (sgn 64 (octets b 8 8)) v) ++ b.drop 16

/-- The value a TC adds: the residence, and for a P2P TC's Sync or Follow_Up the ingress link delay with its asymmetry. -/
def tcValue (s : State) (n kind : Nat) (resid : Int) : Int :=
  resid + if clkType s = 4 ∧ (kind = 0 ∨ kind = 8) then (s.ptp n).link.getD 0 + asymU s n else 0

/-- A peer-delay message. -/
def peerKind (k : Nat) : Bool := k == 2 || k == 3 || k == 10

/-- A message through the time queue with a value added to its correction, nothing for one that the TC does not correct. -/
def tcSend (e : Nat) (b : List Byte) (v : Int) (s : State) : State :=
  ptpSend e (msgKind b < 8) (peerKind (msgKind b)) (if v = 0 then b else tcBytes b v) s

/-- TC_FORWARD's effect on the octets of a message. A two-step Sync leaves its residence in the table of 32 entries for its
Follow_Up; a Follow_Up without an entry is held. -/
def tcForward (n e : Nat) (b : List Byte) (resid : Int) (s : State) : State :=
  let p := s.ptp e
  let kind := msgKind b
  let v := tcValue s n kind resid
  if (s.port n).stalled || (s.port e).stalled then s.inc (F.ptpTcdrop e)
  else if kind = 0 ∧ msgTwoStep b = true then
    let s1 := tcSend e b 0 s
    match p.tcHold.find? (fun r => msgSrc r.1 == msgSrc b && msgSeq r.1 == msgSeq b) with
    | some h => tcSend e h.1 v (s1.setPtp e { s1.ptp e with tcHold := p.tcHold.filter (· != h) })
    | none => s1.setPtp e { s1.ptp e with tcTab := (⟨msgSrc b, msgSeq b, v, s.beatcnt⟩ :: p.tcTab).take 32 }
  else if kind = 8 then
    match p.tcTab.find? (fun r => r.src == msgSrc b && r.seq == msgSeq b) with
    | some r =>
      tcSend e b r.val (s.setPtp e { p with tcTab := p.tcTab.filter (fun x => !(x.src == msgSrc b && x.seq == msgSeq b)) })
    | none => s.setPtp e { p with tcHold := (b, s.beatcnt) :: p.tcHold }
  else tcSend e b (if kind = 0 ∨ kind = 1 then v else 0) s

/-- TC_FORWARD: between two ports of a TC; a P2P TC forwards no peer-delay message (R278). -/
def execTcForward (n e : Fin 4) (b : List (BitVec 8)) (resid : BitVec 48) (s : State) : Res :=
  when (3 ≤ clkType s && ptpHears s n && ptpHears s e && n != e && !(clkType s == 4 && peerKind (msgKind b)))
    (fun s => if s.pcRuns then tcForward n e b resid.toInt s else s.inc (F.ptpTcdrop e)) s

/-- TC_FOLLOW_UP_TIMEOUT: a Follow_Up with no entry for 1 s (R279). -/
def execTcFollowUpTimeout (e : Fin 4) (s : State) : Res :=
  let old := (s.ptp e).tcHold.filter (fun r => r.2 + 1024 ≤ s.beatcnt)
  when (s.live && !old.isEmpty) (fun s =>
    (s.setPtp e { s.ptp e with tcHold := (s.ptp e).tcHold.filter (fun r => s.beatcnt < r.2 + 1024) }).incBy (F.ptpTcdrop e)
      old.length) s

/-! ## Overload (R282) -/

/-- PTP_OVERLOAD: the first drop in the ninth consecutive overload second. -/
def execPtpOverload (dt : Dt) (s : State) : Res :=
  match s.pt.dropPort with
  | none => .next s
  | some p =>
    when (s.live && 8 ≤ s.pt.ovRun && !s.is F.ptpOvlive)
      (fun s => (((s.set1 F.ptpOvlive).tally 16).liveSet .ptpOverload 0 p 3 dt.toNat).fire 46) s

/-- OVERLOAD_CLEAR: a second without drops. -/
def execOverloadClear (s : State) : Res :=
  when (s.live && s.is F.ptpOvlive && s.pt.clean) (fun s => (s.clr F.ptpOvlive).liveClr .ptpOverload 0) s

/-- A second of the time scale has ended: it was an overload second or a clean one. -/
def overloadSecond (s : State) : State :=
  if s.pt.dropPort.isSome then
    ({ s with pt.ovRun := s.pt.ovRun + 1, pt.clean := false, pt.dropPort := none } : State).inc F.ptpOvsecs
  else { s with pt.ovRun := 0, pt.clean := true }

/-! ## ESMC (R285) -/

/-- QLTX of a port: the first row that applies. -/
def qltxOf (s : State) (n : Nat) : Nat :=
  let sel := s.rd F.dSelref
  let m := s.mode
  if sel == n + 8 || sel == n + 4 || m == .provision || m == .safe || m == .replay || m == .boot then 15
  else if m == .track then
    (if sel == 8 || sel == 9 then s.rd (F.refQlrx sel) else if sel < 4 && paired s sel then 2 else 4)
  else 11

/-- An ESMC PDU to the slow-protocol address, with the QL TLV. -/
def esmcBytes (event : Bool) (ql : Nat) : List Byte :=
  bytesBE 2 0x8809 ++ bytesBE 1 0x0A ++ bytesBE 3 0x0019A7 ++ bytesBE 2 1 ++ bytesBE 1 (if event then 0x18 else 0x10) ++ bytesBE 3 0 ++
  bytesBE 1 1 ++ bytesBE 2 4 ++ bytesBE 1 ql

/-- An ESMC PDU into the time queue. -/
def esmcSend (n : Nat) (event : Bool) (s : State) : State := tqPush n 0x0180C2000002 (esmcBytes event (s.rd (F.ptpQltx n))) s

/-- ESMC runs on a fibre port: ESMCEN, its link and the packet core. -/
def esmcUp (s : State) (n : Nat) : Bool := s.live && s.is (F.ptpEsmcen n) && s.is (F.portLink n) && s.pcRuns

/-- ESMC_INFO_TX: once a second. -/
def execEsmcInfoTx (n : Fin 2) (s : State) : Res :=
  when (esmcUp s n && (s.ptp n).esmcDue) (fun s => esmcSend n false (s.setPtp n { s.ptp n with esmcDue := false })) s

/-- ESMC_EVENT_TX: within one beat of a change in QLTX. -/
def execEsmcEventTx (n : Fin 2) (s : State) : Res :=
  when (esmcUp s n && (s.ptp n).qlEvent) (fun s => esmcSend n true (s.setPtp n { s.ptp n with qlEvent := false })) s

/-- ESMC_RX: QLRX of REF8 or REF9; a code that is none of option 1 counts as DNU. -/
def execEsmcRx (n : Fin 2) (ql : BitVec 4) (s : State) : Res :=
  when (s.live && s.is (F.portLink n) && s.pcRuns) (fun s =>
    let q := if ql = 2 ∨ ql = 4 ∨ ql = 8 ∨ ql = 11 then ql.toNat else 15
    let s1 := (s.wr (F.refQlrx (n + 8)) q).setRef (n + 8) { s.ref (n + 8) with esmcTmo := false }
    s1.setPtp n { s1.ptp n with qlAge := 0 }) s

/-- ESMC_TIMEOUT: no valid PDU for 5 s. -/
def execEsmcTimeout (n : Fin 2) (s : State) : Res :=
  when (s.live && 5120 ≤ (s.ptp n).qlAge) (fun s =>
    (s.wr (F.refQlrx (n + 8)) 15).setRef (n + 8) { s.ref (n + 8) with esmcTmo := true }) s

/-! ## Configuration (R269, R270, R286, R287) -/

/-- A signed or unsigned port field held in a range; the Bool says whether it moved. -/
def clampFld (f : Fld) (signed : Bool) (lo hi : Int) (p : State × Bool) : State × Bool :=
  let v : Int := if signed then p.1.rdS f else p.1.rd f
  let c := clampInt lo hi v
  if c = v then p else (p.1.wrS f c, true)

/-- The attribute ranges of a port under the active profile (R269, R286, R287). -/
def clampPort (n : Nat) (p : State × Bool) : State × Bool :=
  let letil := p.1.rd F.ptpProfile == 2
  let p1 := clampFld (F.ptpLogsync n) true (if letil then -7 else -1) (if letil then 0 else 1) p
  let p2 := clampFld (F.ptpLogann n) true 0 (if letil then 2 else 4) p1
  let p3 := clampFld (F.ptpArto n) false (if letil then 3 else 2) (if letil then 6 else 10) p2
  clampFld (F.ptpLogdreq n) true (if letil then -4 else 0) (if letil then 2 else 5) p3

/-- Every attribute at its nearer limit, with CLAMPED, and CFGERR of R270. -/
def ptpClamp (s : State) : State :=
  let p := (List.range 4).foldl (fun p n => clampPort n p) (clampFld F.ptpDomain false 0 127 (s, false))
  let s1 := if p.2 then p.1.set1 F.ptpClamped else p.1
  s1.wrB F.ptpCfgerr (clkType s1 == 1 && 1 < ((List.range 4).filter (fun n => s1.is (F.ptpEn n))).length)

/-- The defaults of a profile, loaded when PROFILE changes (R286, R287). -/
def profileDefaults (s : State) : State :=
  let letil := s.rd F.ptpProfile == 2
  let s1 := ((s.wr F.ptpDomain (if letil then 24 else 0)).wr F.ptpPrio1 128).wr F.ptpPrio2 128
  let s2 := if letil then s1.wr F.ptpClassmax 7 else s1
  forN 4 (fun n s =>
    let a := (((s.wrS (F.ptpLogsync n) (if letil then -4 else 0)).wr (F.ptpLogann n) (if letil then 0 else 1)).wr (F.ptpArto n) 3).wr
      (F.ptpLogdreq n) 0
    if letil then
      ((a.wr (F.ptpMech n) (if n < 2 then 1 else 0)).wr (F.ptpOnestep n) (if n = 2 then 0 else 1)).wr (F.ptpTransport n) 0
    else a.wr (F.ptpMech n) (if s.rd F.ptpProfile = 1 then 1 else 0)) s2

/-! ## The strobe and the step -/

/-- A step of the time scale discards every exchange in progress (R274, R288). -/
def ptpStep (s : State) : State :=
  forN 4 (fun n s => s.setPtp n { s.ptp n with sync := none, fup := none, req := none, resp := none, last := none }) s

/-- A wake window starts: each port resumes with its foreign masters as they stood and its announce receipt timer restarted
(R271). -/
def ptpWake (s : State) : State :=
  forN 4 (fun n s =>
    let p := s.ptp n
    s.setPtp n { p with
      annAge := 0
      foreign := p.foreign.map (fun f => { f with at0 := f.at0.map (fun b => b + s.beatcnt - f.at1), at1 := s.beatcnt }) }) s

/-- Criteria of R276 that hold in the beat that ends: no Announce of the parent within its timeout, or a clockClass of the parent above
CLASSMAX. -/
def ptpCriteria (s : State) : State :=
  forN 4 (fun n s =>
    let worse := match parentData s n with | some f => decide (s.rd F.ptpClassmax < f.cls) | none => false
    if following s n && s.pcRuns && ((s.ptp n).annOut || worse) then ptpTod n s else s) s

/-- UTC_AUTO_LOAD (R230): from the Announce of the PTP reference in use. -/
def utcAuto (s : State) : State :=
  let sel := s.rd F.dSelref
  match parentData s (sel - 4) with
  | some f =>
    if s.is F.timeUtcauto && 4 ≤ sel && sel < 8 && f.utcOk then
      (((s.wr F.timeUtcoff f.utcOff).wrB F.timeLeappend (f.l61 || f.l59)).wrB F.timeLeapdir f.l59).set1 F.timeUtcsrc
    else s.clr F.timeUtcsrc
  | none => s.clr F.timeUtcsrc

/-- QLTX of the fibre ports, with an event where it changes (R285). -/
def qltxBeat (sec : Bool) (s : State) : State :=
  forN 2 (fun n s =>
    let q := qltxOf s n
    let p := s.ptp n
    let s1 := s.setPtp n { p with qlAge := p.qlAge + 1, esmcDue := p.esmcDue || sec, qlEvent := p.qlEvent || q != s.rd (F.ptpQltx n) }
    if q = s.rd (F.ptpQltx n) then s1 else ptpIrq n 4 (s1.wr (F.ptpQltx n) q)) s

/-- The packet core at a strobe: the budget of a new beat, the timers, the BMCA and the qualities (R281, R282, R285). -/
def ptpStrobe (sec : Bool) (s : State) : State :=
  let s1 : State := { s with pt.admE := 0, pt.admG := 0, pt.used := [], pt.used3 := [] }
  let s2 := if sec then overloadSecond s1 else s1
  let s3 := forN 4 (fun n s =>
    let p := s.ptp n
    s.setPtp n { p with annAge := p.annAge + 1, lis := p.lis + 1, pre := p.pre - 1, sent := [], tsq := if s.pcRuns then [] else p.tsq }) s2
  utcAuto (qltxBeat sec (bmcaRun s3))

end Sys2Proof.Machine
end

