-- ==== Sys2Proof/Machine/Synth.lean ====
section
/-! DEFINITION. Synthesisers A and B, the channel outputs CK0 to CK7, range changes, and the ramp generator (R206 to R225). -/
namespace Sys2Proof.Machine

/-! ## Channel settings (R210, R211) -/

/-- The record of a channel. -/
def State.chan (s : State) (n : Nat) : Chan := s.sy.chans.getD n {}
def State.setChan (s : State) (n : Nat) (c : Chan) : State := { s with sy.chans := s.sy.chans.set n c }

/-- The setting of a 112-bit FREQSET with a source. -/
def planOf (src v : Nat) : Plan := ⟨src, bits v 96 4, bits v 64 24, bits v 32 24, bits v 0 22⟩

/-- The setting in the registers. -/
def planNow (s : State) (n : Nat) : Plan :=
  ⟨s.rd (F.synSrc n), s.rd (F.synInt n), s.rd (F.synNum n), s.rd (F.synDen n), s.rd (F.synOdiv n)⟩

/-- The nominal source frequency in Hz (R210). -/
def Plan.fsrc (p : Plan) : Nat := if p.src = 0 then 500000000 else 250000000

/-- fout as a fraction in Hz: fsrc × (INT × DEN + NUM) over DEN × ODIV. -/
def Plan.numer (p : Plan) : Nat := p.fsrc * (p.int * p.den + p.num)
def Plan.denom (p : Plan) : Nat := p.den * p.odiv

/-- The highest fout of a slew code in Hz (R213). -/
def slewMax (code : Nat) : Nat :=
  match code with | 0 => 100000000 | 1 => 50000000 | 2 => 25000000 | _ => 12500000

/-- The code of R211, in the order of its checks; 0 where the setting passes. -/
def planCode (n slew : Nat) (p : Plan) : Nat :=
  if p.int < 4 || 12 < p.int || p.odiv < 5 then 5
  else if p.den < 1 || p.den ≤ p.num then 3
  else if p.numer < 2400000000 * p.den || 3200000000 * p.den < p.numer then 1
  else if p.numer < 1000 * p.denom || (if n < 4 then 500000000 else 100000000) * p.denom < p.numer then 2
  else if 4 ≤ n && slewMax slew * p.denom < p.numer then 4
  else 0

/-- fout is not a whole number of hertz, on source B (R214). -/
def Plan.unaligned (p : Plan) : Bool := p.src == 0 && p.numer % p.denom != 0

/-- The registers of a setting, with FACT, the nominal fout in 2⁻¹⁶ Hz (R225). -/
def putPlan (n : Nat) (p : Plan) (s : State) : State :=
  let s1 := ((((s.wr (F.synSrc n) p.src).wr (F.synInt n) p.int).wr (F.synNum n) p.num).wr (F.synDen n) p.den).wr (F.synOdiv n) p.odiv
  s1.wr (F.synFact n) (satNat 48 (rdiv (p.numer * 65536 : Nat) p.denom))

/-! ## Start and stop (R214, R215, R88) -/

/-- The output is running, held for a restart, or about to start. -/
def chanRunning (s : State) (n : Nat) : Bool := s.is (F.synRunning n) || s.is (F.synHeld n)

/-- The synthesiser that feeds the channel is in service: B locked, or A locked and not fallen back (R209, R224). -/
def srcReady (s : State) (n : Nat) : Bool :=
  if s.rd (F.synSrc n) = 0 then s.is F.synBlock else s.is F.synAlock && !s.is F.synFallback

/-- A channel may start: enabled, its source ready, its core in service and the mode letting it run (R88, R214, R384). -/
def mayStart (s : State) (n : Nat) : Bool :=
  s.is (F.synCken n) && srcReady s n && !s.isolated .ckUnlock n && s.domOn 12 &&
  (s.mode.runs || ((s.mode == .provision || s.mode == .safe) && (s.chan n).faulted))

/-- The first whole second at least 1 ms after an instant, as an instant (R214). -/
def startSecond (t : Nat) : Nat := (t + 65536000000 + unitsPerSec - 1) / unitsPerSec * unitsPerSec

/-- A channel starts under R214 at an instant: its core locks, and its first edge falls on a whole second for source B or
within 1 ms for source A. A start that is already due keeps its edge. -/
def chanStart (n t : Nat) (s : State) : State :=
  if mayStart s n && !chanRunning s n && (s.chan n).start.isNone then
    (s.set1 (F.synLocked n)).setChan n { s.chan n with start := some (if s.rd (F.synSrc n) = 0 then startSecond t else t) }
  else s

/-- A setting that a stop has caught in a range change is the one of the next start (R218). -/
def chanSettle (c : Chan) : Chan := { c with start := none, change := none, wait := none, hold := none }

/-- An output held low from its next falling edge (R215). -/
def chanSquelch (n : Nat) (s : State) : State :=
  ((s.clr (F.synRunning n)).clr (F.synHeld n)).setChan n (chanSettle (s.chan n))

/-- A squelch by a fault: an output whose enable had taken effect counts as already running when it returns (R215). -/
def chanFault (n : Nat) (s : State) : State :=
  let was := chanRunning s n || (s.chan n).start.isSome || (s.chan n).faulted
  (chanSquelch n s).setChan n { chanSettle (s.chan n) with faulted := was }

/-- CHANNEL_ENABLE's effect: the setting in force is checked against R210, and a channel that passes starts (R211, R214). -/
def chanEnable (n t : Nat) (s : State) : State :=
  let c := planCode n (s.rd (F.synSlew n)) (planNow s n)
  let s1 := s.wr (F.synPlanerr n) c
  if c = 0 then chanStart n t (s1.set1 (F.synCken n)) else s1.clr (F.synCken n)

/-- CHANNEL_ENABLE: CKEN is set. -/
def execChannelEnable (n : Fin 8) (dt : Dt) (s : State) : Res :=
  when (s.live && !s.is (F.synCken n)) (chanEnable n (s.at dt.toNat)) s

/-- CHANNEL_DISABLE's effect (R215, R218): a change in progress is recorded for the next start. -/
def chanDisable (n : Nat) (s : State) : State :=
  let s1 := ((chanSquelch n s).clr (F.synCken n)).clr (F.synLocked n)
  s1.setChan n { s1.chan n with faulted := false }

/-- CHANNEL_DISABLE: CKEN is cleared. -/
def execChannelDisable (n : Fin 8) (s : State) : Res := when (s.live && s.is (F.synCken n)) (chanDisable n) s

/-- The end of the beat in progress as a bound on instants. -/
def beatEnd (s : State) : Nat := (s.tm.now / unitsPerBeat + (if s.tm.long then 2 else 1)) * unitsPerBeat

/-- CHANNEL_FIRST_EDGE (R214): RUNNING, with SEPOCH and UNALIGNED on source B. -/
def execChannelFirstEdge (n : Fin 8) (s : State) : Res :=
  match (s.chan n).start with
  | none => .next s
  | some t =>
    when (s.live && mayStart s n && t ≤ beatEnd s) (fun s =>
      let s1 := (s.set1 (F.synRunning n)).setChan n { s.chan n with start := none, faulted := false }
      let s2 := s1.wrB (F.synUnaligned n) (planNow s n).unaligned
      if s.rd (F.synSrc n) = 0 then s2.wr (F.synSepoch n) (secOf t % 2 ^ 32) else s2) s

/-! ## Commits and range changes (R211, R216, R218) -/

/-- A setting that has passed its check: a range change on a running output, otherwise recorded. A second change waits
behind the first, and a third replaces it (R218). -/
def planApply (n : Nat) (p : Plan) (s : State) : State :=
  let c := s.chan n
  let s1 := putPlan n p (s.wr (F.synPlanerr n) 0)
  if chanRunning s n then
    s1.setChan n (if c.change.isSome then { c with wait := some p } else { c with change := some p })
  else s1

/-- FREQSET_COMMIT's effect: checked against R210 with the present source and slew (R211). -/
def freqCommit (n v : Nat) (s : State) : State :=
  let p := planOf (s.rd (F.synSrc n)) v
  let c := planCode n (s.rd (F.synSlew n)) p
  if c = 0 then planApply n p s else s.wr (F.synPlanerr n) c

/-- FREQSET_COMMIT (R216). -/
def execFreqsetCommit (n : Fin 8) (v : BitVec 112) (s : State) : Res := when s.live (freqCommit n v.toNat) s

/-- SRC_COMMIT's effect (R211): unchecked on an output that is not running, a range change on one that is. -/
def srcCommit (n src : Nat) (s : State) : State :=
  if n < 4 || src == s.rd (F.synSrc n) then s
  else if chanRunning s n then
    let p := { planNow s n with src := src }
    let c := planCode n (s.rd (F.synSlew n)) p
    if c = 0 then planApply n p s else s.wr (F.synPlanerr n) c
  else putPlan n { planNow s n with src := src } s

/-- SRC_COMMIT (R211): CK4 to CK7 only, and in PROVISION, as SRC is RWL (R225). -/
def execSrcCommit (n : Fin 8) (a : Bool) (s : State) : Res := when (s.live && s.mode == .provision) (srcCommit n (b2n a)) s

/-- A commit of SLEW: one that would fail with code 4 is not applied (R211). -/
def slewCommit (n slew : Nat) (s : State) : State :=
  if n < 4 || slew == s.rd (F.synSlew n) then s
  else
    let c := planCode n slew (planNow s n)
    if c = 4 then s.wr (F.synPlanerr n) 4 else (s.wr (F.synSlew n) slew).wr (F.synPlanerr n) c

/-- A commit of FMT: 3 is applied as 0 (R212). -/
def fmtCommit (n fmt : Nat) (s : State) : State := if n < 4 then s.wr (F.synFmt n) (if fmt = 3 then 0 else fmt) else s

/-- FMT_CHANGE (R212): CK0 to CK3, at the next falling edge. -/
def execFmtChange (n : Fin 8) (fmt : BitVec 2) (s : State) : Res := when s.live (fmtCommit n fmt.toNat) s

/-- A write of word +0x0: the fields it changes, in the order SRC, FMT, SLEW, CKEN (R211). -/
def ckWord (n w t : Nat) (s : State) : State :=
  let s1 := slewCommit n (bits w 4 2) (fmtCommit n (bits w 2 2) (srcCommit n (bits w 1 1) s))
  let en := bit w 0
  if en == s1.is (F.synCken n) then s1 else if en then chanEnable n t s1 else chanDisable n s1

/-- RANGE_CHANGE_HOLD (R216, step 2): the idle core has locked, so the output is held low from its next falling edge. -/
def execRangeChangeHold (n : Fin 8) (dt : Dt) (s : State) : Res :=
  when (s.live && s.is (F.synRunning n) && (s.chan n).change.isSome) (fun s =>
    ((s.clr (F.synRunning n)).set1 (F.synHeld n)).setChan n { s.chan n with hold := some (s.at dt.toNat) }) s

/-- fout of at least 500 kHz. -/
def Plan.fast (p : Plan) : Bool := 500000 * p.denom ≤ p.numer

/-- The instant at which a held output resumes (R216, step 3). -/
def resumeAt (p : Plan) (hold : Nat) : Nat :=
  if p.src != 0 then hold + 65536000
  else if p.fast then
    let base := hold / unitsPerSec * unitsPerSec
    let off := hold + 65536000 - base
    let k := (off * p.numer + p.denom * unitsPerSec - 1) / (p.denom * unitsPerSec)
    base + (k * p.denom * unitsPerSec + p.numer - 1) / p.numer
  else startSecond hold

/-- The second at which the grid of a resumed output is anchored: for a fast one the last before its hold, else its first edge's (R216,
R225). -/
def anchorSec (p : Plan) (hold : Nat) : Nat := if p.fast then secOf hold else secOf (startSecond hold)

/-- RANGE_CHANGE_RESUME's effect (R216 step 4, R217, R218), `h` the instant at which the hold began. -/
def chanResume (n h : Nat) (s : State) : State :=
  let c := s.chan n
  let p := c.change.getD (planNow s n)
  let s1 := (s.set1 (F.synRunning n)).clr (F.synHeld n)
  let s2 := if c.change.isSome then s1.inc (F.synRangecnt n) else s1
  let s3 := s2.wrB (F.synUnaligned n) p.unaligned
  let s4 := if p.src = 0 then s3.wr (F.synSepoch n) (anchorSec p h % 2 ^ 32) else s3
  s4.setChan n { c with change := c.wait, wait := none, hold := none }

/-- RANGE_CHANGE_RESUME: the output resumes with a full-width period on its new core or its new grid. -/
def execRangeChangeResume (n : Fin 8) (s : State) : Res :=
  let c := s.chan n
  match c.hold with
  | none => .next s
  | some h =>
    let t := resumeAt (c.change.getD (planNow s n)) h
    when (s.live && s.is (F.synHeld n) && t ≤ beatEnd s) (chanResume n h) s

/-- The next falling edge of a running output from B after an instant: half a period after a rising edge of the grid that SEPOCH anchors
(R210, R214). -/
def nextFall (s : State) (n t : Nat) : Nat :=
  let p := planNow s n
  let e := secOf t - (secOf t + 2 ^ 32 - s.rd (F.synSepoch n)) % 2 ^ 32
  let off := t - e * unitsPerSec
  let m := (2 * off * p.numer / (p.denom * unitsPerSec) + 1) / 2
  e * unitsPerSec + ((2 * m + 1) * p.denom * unitsPerSec + 2 * p.numer - 1) / (2 * p.numer)

/-- OUTPUT_REALIGN (R217): every running output from B is held low from its next falling edge and restarts on the grid of the scale
stepped by `d`; a hold in progress and a pending start move to that scale (R218). -/
def realignAll (d : Int) (s : State) : State :=
  forN 8 (fun n s =>
    if s.rd (F.synSrc n) != 0 then s
    else if s.is (F.synHeld n) then
      (s.inc (F.synRealigncnt n)).setChan n { s.chan n with hold := (s.chan n).hold.map (fun h => ((h : Int) + d).toNat) }
    else if s.is (F.synRunning n) then
      (((s.clr (F.synRunning n)).set1 (F.synHeld n)).inc (F.synRealigncnt n)).setChan n
        { s.chan n with hold := some ((nextFall s n ((s.tm.now : Int) - d).toNat : Int) + d).toNat }
    else match (s.chan n).start with
      | some _ => s.setChan n { s.chan n with start := some (startSecond s.tm.now) }
      | none => s) s

/-- Outputs after a change of mode (R81, R88): squelched in REPLAY and static low in BOOT, an enabled output starts in a mode that lets
it run, and in PROVISION and SAFE one that is not already running stays low. -/
def chansMode (s : State) : State :=
  forN 8 (fun n s =>
    if s.mode == .replay || s.mode == .boot then (chanSquelch n s).setChan n { chanSettle (s.chan n) with faulted := false }
    else if !s.mode.runs && !chanRunning s n && !(s.chan n).faulted then s.setChan n { s.chan n with start := none }
    else chanStart n s.tm.now s) s

/-- What a recalled configuration record brings the synthesisers: FACT of each setting, and a profile that starts once PROVISION is left
(R223, R225). -/
def chansRecall (s : State) : State :=
  let s1 := forN 8 (fun n s => putPlan n (planNow s n) s) s
  { s1 with sy.startPend := s1.is F.synRampen }

/-! ## Clock faults (R209, R224) -/

/-- Every channel of a source squelched by its loss. -/
def squelchSrc (src : Nat) (s : State) : State :=
  forN 8 (fun n s => if s.rd (F.synSrc n) == src then chanFault n s else s) s

/-- Synthesiser A has lost its lock, or its supply: SYSCLK falls back, its channels are squelched, and the ramp stops with r at 0
(R209). -/
def synaLost (s : State) : State :=
  let s1 := ((squelchSrc 1 (s.clr F.synAlock)).set1 F.synFallback).clr F.synRampRunning
  (({ s1 with sy.stop := none, sy.startPend := false, sy.swing := (0, 0) } : State).wr F.synRoff 0).wr F.synRdepth 0

/-- SYNA_UNLOCK (R209). -/
def synaUnlock (dt : Nat) (s : State) : State := (synaLost s).liveSet .synaUnlock 0 0 9 dt

/-- SYNA_UNLOCK: synthesiser A out of lock for 1 µs. -/
def execSynaUnlock (dt : Dt) (s : State) : Res := when (s.powered && !bit (s.frec .synaUnlock).live 0) (synaUnlock dt.toNat) s

/-- SYNB_UNLOCK: synthesiser B out of lock for 1 µs (R224). -/
def execSynbUnlock (dt : Dt) (s : State) : Res :=
  when (s.powered && !bit (s.frec .synbUnlock).live 0)
    (fun s => (squelchSrc 0 (s.clr F.synBlock)).liveSet .synbUnlock 0 0 9 dt.toNat) s

/-- SYNB_RELOCK: the outputs leave their squelch (R224). -/
def execSynbRelock (s : State) : Res :=
  when (s.powered && s.domOn 4 && !s.is F.synBlock)
    (fun s => forN 8 (fun n s => chanStart n s.tm.now s) ((s.set1 F.synBlock).liveClr .synbUnlock 0)) s

/-- 300 ppm in 2⁻⁴⁸. -/
def ppm300 : Nat := 84442493013

/-- The word lies outside the range of synthesiser B (R207). -/
def wordOver (s : State) : Bool := ppm300 < (s.rdS F.servoFword).natAbs

/-- The word that synthesiser B applies in the beat that begins: one outside its range at the nearer limit, with BCLAMP for as long
(R207). -/
def wordApply (s : State) : State :=
  let s1 : State := { s with sy.word := clampInt (-ppm300) ppm300 (s.rdS F.servoFword) }
  if wordOver s then s1.set1 F.synBclamp else (s1.clr F.synBclamp).liveClr .synbRange 0

/-- SYNB_RANGE (R207). -/
def execSynbRange (dt : Dt) (s : State) : Res :=
  when (s.live && wordOver s) (fun s => (s.set1 F.synBclamp).liveSet .synbRange 0 0 9 dt.toNat) s

/-- CK_UNLOCK (R224): the output is squelched and out of service. -/
def execCkUnlock (n : Fin 8) (dt : Dt) (s : State) : Res :=
  when (s.live && s.is (F.synCken n) && s.is (F.synLocked n))
    (fun s => ((chanFault n s).clr (F.synLocked n)).liveSet .ckUnlock n n 9 dt.toNat) s

/-- CK_RELOCK (R224). -/
def execCkRelock (n : Fin 8) (s : State) : Res :=
  when (s.live && bit (s.frec .ckUnlock).live n) (fun s => (s.set1 (F.synLocked n)).liveClr .ckUnlock n) s

/-! ## The ramp generator (R220 to R223) -/

/-- A word of the active profile. -/
def segWord (s : State) (seg w : Nat) : Nat := s.rd (F.synActive (8 * seg + w))

/-- KIND of a segment; code 3, and the place after segment 15, act as END (log 113: DESIGN CHOICE). -/
def segKind (s : State) (seg : Nat) : Nat := segWord s seg 0 % 4

/-- DUR, TARGET and DEPTH of a RAMP segment, LOOPTO and COUNT of a LOOP segment (R221). -/
def segDur (s : State) (seg : Nat) : Nat := segWord s seg 1 % 16 * 65536 + segWord s seg 2
def segTarget (s : State) (seg : Nat) : Int := sgn 24 (segWord s seg 3 % 256 * 65536 + segWord s seg 4)
def segDepth (s : State) (seg : Nat) : Int := (segWord s seg 5 % 256 * 65536 + segWord s seg 6 : Nat)
def segLoopto (s : State) (seg : Nat) : Nat := segWord s seg 1 % 16
def segCount (s : State) (seg : Nat) : Nat := segWord s seg 2

/-- The profile goes on at a segment, taking LOOP segments without a step of their own, at most `fuel` of them at one strobe (R222, log
99: DESIGN CHOICE). -/
def segEnter : Nat → Nat → State → State
  | 0, _, s => s
  | fuel + 1, seg, s =>
    if 15 < seg then { s with sy.ended := true }
    else
      let s1 := ({ s with sy.off0 := s.rdS F.synRoff, sy.dep0 := (s.rd F.synRdepth : Nat), sy.ended := false } : State).wr
        F.synSegnow seg |>.wr F.synSegbeats 0
      if segKind s seg = 2 then
        if s.rd F.synLooppass < segCount s seg || segCount s seg == 0 then segEnter fuel (segLoopto s seg) (s1.inc F.synLooppass)
        else segEnter fuel (seg + 1) (s1.wr F.synLooppass 0)
      else s1

/-- The profile starts at segment 0 from the present values (R223). -/
def profileStart (s : State) : State :=
  segEnter 17 0 (({ s with sy.startPend := false, sy.stop := none } : State).set1 F.synRampRunning |>.wr F.synLooppass 0)

/-- Centre and depth after `b` of `d` beats of a linear move (R222). -/
def rampPut (tgt dep : Int) (b d : Nat) (s : State) : State :=
  (s.wrS F.synRoff (s.sy.off0 + rdiv ((tgt - s.sy.off0) * b) d)).wr F.synRdepth (s.sy.dep0 + rdiv ((dep - s.sy.dep0) * b) d).toNat

/-- RAMP_STEP: one step of the profile at a strobe (R222), or of the return to 0 (R223). -/
def rampStep (s : State) : State :=
  if s.sy.startPend && s.mode != .provision && s.mode != .boot && !s.is F.synFallback then profileStart s
  else if !s.is F.synRampRunning then s
  else match s.sy.stop with
    | some k => if k < 1024 then { rampPut 0 0 (k + 1) 1024 s with sy.stop := some (k + 1) } else s
    | none =>
      let seg := s.rd F.synSegnow
      let b := s.rd F.synSegbeats + 1
      if segKind s seg = 1 && !s.sy.ended && segDur s seg != 0 then
        let s1 := rampPut (segTarget s seg) (segDepth s seg) b (segDur s seg) s
        if segDur s seg ≤ b then segEnter 17 (seg + 1) s1 else s1.wr F.synSegbeats b
      else if segKind s seg = 2 && !s.sy.ended then segEnter 17 seg s
      else s.inc F.synSegbeats

/-- r would pass a limit: outside −1.00 % to +0.50 % (R220). -/
def rampOver (s : State) : Bool :=
  let c := s.rdS F.synRoff
  let d : Int := (s.rd F.synRdepth : Nat)
  s.is F.synRampRunning &&
  (if s.is F.synRampMode then c - d < -1000000 || 500000 < c else 2 * c - d < -2000000 || 1000000 < 2 * c + d)

/-- The lowest and the highest r of the triangle, in 0.005 ppm, before the limits (R220). -/
def rampSpan (s : State) : Int × Int :=
  let c := 2 * s.rdS F.synRoff
  let d : Int := (s.rd F.synRdepth : Nat)
  if s.is F.synRampMode then (c - 2 * d, c) else (c - d, c + d)

/-- r held from −1.00 % to +0.50 % (R220). -/
def rampHold (x : Int) : Int := clampInt (-2000000) 1000000 x

/-- The swing that synthesiser A applies in the beat that begins, with RCLAMP where a limit acts (R220). -/
def swingApply (s : State) : State :=
  let sp := rampSpan s
  let s1 : State := { s with sy.swing := (rampHold sp.1, rampHold sp.2) }
  if rampOver s then s1.set1 F.synRclamp else s1.liveClr .rampClamp 0

/-- The instantaneous r, in 0.005 ppm, `t` after the triangle was at its lowest, in 2⁻¹⁶ ns: it rises for half a period of SPRRATE and
falls for the other half (R220). -/
def rampAt (s : State) (t : Nat) : Int :=
  let sp := rampSpan s
  let x : Int := (2 * t * s.rd F.synSprrate) % (2 * unitsPerSec) |> fun k => if k ≤ unitsPerSec then k else 2 * unitsPerSec - k
  rampHold (sp.1 + rdiv ((sp.2 - sp.1) * x) unitsPerSec)

/-- RAMP_CLAMP (R220). -/
def execRampClamp (dt : Dt) (s : State) : Res :=
  when (s.live && rampOver s) (fun s => (s.set1 F.synRclamp).liveSet .rampClamp 0 0 9 dt.toNat) s

/-- RAMP_LOAD (R223): the shadow table becomes the active one, and a running profile restarts at segment 0. -/
def rampLoad (s : State) : State :=
  let s1 := forN 128 (fun i s => s.wr (F.synActive i) (s.rd (F.synShadow i))) { s with sy.load := false }
  if s.is F.synRampRunning && s.sy.stop.isNone then profileStart s1 else s1

/-- RAMP_LOAD: RAMPLOAD has been written. -/
def execRampLoad (s : State) : Res := when (s.live && s.sy.load) rampLoad s

/-- RAMPEN set: the active profile starts at segment 0; in PROVISION the start waits (R223). -/
def rampEnable (s : State) : State :=
  let s1 := s.set1 F.synRampen
  if s.is F.synFallback then s1 else { s1 with sy.startPend := true }

/-- RAMP_ENABLE. -/
def execRampEnable (s : State) : Res := when (s.live && !s.is F.synRampen) rampEnable s

/-- RAMPEN cleared: centre and depth return to 0 over 1,024 beats (R223). -/
def rampDisable (s : State) : State :=
  let s1 : State := { s.clr F.synRampen with sy.startPend := false }
  if s.is F.synRampRunning then
    { s1 with sy.stop := some 0, sy.off0 := s.rdS F.synRoff, sy.dep0 := (s.rd F.synRdepth : Nat) }
  else s1

/-- RAMP_DISABLE. -/
def execRampDisable (s : State) : Res := when (s.live && s.is F.synRampen) rampDisable s

/-- RAMP_STOP: the return has taken its 1,024 beats (R223). -/
def execRampStop (s : State) : Res :=
  when (s.live && s.sy.stop == some 1024) (fun s => { s.clr F.synRampRunning with sy.stop := none }) s

/-- Synthesiser A at a strobe: one step of the ramp (R220, R222). -/
def synthStrobe (s : State) : State := if s.live then swingApply (rampStep s) else s

end Sys2Proof.Machine
end

