-- ==== Sys2Proof/Machine/Cal.lean ====
section
/-! DEFINITION. Calibration: runs, acceptance, the stale rule, host writes and factory values (R366 to R382). -/
namespace Sys2Proof.Machine

/-! ## Items (R368, R382) -/

/-- The items of a run, by their REJITEM codes; `arg` names one RIN or output, 0 for all. -/
def calItems (kind arg : Nat) : List Nat :=
  let rins := (List.range 4).map (· + 0x10)
  let tdcs := (List.range 22).map (· + 0x20)
  let cks := (List.range 8).map (· + 0x40)
  match kind with
  | 2 => tdcs
  | 3 => if arg = 0 then rins else [0x0F + arg]
  | 4 => if arg = 0 then cks else [0x3F + arg]
  | _ => 1 :: (rins ++ tdcs ++ cks)

/-- The length of an item in beats. -/
def itemBeats (i : Nat) : Nat := if i < 0x10 then 64 else if i < 0x20 then 32 else if i < 0x40 then 17 else 8

/-- An output that is not running at its turn is skipped. -/
def calSkip (s : State) : List Nat → List Nat
  | [] => []
  | i :: l => if 0x40 ≤ i && !chanRunning s (i - 0x40) then calSkip s l else i :: l

/-- The references that an item holds STALE (R374): a RIN, or the reference on a TDC channel. -/
def itemStale (i : Nat) : Nat :=
  if 0x10 ≤ i ∧ i < 0x14 then 2 ^ (i - 0x10)
  else if 0x20 ≤ i ∧ i < 0x24 then 2 ^ (i - 0x20)
  else if i = 0x24 then 2 ^ 8 else if i = 0x25 then 2 ^ 9 else 0

/-- The run with its items, and the measurements that its first item holds; TDCSTALE, AUXSTALE and STALE show them. -/
def putRun (r : Option CalRun) (s : State) : State :=
  let it := (r.bind (fun r => r.items.head?)).getD 0
  let tdc := if 0x20 ≤ it ∧ it < 0x40 then 2 ^ (it - 0x20) else 0
  let aux := if 0x10 ≤ it ∧ it < 0x14 then 2 ^ (it - 0x10) else if it = 1 then 16 else 0
  let s1 : State := { s with ca.run := r, rf.calStale := itemStale it }
  ((s1.wr F.calTdcstale tdc).wr F.calAuxstale aux).wrB F.dCalStale (tdc != 0 || aux != 0)

/-! ## Starting (R368, R370, R375, R381) -/

/-- A run starts at a strobe: BUSY, LASTKIND, CALCNT and tally 12. -/
def calStart (kind arg cmd : Nat) (s : State) : State :=
  let s1 := (((s.set1 F.dCalBusy).wr F.dLastkind kind).inc F.dCalcnt).tally 12
  putRun (some { kind := kind, items := calSkip s (calItems kind arg), cmd := cmd }) s1

/-- A calibration command at its strobe: behind a scheduled run it waits (R381). -/
def calCommand (kind arg cmd : Nat) (s : State) : State :=
  if s.ca.run.isSome then { s with ca.queued := some (cmd, arg) } else calStart kind arg cmd s

/-- P of R370, in seconds. -/
def calPeriod (s : State) : Nat := match s.rd F.dInterval with | 0 => 3600 | 1 => 21600 | 2 => 86400 | _ => 604800

/-- A scheduled run may start: outside DORMANT, REPLAY and BOOT, with D2 TDC on. -/
def calMay (s : State) : Bool := s.live && s.mode != .dormant && s.mode != .replay && s.domOn 2

/-- SCHEDULED_CAL: skipped while any run is in progress (R381). -/
def execScheduledCal (s : State) : Res :=
  when (s.ca.due && calMay s) (fun s =>
    let s1 : State := { s with ca.due := false }
    if s.ca.run.isSome then s1.inc F.calSkipcnt else calStart 5 0 0 s1) s

/-! ## Acceptance (R371) -/

/-- A value as a signed 16-bit number. -/
def s16 (v : BitVec 16) : Int := v.toInt

/-- A magnitude within a limit. -/
def within (x lim : Int) : Bool := decide (x.natAbs ≤ lim.natAbs)

/-- Plausible against the factory value and, for a change, against the value `cur`: SUPPLY gain and offset, TEMP, AVS. -/
def okGain (v : Int) : Bool := within (v - s16 Config.facSupgain) 1000
def okOff (v : Int) : Bool := within (v - s16 Config.facSupoff) 200
def okTemp (v : Int) : Bool := within (v - s16 Config.facTempoff) 512
def okAvs (d : Nat) (v : Int) : Bool := within (v - s16 (Config.facAvsref d)) 40

/-- CK swing, in 0.1 % of factory; RIN offset, in 0.5 mV; CK skew, in taps. -/
def okSwing (cur v : Int) : Bool := within v 150 && within (v - cur) 30
def okThr (cur v : Int) : Bool := within v 50 && within (v - cur) 10
def okSkew (cur v : Int) : Bool := decide (0 ≤ v) && decide (v ≤ 255) && within (v - cur) 8

/-- The 128 weights of a block, tap 0 first, and the block of 128 weights. -/
def tapsOf (v : Nat) : List Nat := (List.range 128).map (fun i => bits v (16 * (127 - i)) 16)
def ofTaps (l : List Nat) : Nat := l.foldl (fun a w => a * 65536 + w % 65536) 0

/-- The last tap that takes hits. -/
def lastTap (l : List Nat) : Nat := (l.zipIdx.filter (fun p => p.1 != 0)).foldl (fun m p => max m p.2) 0

/-- The hits of a pass, and their total. -/
def hitsOf (l : List (BitVec 24)) : List Nat := (List.range 128).map (fun i => (l.getD i 0).toNat)
def total (l : List Nat) : Nat := l.foldl (· + ·) 0

/-- Every tap weight of the two passes agrees within TDCTOL: count / total × 125 ps, in 1/1024 ps. -/
def passesAgree (tol : Nat) (a b : List Nat) : Bool :=
  let ta := total a
  let tb := total b
  ta != 0 && tb != 0 && (a.zip b).all (fun p => decide (((p.1 * tb : Int) - p.2 * ta).natAbs * 128000 ≤ tol * (ta * tb)))

/-- The mean of the passes is plausible: every weight up to the last tap from 0.3 ps to 4.0 ps. -/
def meanOk (a b : List Nat) : Bool :=
  let ta := total a
  let tb := total b
  let sums := (a.zip b).map (fun p => p.1 * tb + p.2 * ta)
  let last := lastTap sums
  decide (72 ≤ last) && (sums.take (last + 1)).all (fun w => decide (3072 * (ta * tb) ≤ w * 640000) && decide (w * 640000 ≤ 40960 * (ta * tb)))

/-- The mean of the passes, to the nearest 1/1024 ps. -/
def meanTaps (a b : List Nat) : List Nat :=
  let ta := total a
  let tb := total b
  (a.zip b).map (fun p => (ndiv ((p.1 * tb + p.2 * ta) * 64000 : Nat) (max 1 (ta * tb))).toNat)

/-! ## The end of an item (R372) -/

/-- The run records its first rejection, and REJITEM names it. -/
def reject (reason item : Nat) (s : State) : State :=
  match s.ca.run with
  | some r =>
    if r.rej.isSome then s
    else (({ s with ca.run := some { r with rej := some (reason, item) } } : State).wr F.dCalReason reason).wr F.calRejitem item
  | none => s

/-- One value judged by plausibility. -/
def judge (ok : Bool) (item : Nat) (put : State → State) (s : State) : State := if ok then put s else reject 2 item s

/-- A TDC channel: repeat agreement, then plausibility; three failures of plausibility running take it out of service. -/
def judgeTdc (c : Nat) (a b : List Nat) (s : State) : State :=
  if !passesAgree (s.rd F.calTdctol) a b then reject 1 (0x20 + c) { s with ca.fails := s.ca.fails.set c 0 }
  else if meanOk a b then
    (((s.wr (F.calTdcw c) (ofTaps (meanTaps a b))).wr F.calOriginTdc 1).liveClr .tdcFail c) |> fun t => { t with ca.fails := t.ca.fails.set c 0 }
  else
    let k := s.ca.fails.getD c 0 + 1
    let s1 : State := reject 2 (0x20 + c) { s with ca.fails := s.ca.fails.set c k }
    if 3 ≤ k then s1.liveSet .tdcFail c c 2 0 else s1

/-- The bandgap group: SUPPLY, TEMP, AVS and swing, each judged on its own. -/
def judgeBandgap (g o t a5 a6 : Int) (sw : List (BitVec 16)) (s : State) : State :=
  let og (s : State) : State := s.wr F.calOriginBg 1
  let s1 := judge (okGain g && okOff o) 1 (fun s => og ((s.wrS F.calSupgain g).wrS F.calSupoff o)) s
  let s2 := judge (okTemp t) 2 (fun s => og (s.wrS F.calTempoff t)) s1
  let s3 := judge (okAvs 0 a5) 3 (fun s => og (s.wrS (F.calAvsref 0) a5)) s2
  let s4 := judge (okAvs 1 a6) 4 (fun s => og (s.wrS (F.calAvsref 1) a6)) s3
  forN 4 (fun n s =>
    let v := s16 (sw.getD n 0)
    judge (okSwing (s.rdS (F.calSwing n)) v) (8 + n) (fun s => og (s.wrS (F.calSwing n) v)) s) s4

/-- The measurement of an item judged. -/
def judgeItem (item : Nat) (m : CalMeas) (s : State) : State :=
  match m with
  | .bandgap g o t a5 a6 sw => if item = 1 then judgeBandgap (s16 g) (s16 o) (s16 t) (s16 a5) (s16 a6) sw s else s
  | .value v =>
    if 0x10 ≤ item ∧ item < 0x14 then
      judge (okThr (s.rdS (F.calThroff (item - 0x10))) (s16 v)) item
        (fun s => (s.wrS (F.calThroff (item - 0x10)) (s16 v)).wr F.calOriginThr 1) s
    else if 0x40 ≤ item then
      judge (okSkew (s.rd (F.calSkew (item - 0x40))) (s16 v)) item
        (fun s => (s.wrS (F.calSkew (item - 0x40)) (s16 v)).wr F.calOriginSkew 1) s
    else s
  | .tdc a b => if 0x20 ≤ item ∧ item < 0x40 then judgeTdc (item - 0x20) (hitsOf a) (hitsOf b) s else s

/-- A measurement is of the item's kind. -/
def measFits (item : Nat) : CalMeas → Bool
  | .bandgap .. => item == 1
  | .value _ => (0x10 ≤ item && item < 0x14) || 0x40 ≤ item
  | .tdc .. => 0x20 ≤ item && item < 0x40

/-- CAL_ITEM_END: the item has taken its beats; it is accepted or rejected, and the next begins. -/
def execCalItemEnd (m : CalMeas) (s : State) : Res :=
  match s.ca.run with
  | none => .next s
  | some r =>
    match r.items with
    | [] => .next s
    | i :: l =>
      when (s.powered && itemBeats i ≤ r.beats && measFits i m) (fun s =>
        let s1 := judgeItem i m { s with ca.ended := some (s.beatcnt, i) }
        putRun (s1.ca.run.map (fun r => { r with items := calSkip s1 l, beats := 0 })) s1) s

/-! ## The end of a run (R372, R375, R376) -/

/-- A command that waited for a scheduled run starts. -/
def calQueued (s : State) : State :=
  match s.ca.queued with
  | some (c, a) => calStart (c - 0x0F) a c { s with ca.queued := none }
  | none => s

/-- CAL_RUN_END: DONE or FAIL; a failed run raises CAL_REJECT and tally 13. -/
def calRunEnd (r : CalRun) (s : State) : State :=
  let s1 := ((putRun none s).clr F.dCalBusy).fire 42
  let s2 := ((s1.wr F.calLastsec s1.sec).wr F.calLastns (nsOf s1.tm.now)).wrB F.calLastuntr s1.untraced
  let s3 := match r.rej with
    | none => s2.set1 F.dCalDone
    | some p => ((s2.set1 F.dCalFail).tally 13).occ .calReject 0 p.2 2 0
  calQueued (if r.cmd = 0 then s3 else s3.cmdEnd r.cmd (if r.rej.isSome then 5 else 0))

/-- CAL_RUN_END. -/
def execCalRunEnd (s : State) : Res :=
  match s.ca.run with
  | none => .next s
  | some r => when (s.powered && r.items.isEmpty) (calRunEnd r) s

/-- A run abandoned: FAIL with REASON 3, tally 13, CAL_REJECT; its command ends with `err` (R376). -/
def calAbandon (err : Nat) (s : State) : State :=
  match s.ca.run with
  | none => s
  | some r =>
    let s1 := ((((putRun none s).clr F.dCalBusy).set1 F.dCalFail).wr F.dCalReason 3).tally 13
    let s2 := s1.occ .calReject 0 (s1.rd F.calRejitem) 2 0
    let s3 := if r.cmd = 0 then s2 else s2.cmdEnd r.cmd err
    match s3.ca.queued with
    | some (c, _) => ({ s3 with ca.queued := none } : State).cmdEnd c err
    | none => s3

/-! ## Host writes and factory values (R377 to R379) -/

/-- The item that a value belongs to, and whether a written value is plausible against the factory value (R378). -/
def calField (f : Fld) (v : Nat) : Option (Nat × Bool) :=
  let x := sgn 16 v
  let rng (n : Nat) (p : Nat → Bool) : Option Nat := (List.range n).find? p
  if f.key = F.calSupgain.key then some (1, okGain x)
  else if f.key = F.calSupoff.key then some (1, okOff x)
  else if f.key = F.calTempoff.key then some (2, okTemp x)
  else match rng 2 (fun d => f.key == (F.calAvsref d).key) with
  | some d => some (3 + d, okAvs d x)
  | none => match rng 4 (fun n => f.key == (F.calSwing n).key) with
  | some n => some (8 + n, okSwing (s16 (Config.facSwing n)) x)
  | none => match rng 4 (fun n => f.key == (F.calThroff n).key) with
  | some n => some (0x10 + n, okThr (s16 (Config.facThroff n)) x)
  | none => match rng 8 (fun n => f.key == (F.calSkew n).key) with
  | some n => some (0x40 + n, okSkew (Config.facSkew n).toNat (v % 256))
  | none => match rng 22 (fun c => f.key == (F.calTdcw c).key) with
  | some c =>
    let t := tapsOf v
    let last := lastTap t
    some (0x20 + c, decide (72 ≤ last) && (t.take (last + 1)).all (fun w => decide (308 ≤ w) && decide (w ≤ 4096)))
  | none => none

/-- The group's ORIGIN. -/
def originOf_ (item : Nat) : Fld :=
  if item < 0x10 then F.calOriginBg else if item < 0x20 then F.calOriginThr else if item < 0x40 then F.calOriginTdc else F.calOriginSkew

/-- The item is being measured, or its measurement ends at this strobe (R381); the bandgap group is one item. -/
def measuring (s : State) (item : Nat) : Bool :=
  let i := if item < 0x10 then 1 else item
  s.calItem == some i || s.ca.ended == some (s.beatcnt, i)

/-- A host write of a value: refused while its item is measured, counted where implausible, else applied with ORIGIN 2. -/
def calWrite (f : Fld) (v : Nat) (s : State) : State :=
  match calField f v with
  | none => s
  | some (item, ok) =>
    if measuring s item then s.set1 F.calWrbusy
    else if ok then (s.wr f v).wr (originOf_ item) 2
    else s.inc F.calWrrej

/-- CAL_HOST_WRITE: a field of CAL space by its lowest address. -/
def execCalHostWrite (addr : BitVec 12) (v : BitVec 2048) (s : State) : Res :=
  match (grpAt 11 addr.toNat).bind (fun g => g.flds.head?) with
  | none => .next s
  | some f => when s.live (calWrite f (v.toNat % 2 ^ f.w)) s

/-- The factory values in force, with every ORIGIN at 0: the Reset column of CAL space. -/
def facLoad (s : State) : State :=
  let fs := [F.calOriginBg, F.calOriginThr, F.calOriginTdc, F.calOriginSkew, F.calSupgain, F.calSupoff, F.calTempoff] ++
    (List.range 2).map F.calAvsref ++ (List.range 4).map F.calSwing ++ (List.range 4).map F.calThroff ++ (List.range 8).map F.calSkew ++
    (List.range 22).map F.calTdcw
  fs.foldl (fun s f => s.rstFld f) s

/-- FACLOAD: refused with WRBUSY while a run is in progress. -/
def calFacload (s : State) : State := if s.ca.run.isSome then s.set1 F.calWrbusy else facLoad s

/-- FACLOAD. -/
def execFacload (s : State) : Res := when s.live calFacload s

/-! ## The strobe -/

/-- The edges of an output in a beat, a tap or a step at most for each (R373). -/
def chanEdges (s : State) (n : Nat) : Nat :=
  let p := planNow s n
  let d := max 1 (p.denom * unitsPerSec)
  (s.tm.now + unitsPerBeat) * p.numer / d - s.tm.now * p.numer / d

/-- Skew and swing reach the pins one tap or one 1 % step per period (R219, R373). -/
def skewBeat (s : State) : State :=
  forN 8 (fun n s =>
    if !s.is (F.synRunning n) then s
    else
      let k := chanEdges s n
      let sk : Int := s.ca.skew.getD n (Config.facSkew n).toNat
      let sw : Int := s.ca.swing.getD n (s16 (Config.facSwing n))
      { s with
        ca.skew := s.ca.skew.set n (tapToward sk (s.rd (F.calSkew n)) k).toNat
        ca.swing := if n < 4 then s.ca.swing.set n (tapToward sw (s.rdS (F.calSwing n)) (10 * k)) else s.ca.swing }) s

/-- The item in progress needs a domain that is off (R376). -/
def calStarved (s : State) : Bool :=
  match s.calItem with
  | some i => (0x20 ≤ i && i < 0x40 && !s.domOn 2) || (0x10 ≤ i && i < 0x20 && !s.domOn 11)
  | none => false

/-- Calibration at a strobe; `sec` says that it begins a second. -/
def calStrobe (sec : Bool) (s : State) : State :=
  let p := calPeriod s
  let due := sec && s.is F.dAutoen && (s.sec + p - 900 % p) % p == 0
  let s1 : State := { s with ca.due := s.ca.due || due, ca.run := s.ca.run.map (fun r => { r with beats := r.beats + 1 }) }
  skewBeat (if calStarved s1 then calAbandon 5 s1 else s1)

end Sys2Proof.Machine
end

