-- ==== Sys2Proof/Machine/Domains.lean ====
section
/-! DEFINITION. The power domains of each mode, POWREQ as it reads and as it is written, and the start of a bank test (R60, R65,
R66, R141). -/
namespace Sys2Proof.Machine

/-- How a mode powers a domain (R66). -/
inductive DomRule where
  | on | off | h | h0 | w
deriving DecidableEq, Repr

/-- The matrix of R66. -/
def domRule (m : Mode) (d : Nat) : DomRule :=
  if d = 2 then
    (match m with | .boot => .on | .provision => .on | .dormant => .w | .replay => .h0 | .safe => .on | _ => .h)
  else if d = 6 then
    (match m with | .boot => .on | .provision => .on | .ensemble => .on | .dormant => .w | .replay => .h0 | _ => .h)
  else if d = 7 ∨ d = 8 then
    (match m with | .boot => .off | .dormant => .w | .replay => .h0 | _ => .h)
  else if d = 9 ∨ d = 10 then
    (match m with | .boot => .off | .dormant => .h0 | .replay => .h0 | _ => .h)
  else if d = 11 then
    (match m with | .boot => .on | .provision => .on | .dormant => .w | .replay => .h0 | .safe => .on | _ => .h)
  else .on

/-- The host may switch the domain in this mode. -/
def DomRule.host (r : DomRule) : Bool := r == .h || r == .h0

/-- A W domain that the wake window in progress turns on: D7 and D8 where the window's WAKESET names them. -/
def wakes (s : State) (d : Nat) : Bool :=
  s.is F.dWake && (d < 7 || 8 < d || bit ((s.mo.win.map (·.wakeset)).getD 0) (d - 7))

/-- The state that the mode, POWREQ and the wake window give a domain; also what its POWREQ bit reads (R141). -/
def domWanted (s : State) (d : Nat) : Bool :=
  match domRule s.mode d with
  | .on => true
  | .off => false
  | .h => s.bitOf F.dPowreq d
  | .h0 => s.bitOf F.dPowreq d
  | .w => wakes s d

/-- POWREQ as it reads. -/
def powreqView (s : State) : Nat := maskOf 14 (domWanted s)

/-- On entry to a mode POWREQ takes its defaults: 1 for each H domain and 0 for each H0 domain. -/
def powreqDefaults (s : State) : State :=
  s.wr F.dPowreq (maskOf 14 (fun d => match domRule s.mode d with | .h => true | .h0 => false | _ => s.bitOf F.dPowreq d))

/-- A POWREQ write applied: host-switchable bits are taken, and any other bit that differs from what it reads is ignored, which
counts once in POWREJ. -/
def powreqWrite (w : Nat) (s : State) : State :=
  let host (d : Nat) : Bool := (domRule s.mode d).host
  let s1 := s.wr F.dPowreq (maskOf 14 (fun d => if host d then bit w d else s.bitOf F.dPowreq d))
  if (List.range 14).any (fun d => !host d && bit w d != domWanted s d) then s1.inc F.sysPowrej else s1

/-- A bank test may start (R60). -/
def testMay (s : State) : Bool :=
  s.pw.pf == .none && !s.pw.coldStore && s.pw.test.isNone && 55000 ≤ s.rd F.sysHuv

/-- A bank test starts: the bank voltage just before the charger pauses is kept. -/
def testStart (s : State) : State := { s with pw.test := some (s.rd F.sysHuv) }

end Sys2Proof.Machine
end

