-- ==== Sys2Proof/Machine/Ens.lean ====
section
/-! DEFINITION. Ensemble holdover and the Letil Ensemble Protocol (R291 to R311). -/
namespace Sys2Proof.Machine

/-! ## Records and intervals -/

/-- The record of a peer slot. -/
def State.peer (s : State) (k : Nat) : Peer := s.es.peers.getD k {}
def State.setPeer (s : State) (k : Nat) (p : Peer) : State := { s with es.peers := s.es.peers.set k p }

/-- PSTATE of a slot. -/
def peerState (s : State) (k : Nat) : Nat := s.rd (F.ensPstate k)

/-- The strobes of an LEP interval, and the interval that the time scale is in (R294). -/
def lepBeats (s : State) : Nat := logBeats (s.rdS F.ensLoglep)
def lepIv (s : State) : Nat := s.tm.now / unitsPerBeat / lepBeats s

/-- A bit of ENSIRQSTAT set (R310). -/
def ensIrq (i : Nat) (s : State) : State := s.wrBit F.ensIrqstat i true

/-- The ensemble bookkeeping runs: SC with its live inputs; in REPLAY it follows the recording (R409). -/
def ensRuns (s : State) : Bool := s.live && s.scRuns && s.mode != .replay

/-- In DORMANT outside wake windows the peer timers and counts are frozen (R298). -/
def ensFrozen (s : State) : Bool := s.mode == .dormant && !s.is F.dWake

/-! ## The digest (R297) -/

/-- The bytes that DIGEST covers. -/
def digestBytes (s : State) : List Byte :=
  bytesBE 2 (s.rd F.ensEnsid) ++ bytesBE 1 (s.rd F.ptpDomain) ++ bytesBE 1 (s.rd F.ptpProfile) ++ bytesBE 1 (s.rd F.ensLoglep) ++
  bytesBE 4 (s.rd F.servoWper) ++ bytesBE 4 (s.rd F.servoWoff) ++ bytesBE 2 (s.rd F.dThresh) ++ bytesBE 2 (s.rd F.servoGwin) ++
  bytesBE 2 (s.rd F.servoSlewlim) ++ bytesBE 4 (s.rd F.ensDigestx)

/-- DIGEST of the fields in force. -/
def digestOf (s : State) : Nat := crc32 (digestBytes s)

/-! ## Frames (R291 to R293) -/

/-- A report entry. -/
def reportBytes (r : LepReport) : List Byte :=
  bytesBE 8 r.peer.toNat ++ bytesBE 2 r.seq.toNat ++ bytesBE 6 r.sec.toNat ++ bytesBE 4 r.ns.toNat ++ bytesBE 2 r.frac.toNat

/-- The TLV of an LEP frame: its kind, then the fields of R292. -/
def lepTlv (kind : Nat) (b : BeaconIn) : List Byte :=
  let n := b.reports.length
  bytesBE 2 3 ++ bytesBE 2 (6 + 48 + 22 * n + b.extra.length) ++ bytesBE 3 0xDA4B07 ++ bytesBE 3 1 ++ bytesBE 1 b.version.toNat ++ bytesBE 1 kind ++
  bytesBE 1 b.state.toNat ++ bytesBE 1 b.mq.toNat ++ bytesBE 4 b.digest.toNat ++ bytesBE 1 b.hops.toNat ++ bytesBE 1 n ++
  bytesBE 8 b.resacc.toNat ++ bytesBE 6 b.sec.toNat ++ bytesBE 4 b.ns.toNat ++ bytesBE 2 b.frac.toNat ++ bytesBE 8 b.srcid.toNat ++
  bytesBE 1 b.srckind.toNat ++ bytesBE 1 0 ++ bytesBE 4 b.test.toNat ++ bytesBE 2 b.ensid.toNat ++ bytesBE 2 0 ++
  b.reports.flatMap reportBytes ++ b.extra

/-- An LEP frame: a Signaling message with one ORGANIZATION_EXTENSION TLV. -/
def lepBytes (kind : Nat) (b : BeaconIn) : List Byte :=
  let body := bytesBE 8 (2 ^ 64 - 1) ++ bytesBE 2 0xFFFF ++ lepTlv kind b
  bytesBE 1 12 ++ bytesBE 1 2 ++ bytesBE 2 (34 + body.length) ++ bytesBE 1 b.domain.toNat ++ bytesBE 1 0 ++ bytesBE 2 0 ++ bytesBE 8 0 ++
  bytesBE 4 0 ++ bytesBE 8 b.clk.toNat ++ bytesBE 2 b.port.toNat ++ bytesBE 2 b.seq.toNat ++ bytesBE 1 5 ++ bytesBE 1 b.log.toNat ++ body

/-- An LEP frame into the time queue of a port, over IEEE 802.3. -/
def lepPush (n kind : Nat) (b : BeaconIn) (s : State) : State := tqPush n 0x011B19000000 (bytesBE 2 0x88F7 ++ lepBytes kind b) s

/-- The sender's bound on its own time error, in ns (R292). -/
def lepTest (s : State) : Nat :=
  match s.mode with
  | .holdover => s.rd F.servoHest
  | .dormant => s.rd F.servoHest
  | .track => if s.mo.errs.isEmpty then 0xFFFFFFFF else satUns 32 (rdiv (errE0 s.mo.errs) 65536).toNat
  | .ensemble => s.rd F.ensCnoise
  | _ => 0xFFFFFFFF

/-- SRCID and SRCKIND of the reference followed in TRACK (R292). -/
def lepSource (s : State) : Nat × Nat :=
  let sel := s.rd F.dSelref
  let none_ := 2 ^ 64 - 1
  if s.mode != .track || 10 ≤ sel then (none_, 0)
  else if 4 ≤ sel && sel < 8 then
    (((s.ptp (sel - 4)).foreign.find? (fun f => (s.ptp (sel - 4)).parent == some (f.snd, f.sport))).elim none_ Foreign.gm, 2)
  else if sel < 4 && paired s sel then (Config.clkid.toNat, 1)
  else (none_, 3)

/-- The reports of a beacon (R293): QUALIFIED and OBSERVING peers heard in the last interval, in table order. -/
def lepReports (s : State) : List LepReport :=
  (List.range 16).filterMap (fun k =>
    let p := s.peer k
    match p.rx with
    | some (q, t) =>
      if (peerState s k == 1 || peerState s k == 2) && p.rxAge ≤ lepBeats s then
        some ⟨BitVec.ofNat 64 (s.rd (F.ensClockid k)), BitVec.ofNat 16 q, BitVec.ofNat 48 (secOf t.toNat), BitVec.ofNat 32 (nsOf t.toNat),
          BitVec.ofNat 16 (fracOf t.toNat)⟩
      else none
    | none => none)

/-- The unit's own LEP frame on a port, departing at `t`. -/
def ownBeacon (s : State) (n seq t : Nat) (reports : List LepReport) : BeaconIn :=
  let (srcid, srckind) := lepSource s
  { domain := BitVec.ofNat 8 (s.rd F.ptpDomain), clk := Config.clkid, port := BitVec.ofNat 16 (n + 1), seq := BitVec.ofNat 16 seq,
    log := BitVec.ofNat 8 (s.rd F.ensLoglep), version := 0x10,
    state := BitVec.ofNat 8 (s.rd F.dMode + 8 * s.rd F.dReady + 16 * b2n s.untraced), mq := BitVec.ofNat 8 (s.rd F.dMq),
    digest := BitVec.ofNat 32 (digestOf s), hops := 0, resacc := 0, sec := BitVec.ofNat 48 (secOf t), ns := BitVec.ofNat 32 (nsOf t),
    frac := BitVec.ofNat 16 (fracOf t), srcid := BitVec.ofNat 64 srcid, srckind := BitVec.ofNat 8 srckind,
    test := BitVec.ofNat 32 (lepTest s), ensid := BitVec.ofNat 16 (s.rd F.ensEnsid), reports := reports, extra := [] }

/-! ## Sending (R294) -/

/-- LEP may leave a port: LEPEN, its link, in service, the packet core running. -/
def lepPort (s : State) (n : Nat) : Bool := s.is (F.ensLepen n) && s.is (F.portLink n) && !portIsol s n && s.pcRuns

/-- The modes in which LEP is sent (R88), with a port to send on. -/
def lepSends (s : State) : Bool := ptpSends s && (lepPort s 0 || lepPort s 1)

/-- Ensemble gossip runs in this beat (R22, R24). -/
def gossipRuns (s : State) : Bool := !s.deferOff && !bit s.en.abandoned 2

/-- One LEP frame on a port, its departure kept for R296 where it is a beacon. -/
def lepSendOne (n kind t : Nat) (reports : List LepReport) (s : State) : State :=
  let s1 := lepPush n kind (ownBeacon s n s.es.seq t reports) s
  if kind = 1 then { s1 with es.t1 := s1.es.t1.set n (((s.es.seq, (t : Int)) :: s.es.t1.getD n []).take 2) } else s1

/-- LEP_BEACON_TX: the beacon of the interval, in its slot beat or the next that runs gossip. -/
def execLepBeaconTx (dt : Dt) (sub : BitVec 17) (s : State) : Res :=
  when (s.live && s.es.due && lepSends s && gossipRuns s) (fun s =>
    let s1 : State := { s with es.seq := (s.es.seq + 1) % 65536, es.due := false, es.sent := true }
    forN 2 (fun n t => if lepPort s n then lepSendOne n 1 (txInstant s n dt sub) (lepReports s) t else t) s1) s

/-- LEP_LEAVE_TX: one LEAVE on every port that owes one. -/
def execLepLeaveTx (dt : Dt) (sub : BitVec 17) (s : State) : Res :=
  when (s.powered && s.es.leave != 0) (fun s =>
    let s1 : State := { s with es.seq := (s.es.seq + 1) % 65536, es.leave := 0 }
    forN 2 (fun n t =>
      if bit s.es.leave n && s.is (F.portLink n) && !portIsol s n && s.pcRuns then lepSendOne n 2 (txInstant s n dt sub) [] t else t) s1) s

/-- The ports that owe a LEAVE on entry to PROVISION, SAFE or REPLAY: a mode-change hook. -/
def lepLeave (s : State) : State := { s with es.leave := maskOf 2 (fun n => s.is (F.ensLepen n)), es.due := false }

/-! ## Relaying (R295) -/

/-- The sender of an LEP frame as one number. -/
def lepSrc (b : BeaconIn) : Nat := b.clk.toNat * 65536 + b.port.toNat

/-- The frame is the unit's own. -/
def lepOwn (b : BeaconIn) : Bool := b.clk == Config.clkid

/-- Relayed in the last 2 s. -/
def lepDup (s : State) (b : BeaconIn) : Bool :=
  s.es.relayed.any (fun r => r.src == lepSrc b && r.seq == b.seq.toNat && s.beatcnt < r.beat + 2048)

/-- The copy as it leaves: HOPS incremented and the residence added to RESACC. -/
def lepCopy (b : BeaconIn) (resid : Int) : BeaconIn := { b with hops := b.hops + 1, resacc := BitVec.ofInt 64 (b.resacc.toInt + resid) }

/-- A copy sent out of port `e`: refused by a full time queue, dropped in a stalled beat, or counted. -/
def lepRelaySend (n e kind : Nat) (b : BeaconIn) (resid : Int) (s : State) : State :=
  if (s.port n).stalled || (s.port e).stalled then s.inc (F.ptpTcdrop e)
  else
    let s1 := lepPush e kind (lepCopy b resid) s
    let s2 := if tqRoom s e then s1.inc F.ensRelayed else s1
    { s2 with es.relayed := ⟨lepSrc b, b.seq.toNat, s.beatcnt⟩ :: s.es.relayed.filter (fun r => s.beatcnt < r.beat + 2048) }

/-- LEP_RELAY: of any version, out of the other fibre port, under the four conditions; in every mode, since the transmission that R88
turns off is taken to be the unit's own (log 91: DESIGN CHOICE). -/
def lepRelay (n kind : Nat) (b : BeaconIn) (resid : Int) (s : State) : State :=
  let e := 1 - n
  if lepOwn b then s.inc F.ensLoopback
  else if !s.is F.ensRelay then s
  else if s.rd F.ensHopmax < b.hops.toNat + 1 then s.inc F.ensHopdrop
  else if lepDup s b then s.inc F.ensDupdrop
  else if s.is (F.ensLepen e) && s.is (F.portLink e) then lepRelaySend n e kind b resid s
  else s

/-! ## Receiving (R296, R298, R299) -/

/-- LEP is received on a port, of any domainNumber (log 105: DEDUCED), or dropped while the packet core is stopped for a reload (R37). -/
def lepRxOn (s : State) (n : Nat) : Bool := s.live && s.is (F.ensLepen n) && s.is (F.portLink n) && (s.pcRuns || s.pcStops)

/-- The RESACC of a frame in 2⁻¹⁶ ns, and its ORIGIN. -/
def lepT3 (b : BeaconIn) : Int := (ofTime b.sec.toNat b.ns.toNat b.frac.toNat : Nat)

/-- A beacon taken for the strobe, or of another major version (R299). -/
def lepTake (n : Nat) (b : BeaconIn) (t dt : Nat) (s : State) : State :=
  if b.version.toNat / 16 != 1 then ensIrq 4 ((s.inc F.ensVerdrop).occ .lepVersion n n 10 dt)
  else { s with es.rx := s.es.rx ++ [⟨n, b, (t : Int) - b.resacc.toInt, !(s.port n).stalled⟩] }

/-- LEP_BEACON_RX: relayed, and taken within the budget of R281 unless it is the unit's own. -/
def execLepBeaconRx (n : Fin 2) (b : BeaconIn) (resid : BitVec 48) (dt : Dt) (sub : BitVec 17) (s : State) : Res :=
  when (lepRxOn s n) (fun s =>
    let s1 := if s.pcRuns then lepRelay n 1 b resid.toInt s else s
    if lepOwn b then s1 else budgeted false 4 n (lepTake n b (rxInstant s n dt sub) dt.toNat) s1) s

/-- LEP_LEAVE_RX: relayed; its peer is LOST at the strobe. -/
def execLepLeaveRx (n : Fin 2) (b : BeaconIn) (resid : BitVec 48) (dt : Dt) (s : State) : Res :=
  when (lepRxOn s n) (fun s =>
    let s1 := if s.pcRuns then lepRelay n 2 b resid.toInt s else s
    if lepOwn b then s1
    else budgeted false 4 n (fun s =>
      if b.version.toNat / 16 != 1 then ensIrq 4 ((s.inc F.ensVerdrop).occ .lepVersion n n 10 dt.toNat)
      else { s with es.lefts := b.clk.toNat :: s.es.lefts }) s1) s

/-! ## The peer table (R298, R300) -/

/-- A slot moves to a state: PEERCHG on entering or leaving QUALIFIED, the bits of ENSIRQSTAT, and DIGEST_MISMATCH. -/
def peerTo (k st : Nat) (s : State) : State :=
  let old := peerState s k
  if old = st then s
  else
    let s1 := (((s.wr (F.ensPstate k) st).clr (F.ensPstale k)).clr (F.ensExcl k)).clr (F.ensSplit k)
    let s2 := if old = 2 ∨ st = 2 then s1.fire 45 else s1
    let s3 := if old = 3 then s2.liveClr .digestMismatch k else s2
    match st with
    | 2 => ensIrq 0 s3
    | 3 => ensIrq 3 (s3.liveSet .digestMismatch k k 10 0)
    | 4 => ensIrq 1 s3
    | _ => s3

/-- The fields of a peer's block beyond its first word. -/
def peerFlds (k : Nat) : List Fld :=
  [F.ensPeerport k, F.ensHops k, F.ensClockid k, F.ensPstatebits k, F.ensPmq k, F.ensPver k, F.ensPdigest k, F.ensPoff k, F.ensPdelay k,
   F.ensWeight k, F.ensSrcid k, F.ensSrckind k, F.ensTest k, F.ensAge k]

/-- A slot freed. -/
def peerClear (k : Nat) (s : State) : State :=
  ((peerFlds k).foldl (fun s f => s.rstFld f) (peerTo k 0 s)).setPeer k {}

/-- The slot of a clockIdentity. -/
def peerOf (s : State) (clk : Nat) : Option Nat :=
  (List.range 16).find? (fun k => peerState s k != 0 && s.rd (F.ensClockid k) == clk)

/-- The LOST or MISMATCH slot longest without a beacon. -/
def oldestGone (s : State) : Option Nat :=
  (List.range 16).foldl (fun o k =>
    if peerState s k != 3 && peerState s k != 4 then o
    else match o with
      | none => some k
      | some j => if (s.peer j).quiet < (s.peer k).quiet then some k else o) none

/-- The slot that a new peer takes (R300). -/
def newSlot (s : State) : Option Nat := ((List.range 16).find? (fun k => peerState s k == 0)).orElse (fun _ => oldestGone s)

/-- PEERPORT of a peer that enters OBSERVING: the port of its copy with the fewest hops among those of the beat, ties to P0. -/
def bestPort (l : List LepRx) (b : BeaconIn) : Nat :=
  let hops (n : Nat) : Option Nat :=
    (l.filter (fun r => r.port == n && r.b.clk == b.clk)).foldl (fun o r => some (min r.b.hops.toNat (o.getD 256))) none
  match hops 0, hops 1 with
  | some a, some c => if c < a then 1 else 0
  | none, some _ => 1
  | _, _ => 0

/-- A peer enters OBSERVING or MISMATCH on a beacon. -/
def peerEnter (k : Nat) (l : List LepRx) (b : BeaconIn) (s : State) : State :=
  if b.digest.toNat = digestOf s then
    let s1 := (peerTo k 1 s).wr (F.ensPeerport k) (bestPort l b)
    s1.setPeer k { s1.peer k with run := 0, bad := 0, meas := false, rx := none }
  else (if peerState s k = 0 then s.wr (F.ensPeerport k) (bestPort l b) else s) |> peerTo k 3

/-- The measurement of a beacon on PEERPORT (R296): offset and delay from the four times. -/
def peerMeasure (k : Nat) (r : LepRx) (s : State) : State :=
  match r.b.reports.find? (fun q => q.peer == Config.clkid) with
  | none => s
  | some q =>
    match (s.es.t1.getD (s.rd (F.ensPeerport k)) []).find? (fun e => e.1 == q.seq.toNat) with
    | none => s
    | some e =>
      if !r.ok then s
      else
        let a : Int := (ofTime q.sec.toNat q.ns.toNat q.frac.toNat : Nat) - e.2
        let c := lepT3 r.b - r.t4
        let s1 := ((s.wrSat (F.ensPoff k) (rdiv (a + c) 2)).wrSat (F.ensPdelay k) (rdiv (a - c) 2)).clr (F.ensPstale k)
        s1.setPeer k { s1.peer k with meas := true, bad := 0 }

/-- What a beacon says of its sender, shown in the peer's block (R311). -/
def peerShow (k : Nat) (r : LepRx) (s : State) : State :=
  let b := r.b
  let s1 := ((((((s.wr (F.ensClockid k) b.clk.toNat).wr (F.ensPstatebits k) b.state.toNat).wr (F.ensPmq k) b.mq.toNat).wr (F.ensPver k)
    b.version.toNat).wr (F.ensPdigest k) b.digest.toNat).wr (F.ensSrcid k) b.srcid.toNat).wr (F.ensSrckind k) b.srckind.toNat
  let s2 := (s1.wr (F.ensTest k) b.test.toNat).wr (F.ensAge k) 0
  let s3 := s2.setPeer k { s2.peer k with heard := true, quiet := 0 }
  if r.port = s3.rd (F.ensPeerport k) then
    peerMeasure k r ((s3.wr (F.ensHops k) b.hops.toNat).setPeer k { s3.peer k with rx := some (b.seq.toNat, r.t4), rxAge := 0 })
  else s3

/-- A beacon at the strobe: its peer's state by its digest, and what it shows. A LEAVE of the same interval governs (R308). -/
def beaconTake (l : List LepRx) (r : LepRx) (s : State) : State :=
  match peerOf s r.b.clk.toNat with
  | some k =>
    let same := decide (r.b.digest.toNat = digestOf s)
    let enters := if same then (peerState s k == 3 || peerState s k == 4) && (s.peer k).left != some (lepIv s) else peerState s k != 3
    peerShow k r (if enters then peerEnter k l r.b s else s)
  | none =>
    match newSlot s with
    | none => (s.inc F.ensPeerfull).occ .peerTableFull r.port r.port 10 0
    | some k => peerShow k r (peerEnter k l r.b (peerClear k s))

/-- A LEAVE at the strobe. -/
def leaveTake (clk : Nat) (s : State) : State :=
  match peerOf s clk with
  | none => s
  | some k =>
    let s1 := if peerState s k = 1 ∨ peerState s k = 2 then peerTo k 4 s else s
    s1.setPeer k { s1.peer k with left := some (lepIv s) }

/-- What arrived in the beat is taken at its strobe, beacons first. -/
def lepArrivals (s : State) : State :=
  let l := s.es.rx
  let s1 := l.foldl (fun s r => beaconTake l r s) s
  let s2 := s.es.lefts.foldl (fun s c => leaveTake c s) s1
  { s2 with es.rx := [], es.lefts := [] }

/-- The end of an interval for a slot: its runs and AGE. -/
def peerInterval (k : Nat) (s : State) : State :=
  let p := s.peer k
  if peerState s k = 0 then s
  else
    let s1 := if p.heard then s else s.inc (F.ensAge k)
    s1.setPeer k { p with
      run := if peerState s k = 1 then (if p.meas then p.run + 1 else 0) else p.run
      bad := if peerState s k = 2 then (if p.meas then 0 else p.bad + 1) else p.bad
      meas := false, heard := false }

/-- One strobe of every slot's timers. -/
def peerTick (k : Nat) (s : State) : State :=
  if peerState s k = 0 then s else s.setPeer k { s.peer k with quiet := (s.peer k).quiet + 1, rxAge := (s.peer k).rxAge + 1 }

/-- PEER_QUALIFY: PQUAL consecutive intervals with a valid measurement. -/
def execPeerQualify (k : Fin 16) (s : State) : Res :=
  when (ensRuns s && peerState s k == 1 && s.rd F.ensPqual ≤ (s.peer k).run) (peerTo k 2) s

/-- PEER_STALE: no valid measurement for 2 intervals. -/
def execPeerStale (k : Fin 16) (s : State) : Res :=
  when (ensRuns s && peerState s k == 2 && 2 ≤ (s.peer k).bad) (fun s => s.set1 (F.ensPstale k)) s

/-- PEER_LOST: no beacon for PLOST intervals. -/
def execPeerLost (k : Fin 16) (s : State) : Res :=
  when (ensRuns s && (peerState s k == 1 || peerState s k == 2) && s.rd F.ensPlost ≤ s.rd (F.ensAge k)) (peerTo k 4) s

/-- PEER_FREE: 3,600 s without a beacon. -/
def execPeerFree (k : Fin 16) (s : State) : Res :=
  when (ensRuns s && (peerState s k == 3 || peerState s k == 4) && 3600 * 1024 ≤ (s.peer k).quiet) (peerClear k) s

/-! ## Weighting and consensus (R301 to R305) -/

/-- S of an advertised mode: 16 for TRACK, 4 for ENSEMBLE, 1 for HOLDOVER and DORMANT, none for another. -/
def lepS (mode : Nat) : Nat := match mode with | 2 => 16 | 4 => 4 | 3 => 1 | 5 => 1 | _ => 0

/-- The mode a peer advertises. -/
def peerMode (s : State) (k : Nat) : Nat := s.rd (F.ensPstatebits k) % 8

/-- The weight of a slot before exclusion. -/
def peerWeight (s : State) (k : Nat) : Nat :=
  if peerState s k == 2 && !s.is (F.ensPstale k) && !s.is (F.ensSplit k) then lepS (peerMode s k) * (256 + s.rd (F.ensPmq k)) else 0

/-- The unit's own weight. -/
def ownWeight (s : State) : Nat := lepS s.mode.code * (256 + s.rd F.dMq)

/-- Two slots are split (R303). -/
def splitPair (s : State) (j k : Nat) : Bool :=
  j != k && peerState s j == 2 && peerState s k == 2 && peerMode s j == 2 && peerMode s k == 2 &&
  s.rd (F.ensSrcid j) != s.rd (F.ensSrcid k) && nsU (s.rd F.dThresh) < (s.rdS (F.ensPoff j) - s.rdS (F.ensPoff k)).natAbs

/-- The first split pair. -/
def firstSplit (s : State) : Option (Nat × Nat) :=
  ((List.range 16).flatMap (fun j => (List.range 16).map (fun k => (j, k)))).find? (fun p => p.1 < p.2 && splitPair s p.1 p.2)

/-- PEER_SPLIT: every slot's SPLIT, and the fault with its two slots. -/
def splitBeat (s : State) : State :=
  let sp := maskOf 16 (fun j => (List.range 16).any (splitPair s j))
  let was := maskOf 16 (fun k => s.is (F.ensSplit k))
  let s1 := forN 16 (fun k s => s.wrB (F.ensSplit k) (bit sp k)) s
  match firstSplit s with
  | some p => if (List.range 16).all (fun k => !bit sp k || bit was k) then s1 else ensIrq 2 (s1.liveSet .peerSplit 0 (p.1 + 16 * p.2) 1 0)
  | none => s1.liveClr .peerSplit 0

/-- Twice the median of a sorted list. -/
def median2 (l : List Int) : Int :=
  let n := l.length
  if n % 2 = 1 then 2 * l.getD (n / 2) 0 else l.getD (n / 2 - 1) 0 + l.getD (n / 2) 0

/-- The slots of the test set beside the unit (R302). -/
def testSet (s : State) : List Nat := (List.range 16).filter (fun k => 0 < peerWeight s k && peerMode s k != 2)

/-- The slots whose deviation from the median exceeds 4 × the median absolute deviation, MADMIN at least. `m` is twice the
median, `dev` twice a deviation and `a` four times the median deviation. -/
def outliers (s : State) : List Nat :=
  let t := testSet s
  let offs := t.map (fun k => s.rdS (F.ensPoff k))
  let m := median2 (sortInt (0 :: offs))
  let dev (x : Int) : Int := (2 * x - m).natAbs
  let a := max (median2 (sortInt ((0 :: offs).map dev))) (4 * 16384 * s.rd F.ensMadmin)
  if t.length < 2 then [] else t.filter (fun k => decide (2 * a < dev (s.rdS (F.ensPoff k))))

/-- OUTLIER_EXCLUDE: EXCL of every slot for the beat. -/
def outlierBeat (s : State) : State :=
  let l := outliers s
  (forN 16 (fun k s => s.wrB (F.ensExcl k) (l.contains k)) s).incBy F.ensOutlier l.length

/-- WEIGHT of a slot after exclusion. -/
def finalWeight (s : State) (k : Nat) : Nat := if s.is (F.ensExcl k) then 0 else peerWeight s k

/-- The consensus offset in 2⁻¹⁶ ns (R304); with no weight at all the quotient has no value and is free. -/
def consensus (s : State) : State :=
  let w := (List.range 16).foldl (fun a k => a + finalWeight s k) (ownWeight s)
  let x := sumInt ((List.range 16).map (fun k => finalWeight s k * s.rdS (F.ensPoff k)))
  if w = 0 then (s.wr F.ensConsoff s.freeVal).used else s.wrSat F.ensConsoff (rdiv x w)

/-- The peers that count (R305). -/
def peerCount (s : State) : Nat := ((List.range 16).filter (fun k => peerState s k == 2 && !s.is (F.ensSplit k))).length

/-- The peers with weight. -/
def peerContrib (s : State) : Nat := ((List.range 16).filter (fun k => 0 < finalWeight s k)).length

/-- COUNT, CONTRIB and WEIGHT, and the hold-offs of R77. -/
def countBeat (s : State) : State :=
  let c := peerCount s
  let s1 := forN 16 (fun k s => s.wr (F.ensWeight k) (finalWeight s k)) s
  let s2 := (s1.wr F.ensCount c).wr F.ensContrib (peerContrib s)
  if ensFrozen s then s2
  else { s2 with md.rise := if 2 ≤ c then s2.md.rise + 1 else 0, md.fall := if 2 ≤ c then 0 else s2.md.fall + 1 }

/-- CNOISE from the consensus at interval starts (R304). -/
def consNoise (s : State) : State :=
  if s.es.newIv then
    let l := (s.rdS F.ensConsoff :: s.es.cons).take 64
    ({ s with es.cons := l } : State).wr F.ensCnoise (noiseOf l)
  else s

/-- QUAL of REF10 in QUALB (R304). -/
def ref10Qual (s : State) : Nat :=
  if 2 ≤ s.rd F.ensContrib then 3 else if 2 ≤ s.rd F.ensCount then 2
  else if (List.range 16).any (fun k => peerState s k == 1 || peerState s k == 2) then 1 else 0

/-- ENS_WIDE follows |c| against THRESH while the unit steers on the consensus (R306). -/
def ensWide (s : State) : State :=
  if nsU (s.rd F.dThresh) < (s.rdS F.ensConsoff).natAbs then s.liveSet .ensWide 0 0 1 0 else s.liveClr .ensWide 0

/-- ENS_SAMPLE: at the strobe that starts an interval the servo that follows the peers, in ENSEMBLE or in a wake window (R167), takes c;
beyond GW it is slewed off at SLEWLIM. A Graft onto a reference governs (R308). -/
def execEnsSample (s : State) : Res :=
  when (servoRuns s && follows s && s.es.newIv && inputRef s == 10 && !s.is F.dGrafting) (fun s =>
    let c := s.rdS F.ensConsoff
    let s1 := if nsU (graftWindow s) < (c - s.rdS F.servoSlewrem).natAbs then startSlew c false s else s
    ensWide { s1 with es.newIv := false, sv.ensSamp := some c }) s

/-! ## The strobe and the step -/

/-- A step of the time scale: no measurement spans it (R296). -/
def ensStep (s : State) : State :=
  { s with es.t1 := [], es.rx := s.es.rx.map (fun r => { r with ok := false }), es.peers := s.es.peers.map (fun p => (p.1, { p.2 with rx := none })) }

/-- The own beacon at a strobe: missed at the end of its interval, due from its slot beat on (R294). -/
def beaconBeat (s : State) : State :=
  let new := s.es.newIv
  let s1 := if new && s.es.due && lepSends s then s.inc F.ensMisstx else s
  let sent := s.es.sent && !new
  let inIv := s.tm.now / unitsPerBeat % lepBeats s
  { s1 with es.sent := sent, es.due := lepSends s && !sent && s.rd F.ensLepslot % lepBeats s ≤ inIv }

/-- LEPEN cleared on a port owes a LEAVE there (R294). -/
def leaveBeat (s : State) : State :=
  let en := maskOf 2 (fun n => s.is (F.ensLepen n))
  { s with es.leave := s.es.leave ||| (s.es.lepPrev &&& (en ^^^ 3)), es.lepPrev := en }

/-- Ensemble bookkeeping at a strobe (R298 to R305). -/
def ensStrobe (s : State) : State :=
  let s0 := leaveBeat s
  if !ensRuns s then (if s.mode == .replay then { s0 with es.rx := [], es.lefts := [] } else s0)
  else
    let iv := lepIv s
    let s1 := lepArrivals { s0 with es.newIv := iv != s.es.iv, es.iv := iv }
    let s2 := if ensFrozen s1 then s1 else forN 16 (fun k s => peerTick k (if s.es.newIv then peerInterval k s else s)) s1
    let s3 := consNoise (countBeat (consensus (outlierBeat (splitBeat s2))))
    beaconBeat (if follows s && inputRef s == 10 then s3 else s3.liveClr .ensWide 0)

end Sys2Proof.Machine
end

