-- ==== Sys2Proof/Machine/Service.lean ====
section
/-! DEFINITION. The service lock: passwords, challenges, attempts, back-off, relocking, replay upload, microcode update and the
security-version floor (R414 to R428). -/
namespace Sys2Proof.Machine

/-! ## The access record (R347, R415, R423) -/

/-- The access record as it stands: LOCK as 0 or 1, whether a password is set, FAILRUN, the salt and the hash. -/
def accessRec (s : State) : Rec :=
  ⟨true, [(0, min 1 (s.rd F.dLock)), (1, s.rd F.svcPwisset), (2, s.rd F.svcFailrun), (3, s.sc.salt), (4, s.sc.hash)]⟩

/-- The record rewritten, and a store started. -/
def recordAccess (s : State) : State := storeAsk .sched (engineWrite (.access (accessRec s)) s)

/-- LOCK changed: CHG in ACCSTAT, the record and a store. -/
def setLock (n : Nat) (s : State) : State := recordAccess ((s.wr F.dLock n).set1 F.dAccChg)

/-- What power-up recalls of the access record (R143, R423): with no valid one the unit was never locked. -/
def accessRecall (s : State) : State :=
  match s.st.shadow.access with
  | some r =>
    if r.ok then
      let s1 := ((s.wr F.dLock (r.vals.getD 0 0)).wr F.svcPwisset (r.vals.getD 1 0)).wr F.svcFailrun (r.vals.getD 2 0)
      { s1 with sc.salt := r.vals.getD 3 0, sc.hash := r.vals.getD 4 0 }
    else s.wr F.dLock 0
  | none => s.wr F.dLock 0

/-! ## Agents -/

/-- The agent of a command: the host bus 0, the SVC port 8. -/
def svcAgent (svc : Bool) : Nat := if svc then 8 else 0

/-- An agent's buffers, and the buffers replaced (R418). -/
def State.gate (s : State) (a : Nat) : Gate := s.sc.gates.getD a {}
def State.setGate (s : State) (a : Nat) (g : Gate) : State := { s with sc.gates := s.sc.gates.set a g }

/-- The gate answers an agent: the unit has left BOOT, and D13 is on for the SVC port. -/
def gateOpen (svc : Bool) (s : State) : Bool := s.live && (!svc || s.domOn 13)

/-- An access to the gate at an instant (R415). -/
def gateTouch (t : Nat) (s : State) : State := { s with sc.lastUse := t }

/-- A frame that the SVC port accepts (R416). -/
def svcFrame (t : Nat) (s : State) : State :=
  ({ s with sc.lastUse := t, sc.lastFrame := some t } : State).set1 F.dSvcsess

/-- The service block is open (R414). -/
def svcOpen (s : State) : Bool := s.rd F.dLock != 1

/-! ## Back-off (R422) -/

/-- The end of the back-off after `k` failures, from an instant. -/
def backEnd (k t : Nat) : Nat := t + min 86400 (10 * 2 ^ (min k 20 - 1)) * unitsPerSec

/-- The end of the limit of five attempts in 3,600 s. -/
def hourEnd (s : State) : Nat :=
  match s.sc.tries with
  | [a, _, _, _, _] => a + 3600 * unitsPerSec
  | _ => 0

/-- The instant at which no limit blocks attempts any more. -/
def backUntil (s : State) : Nat := max (s.sc.backTo.getD 0) (hourEnd s)

/-- ATTEMPTS: the attempts of the last 3,600 s. -/
def attempts (s : State) (t : Nat) : Nat := (s.sc.tries.filter (fun a => t < a + 3600 * unitsPerSec)).length

/-- BACKOFF, its fault and ATTEMPTS follow the limits at an instant; `m` is the agent whose attempt changed them. -/
def backRefresh (t m : Nat) (s : State) : State :=
  let b := decide (t < backUntil s)
  let s1 := s.wr F.dAttempts (attempts s t)
  if b == s1.is F.dBackoff then s1
  else
    let s2 := (s1.wrB F.dBackoff b).set1 F.dAccChg
    if b then s2.liveSet .unlockBackoff 0 0 m ((t - s.tm.now) / unitsPerEdge) else s2.liveClr .unlockBackoff 0

/-- BOWAIT: the seconds of back-off left. -/
def bowait (s : State) : Nat :=
  if s.is F.dBackoff then (backUntil s - s.tm.now + unitsPerSec - 1) / unitsPerSec else 0

/-- At the end of BOOT a back-off restarts in full where FAILRUN is above 0 (R423). -/
def backRestart (s : State) : State :=
  let k := s.rd F.svcFailrun
  if k = 0 then s
  else backRefresh s.tm.now 0 { s with sc.backTo := some (backEnd k s.tm.now) }

/-- BACKOFF_EXPIRE (R422). -/
def execBackoffExpire (s : State) : Res :=
  when (s.powered && s.tm.running && s.is F.dBackoff && backUntil s < nextBoundary s)
    (fun s => backRefresh (backUntil s) 0 s) s

/-! ## Passwords and challenges (R417 to R420) -/

/-- The bytes in PWBUF, first byte in the high byte of a word. -/
def pwBytes (g : Gate) : List Byte :=
  ((List.range 16).flatMap (fun i => bytesBE 2 (g.pw.getD i 0))).take g.len

/-- A password: 8 to 32 bytes, each from 0x20 to 0x7E. -/
def pwValid (g : Gate) : Bool :=
  8 ≤ g.len && g.len ≤ 32 && (pwBytes g).all (fun b => 0x20 ≤ b.toNat && b.toNat ≤ 0x7E)

/-- The stored value: SHA-256 of the salt followed by the password, iterated 4,096 times. -/
def pwHash (salt : Nat) (pw : List Byte) : Nat := ofBytesBE (shaIter 4096 (bytesBE 16 salt ++ pw))

/-- The response in RSP, 96 bits. -/
def rspValue (g : Gate) : Nat := (List.range 6).foldl (fun n i => n * 65536 + g.rsp.getD i 0) 0

/-- The expected response to a challenge. -/
def rspFor (chal : Nat) : Nat :=
  ofBytesBE ((hmac256 (bytesBE 32 Config.unitKey.toNat) (bytesBE 16 chal ++ bytesBE 8 Config.clkid.toNat)).take 12)

/-- CHAL and CHALLEFT: zero where no challenge is live. -/
def chalValue (s : State) : Nat := (s.sc.chal.map Prod.fst).getD 0
def chalLeft (s : State) : Nat :=
  match s.sc.chal with
  | some (_, t) => (t + 600 * unitsPerSec - s.tm.now + unitsPerSec - 1) / unitsPerSec
  | none => 0

/-- A response is being evaluated. -/
def rspRuns (s : State) : Bool := s.sc.runs.any (fun r => r.rsp && (r.result == 2 || r.result == 3))

/-- CHALREQ: a new challenge replaces the old one, or waits for the verdict of a response (R427). -/
def chalreq (t : Nat) (s : State) : State :=
  let c := (s.freeVal % 2 ^ 128, t)
  State.used (if rspRuns s then { s with sc.chalNext := some c } else { s with sc.chal := some c })

/-- CHALREQ. -/
def execChalreq (svc : Bool) (dt : Dt) (s : State) : Res :=
  when (gateOpen svc s) (fun s => chalreq (s.at dt.toNat) (gateTouch (s.at dt.toNat) s)) s

/-- CHALLENGE_EXPIRE: 600 s after it is issued. -/
def execChallengeExpire (s : State) : Res :=
  match s.sc.chal with
  | none => .next s
  | some (_, t) => when (s.powered && s.tm.running && t + 600 * unitsPerSec < nextBoundary s)
      (fun s => { s with sc.chal := none }) s

/-! ## Submissions (R421, R427, R428) -/

/-- Two instants in one cycle of the system clock, 4 ns. -/
def sameCycle (a b : Nat) : Bool := a / (2 * unitsPerEdge) == b / (2 * unitsPerEdge)

/-- Why a submission is refused without evaluation, as its VERDICT; 0 where it is evaluated. -/
def refusal (agent : Nat) (rsp : Bool) (t : Nat) (s : State) : Nat :=
  if agent = 8 ∧ s.sc.hostAt.any (sameCycle t) then 8
  else if t < backUntil s then 4
  else if rsp && s.sc.chal.isNone then 5
  else if !rsp && !s.is F.svcPwisset then 6
  else if s.rd F.dLock != 1 then 7
  else 0

/-- Whether what was submitted is right. -/
def accepts (agent : Nat) (rsp : Bool) (s : State) : Bool :=
  let g := s.gate agent
  if rsp then s.sc.chal.any (fun c => rspValue g == rspFor c.1)
  else pwHash s.sc.salt (pwBytes g) == s.sc.hash

/-- What an evaluated attempt counts: tally 10 and ATTEMPTS. -/
def countAttempt (agent t : Nat) (s : State) : State :=
  let l := s.sc.tries ++ [t]
  let s1 : State := { s with
    sc.tries := l.drop (l.length - 5), sc.hostAt := if agent = 0 then some t else s.sc.hostAt }
  backRefresh t agent (s1.tally 10)

/-- A submission: its result is settled here and shown 50 ms later; the agent's buffers are cleared, and a challenge ends when a
response is submitted against it. -/
def submit (agent : Nat) (rsp : Bool) (t : Nat) (s : State) : State :=
  let r := refusal agent rsp t s
  let result := if r != 0 then r else if accepts agent rsp s then 2 else 3
  let s1 := s.setGate agent {}
  let s2 : State := { s1 with
    sc.runs := s1.sc.runs ++ [⟨agent, rsp, result, t + 50000000 * 65536, false⟩]
    sc.chal := if rsp then none else s1.sc.chal }
  let s3 := if r = 8 then s2 else ({ s2 with sc.view8 := false } : State).wr F.svcVerdict 1
  let s4 := if r = 4 then s3.inc F.svcBorej else s3
  gateTouch t (if r = 0 then countAttempt agent t s4 else s4)

/-- SUBMITPW. -/
def execSubmitpw (svc : Bool) (dt : Dt) (s : State) : Res :=
  when (gateOpen svc s) (fun s => submit (svcAgent svc) false (s.at dt.toNat) s) s

/-- SUBMITRSP. -/
def execSubmitrsp (svc : Bool) (dt : Dt) (s : State) : Res :=
  when (gateOpen svc s) (fun s => submit (svcAgent svc) true (s.at dt.toNat) s) s

/-- An accepted attempt (R415, R421, R422): LOCK opens, FAILRUN is 0 and tally 11 increments. -/
def verdictOk (a : Attempt) (s : State) : State :=
  let s1 := ({ s with sc.backTo := none } : State).wr F.svcFailrun 0
  let s2 := if s.rd F.dLock = 1 ∧ !a.noLock then setLock (if a.rsp then 3 else 2) s1 else recordAccess s1
  backRefresh a.due a.agent (s2.tally 11)

/-- A failed attempt: FAILRUN, the record, and back-off from the verdict. -/
def verdictFail (a : Attempt) (s : State) : State :=
  let s1 := s.inc F.svcFailrun
  backRefresh a.due a.agent (recordAccess { s1 with sc.backTo := some (backEnd (s1.rd F.svcFailrun) a.due) })

/-- What a verdict does beyond showing. -/
def verdictDo (a : Attempt) (s : State) : State :=
  if a.result = 2 then verdictOk a s else if a.result = 3 then verdictFail a s else s

/-- VERDICT as it shows once an attempt's time is up: pending while another submission runs. -/
def verdictShow (a : Attempt) (s : State) : State :=
  if a.result = 8 then { s with sc.view8 := true }
  else ({ s with sc.view8 := false } : State).wr F.svcVerdict
    (if s.sc.runs.any (fun r => r.result != 8) then 1 else a.result)

/-- A challenge that waited for a response's verdict is shown. -/
def chalShow (s : State) : State :=
  match s.sc.chalNext with
  | some c => if rspRuns s then s else { s with sc.chal := some c, sc.chalNext := none }
  | none => s

/-- VERDICT: 50 ms after a submission. -/
def execVerdict (s : State) : Res :=
  match s.sc.runs with
  | [] => .next s
  | a :: l => when (s.powered && s.tm.running && s.pw.pf == .none && a.due < nextBoundary s)
      (fun s => chalShow (verdictDo a (verdictShow a { s with sc.runs := l }))) s

/-- Pending verdicts abandoned: at a warm reset and in a power-fail sequence (R427). -/
def verdictAbandon (s : State) : State := { s with sc.runs := [] }

/-! ## Lock and password (R415, R417) -/

/-- The unit relocks. -/
def relock (s : State) : State := if s.rd F.dLock = 2 ∨ s.rd F.dLock = 3 then setLock 1 s else s

/-- RELOCK written to the gate. -/
def execRelock (svc : Bool) (dt : Dt) (s : State) : Res :=
  when (gateOpen svc s) (fun s => relock (gateTouch (s.at dt.toNat) s)) s

/-- RELOCK_TIMEOUT. -/
def execRelockTimeout (s : State) : Res :=
  when (s.powered && s.tm.running && (s.rd F.dLock == 2 || s.rd F.dLock == 3) &&
    s.sc.lastUse + s.rd F.svcRelocktime * unitsPerSec < nextBoundary s) relock s

/-- LOCK_SERVICE at its strobe (R125, R415, R427): LOCK becomes 1, and a verdict due at this strobe does not open it. -/
def lockService (s : State) : State :=
  let s1 : State := { s with sc.runs := s.sc.runs.map (fun a => if a.due ≤ s.tm.now then { a with noLock := true } else a) }
  if s1.rd F.dLock = 1 then s1 else setLock 1 s1

/-- SETPW from the host bus (R417): with a valid password, in states 0, 2 and 3, a new salt and hash; in every case the buffers
are cleared. -/
def setpw (s : State) : State :=
  let g := s.gate 0
  let s1 := s.setGate 0 {}
  if svcOpen s && pwValid g then
    let salt := s.freeVal % 2 ^ 128
    recordAccess (({ s1.used with sc.salt := salt, sc.hash := pwHash salt (pwBytes g) } : State).set1 F.svcPwisset)
  else s1

/-- SETPW. -/
def execSetpw (dt : Dt) (s : State) : Res := when (gateOpen false s) (fun s => setpw (gateTouch (s.at dt.toNat) s)) s

/-- PWCLEAR (R415): in state 3 the password is cleared and LOCK is 0. -/
def pwclear (s : State) : State :=
  if s.rd F.dLock = 3 then setLock 0 (({ s with sc.salt := 0, sc.hash := 0 } : State).clr F.svcPwisset) else s

/-- PWCLEAR. -/
def execPwclear (svc : Bool) (dt : Dt) (s : State) : Res :=
  when (gateOpen svc s) (fun s => pwclear (gateTouch (s.at dt.toNat) s)) s

/-- SVC_SESSION_TIMEOUT (R416). -/
def execSvcSessionTimeout (s : State) : Res :=
  match s.sc.lastFrame with
  | none => .next s
  | some t => when (s.powered && s.tm.running && t + 10 * unitsPerSec < nextBoundary s)
      (fun s => ({ s with sc.lastFrame := none } : State).clr F.dSvcsess) s

/-! ## Replay upload (R424) -/

/-- The modes in which an upload may be open. -/
def uploadMode (m : Mode) : Bool := m == .provision || m == .safe

/-- UPEN set: recording stops and the ring opens for the upload. -/
def uploadOn (s : State) : State :=
  if uploadMode s.mode then ({ s with pr.upload := true } : State).set1 F.svcUpen else s

/-- The upload discarded: the ring restarts with a gap marker. -/
def uploadEnd (s : State) : State :=
  let s1 := s.clr F.svcUpen
  if s.pr.upload then ringGap s.beatcnt { s1 with pr.upload := false, pr.idx := [] } else s1

/-- UPLOAD_ENABLE. -/
def execUploadEnable (s : State) : Res := when (s.live && svcOpen s) uploadOn s

/-- UPLOAD_DISABLE. -/
def execUploadDisable (s : State) : Res := when (s.live && svcOpen s && s.is F.svcUpen) uploadEnd s

/-! ## Microcode update (R425) -/

/-- The staged image as its header and body show it. -/
def stagedImage (m : Mem) : UImage :=
  let h (a n : Nat) : Nat := ofBytesBE (m.readN a n)
  let len := h 12 4
  { magic := h 0 4, engine := h 4 1, hver := h 5 1, sec := h 6 2, ver := h 8 4, len := len
    hashOk := len ≤ 24576 && sha256 (m.readN 128 (min len 24576)) == m.readN 16 32
    sigOk := Config.sigOk (sha256 (m.readN 0 48)) (m.readN 48 64)
    hash := m.readN 16 32, sig := m.readN 48 64, resv := m.readN 112 16, body := m.readN 128 (min len 24576) }

/-- The first check that the staged image fails for an engine code: REASON of R38, or 5 for an engine mismatch. -/
def updateReason (s : State) (code : Nat) (i : UImage) : Nat :=
  if !hdrOk i then 1 else if code = 0 ∨ i.engine != code then 5 else imageReason s.pw.floor (code - 1) i

/-- UCCTL written with GO: the checks, and then the programming. A write while a slot is being programmed has no effect. -/
def microcodeUpdate (w : Nat) (s : State) : State :=
  let code := bits w 0 2
  let i := stagedImage s.sc.stage
  let r := updateReason s code i
  if s.sc.uc.isSome then s
  else if r = 0 then (({ s with sc.uc := some ⟨code - 1, bits w 2 1, i⟩ } : State).wr F.svcUcState 1).wr F.svcUcReason 0
  else (s.wr F.svcUcState 3).wr F.svcUcReason r

/-- MICROCODE_UPDATE. -/
def execMicrocodeUpdate (w : Word) (s : State) : Res :=
  when (s.live && svcOpen s && bit w.toNat 15) (microcodeUpdate w.toNat) s

/-- A code slot programmed: its content and SLOTCNT. -/
def slotProgram (r : UcRun) (ok : Bool) (s : State) : State :=
  let k := 2 * r.e + r.slot
  let n := satUns 16 (s.st.slotCnt.getD k 0 + 1)
  ({ s with
    st.slots := s.st.slots.set k { r.img with bad := !ok }
    st.slotCnt := s.st.slotCnt.set k n
    sc.uc := none } : State).wr (F.svcSlotcnt k) n

/-- MICROCODE_UPDATE_DONE: the slot is programmed and verified, or its program has failed. -/
def execMicrocodeUpdateDone (ok : Bool) (s : State) : Res :=
  match s.sc.uc with
  | none => .next s
  | some r => when s.powered (fun s =>
      ((slotProgram r ok s).wr F.svcUcState (if ok then 2 else 3)).wr F.svcUcReason (if ok then 0 else 6)) s

/-! ## The floor (R426) -/

/-- Every engine has a slot with an image that passes R35 at or above a version. -/
def floorFits (s : State) (n : Nat) : Bool :=
  (List.range 3).all (fun e => (List.range 2).any (fun i =>
    match codeSlot s e i with
    | some x => imageReason s.pw.floor e x == 0 && n ≤ x.sec
    | none => false))

/-- FLOORGO in state 3: the raise is refused, or the fuses are blown. -/
def floorRaise (s : State) : State :=
  let n := s.rd F.svcFloornew
  if s.rd F.dLock != 3 || s.sc.fuse.isSome then s
  else if n ≤ s.pw.floor || !floorFits s n then s.wr F.svcFloorstat 2
  else ({ s with sc.fuse := some n } : State).wr F.svcFloorstat 0

/-- FLOOR_RAISE. -/
def execFloorRaise (s : State) : Res := when (s.live && s.rd F.dLock == 3) floorRaise s

/-- FLOOR_RAISE_DONE: SECFLOOR reads the new value. -/
def execFloorRaiseDone (s : State) : Res :=
  match s.sc.fuse with
  | none => .next s
  | some n => when s.powered (fun s =>
      (({ s with sc.fuse := none, pw.floor := n } : State).wr F.fabSecfloor n).wr F.svcFloorstat 1) s

/-! ## Hooks -/

/-- A warm reset clears the gate buffers, the challenge with CHAL, UPEN with its upload (R424) and a pending verdict (R427,
R428). -/
def svcWarm (s : State) : State :=
  { verdictAbandon (if s.is F.svcUpen then uploadEnd s else s) with sc.gates := [], sc.chal := none, sc.chalNext := none, sc.view8 := false }

/-- A step of the time scale moves the instants that count real time. -/
def svcShift (d : Int) (s : State) : State :=
  let f (t : Nat) : Nat := ((t : Int) + d).toNat
  { s with
    sc.runs := s.sc.runs.map (fun a => { a with due := f a.due })
    sc.chal := s.sc.chal.map (fun c => (c.1, f c.2))
    sc.chalNext := s.sc.chalNext.map (fun c => (c.1, f c.2))
    sc.tries := s.sc.tries.map f
    sc.backTo := s.sc.backTo.map f
    sc.lastUse := f s.sc.lastUse
    sc.lastFrame := s.sc.lastFrame.map f }

/-- ATTEMPTS at a strobe. -/
def svcStrobe (s : State) : State := s.wr F.dAttempts (attempts s s.tm.now)

end Sys2Proof.Machine
end

