-- ==== Sys2Proof/Machine/Views.lean ====
section
/-! DEFINITION. What a field reads: the value in force, or the live view of a condition held elsewhere (R113, R119 to R143, and the
register tables of the other chapters). -/
namespace Sys2Proof.Machine

/-! ## Direct registers -/

/-- One port or PTP event is enabled (IRQSTAT bit 12), and one peer event (bit 13). -/
def portIrq (s : State) : Bool :=
  (List.range 4).any (fun n =>
    s.rd (F.portPirqstat n) &&& s.rd (F.portPirqen n) != 0 || s.rd (F.ptpIrqstat n) &&& s.rd (F.ptpIrqen n) != 0)
def ensLine (s : State) : Bool := s.rd F.ensIrqstat &&& s.rd F.ensIrqen != 0

/-- The host's view of PIPSTAT: bits of tenants' Pips read 0 (R119). -/
def hostPips (s : State) (v : Nat) : Nat := maskOf 16 (fun n => bit v n && s.owner 0 n == 0)

/-- IRQSTAT (R127). No source is listed for bit 14 (log 21). -/
def irqstat (s : State) : Nat :=
  let b : List Bool :=
    [s.is F.dModeChg || s.is F.dRej, s.is F.dCmdDone, s.is F.dRefChg, s.is F.dServoChg, s.is F.dHoldChg, s.is F.dJumpPend,
     hostPips s (s.rd F.dPipstat) != 0, s.is F.dBramEvt, faultLines s != 0, s.is F.dCalDone || s.is F.dCalFail,
     s.is F.dStoredone || s.is F.dCommitdone || s.is F.dStWeak, s.is F.sysSeq || s.is F.sysResumed, portIrq s, ensLine s, false,
     s.is F.dAccChg]
  maskOf 16 (fun i => b.getD i false)

/-- INT# is asserted (R96); with D13 off it is released (R51). -/
def intLow (s : State) : Bool := s.domOn 13 && irqstat s &&& s.rd F.dIrqmask != 0

/-- SELREF carries time of day. -/
def selTime (s : State) : Bool := timeRef s (s.rd F.dSelref)

/-- QUALA, QUALB and the count of qualified references (R131). -/
def quala (s : State) : Nat := (List.range 8).foldl (fun a n => a + summaryOf (s.refState n) * 4 ^ n) 0
def qualb (s : State) : Nat :=
  summaryOf (s.refState 8) + 4 * summaryOf (s.refState 9) + 16 * ref10Qual s + 64 * summary11 s
def qualCount (s : State) : Nat := ((List.range 10).filter s.refQual).length

/-- The reading that the time registers show (R133): the latched one, or the one at instant `t`. -/
def timeShown (s : State) (t : Nat) : Nat := s.tm.latch.getD t

/-- A word of the host's own window state is staged, a snapshot is held, and a committed write waits (R128). -/
def hostPend (s : State) : Bool :=
  s.bus.staging.any (fun e => e.agent == 0) || !s.bus.dstage.isEmpty || (s.md.req.isSome && !s.md.reqAuto) ||
  s.bus.cmd.any (fun c => !c.started)

/-- Derived fields of the direct registers, by register and lowest bit. -/
def directView (s : State) (t addr lo : Nat) : Option Nat :=
  match addr, lo with
  | 2, 3 => some (b2n s.md.req.isSome)
  | 3, 6 => some (b2n s.untraced)
  | 3, 7 => some (b2n (errLow s))
  | 6, 0 => some (irqstat s)
  | 8, 0 => some (s.bus.win.getD 0 {}).space
  | 9, 0 => some ((s.bus.win.getD 0 {}).addr / 65536)
  | 0xA, 0 => some ((s.bus.win.getD 0 {}).addr % 65536)
  | 0xC, 0 => some (b2n (s.bus.win.getD 0 {}).ainc)
  | 0xD, 8 => some (b2n (hostPend s))
  | 0xD, 9 => some (b2n (s.bus.win.getD 0 {}).snap.isSome)
  | 0xD, 10 => some (b2n (s.bus.win.getD 0 {}).stg.isSome)
  | 0xF, 9 => some (b2n (selTime s))
  | 0xF, 13 => some (if s.is F.dGnsstod then s.rd F.refGnssrin else 0)
  | 0x10, 0 => some (quala s)
  | 0x11, 0 => some (qualb s)
  | 0x11, 8 => some (qualCount s)
  | 0x12, 7 => some (b2n (s.is F.servoBwfrz || s.is F.servoBwmanual))
  | 0x14, 8 => some (b2n s.tm.latch.isSome)
  | 0x14, 9 => some (b2n s.untraced)
  | 0x15, 0 => some (secOf (timeShown s t))
  | 0x19, 0 => some (nsOf (timeShown s t))
  | 0x1B, 0 => some (fracOf (timeShown s t))
  | 0x1E, 0 => some (hostPips s (s.rd F.dPipctl))
  | 0x1F, 0 => some (hostPips s (s.rd F.dPipstat))
  | 0x22, 0 => some (faultBlk s)
  | 0x22, 14 => some (maxLevel s)
  | 0x2A, 0 => some (b2n (stoneBusy s))
  | 0x2A, 1 => some (b2n (s.txn 0).isSome)
  | 0x2A, 10 => some (b2n (680 ≤ ((s.txn 0).getD []).length))
  | 0x2A, 11 => some (b2n s.stoneIsol)
  | 0x2C, 0 => some (powreqView s)
  | 0x2F, 8 => some (s.rd F.tenTnen)
  | _, _ => none

/-! ## Window spaces -/

/-- REF: BADCFG and WTRLEFT. -/
def refView (s : State) (addr lo : Nat) : Option Nat :=
  match addr, lo with
  | 0x200, 6 => some (b2n (badCfg s))
  | 0x241, 0 => some (wtrLeft s)
  | _, _ => none

/-- TIME: capture status and heads, and TIO levels. -/
def timeView (s : State) (addr lo : Nat) : Option Nat :=
  if 0x400 ≤ addr ∧ addr < 0x500 then
    (let n := (addr - 0x400) / 16
     match (addr - 0x400) % 16, lo with
     | 1, 0 => some (s.cap n).queue.length
     | 1, 6 => some (b2n (capSrcErr s n))
     | 8, _ => some ((s.cap n).queue.headD 0)
     | _, _ => none)
  else if 0x600 ≤ addr ∧ addr < 0x610 ∧ lo = 14 then some (b2n (tioLevel s (addr - 0x600)))
  else none

/-- BRAMBLE: OWNER, CEN as it reads, and the FIFOs. -/
def bramView (s : State) (addr lo : Nat) : Option Nat :=
  if 0x100 ≤ addr ∧ addr < 0x300 then
    (let c := (addr - 0x100) / 16
     match (addr - 0x100) % 16, lo with
     | 0, 1 => some (s.owner 2 c)
     | 4, _ => some (cenView s c)
     | _, _ => none)
  else if 0x600 ≤ addr ∧ addr < 0x650 then
    (let k := (addr - 0x600) / 16
     match (addr - 0x600) % 16, lo with
     | 0, 0 => some (s.fifo k).length
     | 1, _ => some ((s.fifo k).headD 0)
     | _, _ => none)
  else none

/-- STONE: buffers, journal, serials, programs and tallies (R364). -/
def stoneView (s : State) (addr lo : Nat) : Option Nat :=
  if 0x200000 ≤ addr ∧ addr < 0x200040 then some (s.tallyC ((addr - 0x200000) / 2)).value
  else match addr, lo with
  | 0x100000, _ => some ((s.txn 0).getD []).length
  | 0x100001, _ => some (stripUsed s 0)
  | 0x100002, _ => some s.st.seq
  | 0x100004, _ => some s.st.serial
  | 0x100010, _ => some s.st.eraseA
  | 0x100012, _ => some s.st.eraseB
  | _, _ => none

/-- A word of CAL space as it stands. -/
def calWordAt (s : State) (a : Nat) : Nat :=
  match grpAt 11 a with
  | some g => g.flds.foldl (fun v f => v + s.rd f * 2 ^ f.lo) 0 / 2 ^ (16 * (g.words - 1 - (a - g.base))) % 65536
  | none => 0

/-- CALCRC: the CRC-32 of the value block, words 0x000 to 0xFFD (R382). -/
def calCrc (s : State) : Nat := crc32 ((List.range 4094).flatMap (fun a => bytesBE 2 (calWordAt s a)))

/-- CALCRC and TDCOUT (R380, R382). -/
def calView (s : State) (addr lo : Nat) : Option Nat :=
  match addr, lo with
  | 0xFFE, _ => some (calCrc s)
  | 0x1010, _ => some (maskOf 22 s.tdcOut)
  | _, _ => none

/-- FAULT: lines, levels, live bits, captures and records (R396). -/
def faultView (s : State) (addr lo : Nat) : Option Nat :=
  if addr = 0 then some (faultLines s)
  else if 0x100 ≤ addr ∧ addr < 0x480 then
    (let b := (addr - 0x100) / 64
     let o := (addr - 0x100) % 64
     if o = 0 then some (match lo with | 0 => blkLevel s b | 2 => b2n (s.flt.blkUncl b) | _ => b2n (blkIsol s b))
     else if o = 3 then some (liveWord s b)
     else if o = 8 then some ((s.flt.first.get? b).elim 0 captValue)
     else if o = 0x10 then some ((s.flt.last.get? b).elim 0 captValue)
     else if 0x20 ≤ o ∧ o < 0x30 then some (recWord s b (o - 0x20))
     else none)
  else none

/-- PRESS: the slots (R412). -/
def pressView (s : State) (addr lo : Nat) : Option Nat :=
  if 0x10 ≤ addr ∧ addr < 0x20 then
    (let x := s.snapSlot ((addr - 0x10) / 8)
     match (addr - 0x10) % 8, lo with
     | 0, 0 => some (b2n x.valid)
     | 0, 1 => some (b2n x.short)
     | 0, 2 => some (b2n x.trunc)
     | 0, 4 => some x.cause
     | 1, _ => some (x.t % 2 ^ 48)
     | _, _ => none)
  else none

/-- SVC: mirrors, VERDICT in the SVC port's view, BOWAIT and the challenge (R428). -/
def svcView (s : State) (g addr lo : Nat) : Option Nat :=
  match addr, lo with
  | 0, 0 => some (s.rd F.dLock)
  | 0, 2 => some (s.rd F.dBackoff)
  | 0, 4 => if g = 8 ∧ s.sc.view8 then some 8 else none
  | 2, 0 => some (bowait s)
  | 8, _ => some (chalValue s)
  | 0x16, _ => some (chalLeft s)
  | _, _ => none

/-- The time that a tenant's view shows: its own latch, or the reading at instant `t` (R340). -/
def timeLatched (s : State) (k t : Nat) : Nat := (s.tm.tlatch.get? k).getD t

/-- A tenant's own view block and STONE status (R345, R365). -/
def tenantView (s : State) (t addr lo : Nat) : Option Nat :=
  let k := addr / 0x1000
  let a := timeLatched s k t
  match addr % 0x1000, lo with
  | 0x100, 0 => some (k + 1)
  | 0x101, 0 => some (s.rd F.dMode)
  | 0x101, 3 => some (b2n s.untraced)
  | 0x101, 4 => some (b2n (selTime s))
  | 0x101, 5 => some (s.rd F.dReady)
  | 0x102, 8 => some (b2n (s.tm.tlatch.get? k).isSome)
  | 0x103, 48 => some (secOf a)
  | 0x103, 16 => some (nsOf a)
  | 0x103, 0 => some (fracOf a)
  | 0x110, _ => some (s.rd (F.tenPipmask k))
  | 0x111, _ => some (s.rd (F.tenCapmask k))
  | 0x112, _ => some (s.rd (F.tenChanmask k))
  | 0x114, _ => some (s.rd (F.tenTiomask k))
  | 0x115, _ => some (s.rd (F.tenCkmask k))
  | 0x116, _ => some (s.rd (F.tenStoneblk k))
  | 0x117, _ => some (s.rd (F.tenPressblk k) + 16 * s.rd (F.tenLogblk k))
  | 0x201, 0 => some (b2n (s.txn (k + 1)).isSome)
  | 0x202, _ => some ((s.txn (k + 1)).getD []).length
  | _, _ => none

/-- The live view of a field to agent `g` at instant `t`; none where it reads the value in force. -/
def liveVal (s : State) (g t : Nat) (f : Fld) : Option Nat :=
  match f.sp with
  | 1 => refView s f.addr f.lo
  | 4 => timeView s f.addr f.lo
  | 7 => if f.addr = 5 then some (digestOf s) else none
  | 8 => bramView s f.addr f.lo
  | 10 => stoneView s f.addr f.lo
  | 11 => calView s f.addr f.lo
  | 12 => faultView s f.addr f.lo
  | 13 => pressView s f.addr f.lo
  | 14 => svcView s g f.addr f.lo
  | 15 => if f.addr = 3 ∧ f.lo = 0 then some (s.beatcnt % 3) else none
  | 16 => directView s t f.addr f.lo
  | 17 => tenantView s t f.addr f.lo
  | _ => none

/-! ## Pending writes (R111, R118) -/

/-- The last value in a list of written fields for a key. -/
def lastWrite (k : Nat) (l : List (Fld × Nat)) : Option Nat :=
  l.foldl (fun r p => if p.1.key == k && p.1.acc != .w1c then some p.2 else r) none

/-- A committed write of agent `g` to a field that waits for the strobe. -/
def pendVal (s : State) (g : Nat) (f : Fld) : Option Nat :=
  let staged := lastWrite f.key (s.bus.staging.flatMap (fun e => if e.agent == g then e.flds else []))
  if g = 0 then (lastWrite f.key s.bus.dstage).or staged else staged

/-- What a field reads to agent `g` at instant `t` (R6, R111, R113). -/
def viewFld (s : State) (g t : Nat) (f : Fld) : Nat :=
  if f.acc = .wo then 0
  else
    let x := match f.owner with | some e => s.pub e | none => s
    ((pendVal s g f).getD ((liveVal x g t f).getD (x.rd f))) % 2 ^ f.w

/-- What a word group reads. -/
def viewGrp (s : State) (g t : Nat) (l : List Fld) : Nat := l.foldl (fun a f => a + viewFld s g t f * 2 ^ f.lo) 0

end Sys2Proof.Machine
end

