-- ==== Sys2Proof/Machine/Window.lean ====
section
/-! DEFINITION. The windows of every agent: which words answer, reads with their snapshots, and commits (R103 to R114, R329, R340).
Agents carry the codes of R25: the host bus 0, TL1 to TL4 4 to 7, the SVC port 8. -/
namespace Sys2Proof.Machine

/-! ## Who reaches what -/

/-- The tenant whose link an agent is. -/
def tenantOf (g : Nat) : Option Nat := if 4 ≤ g ∧ g < 8 then some (g - 3) else none

/-- The window state of an agent, and the state with it replaced. -/
def State.winOf (s : State) (g : Nat) : Win := s.bus.win.getD g {}
def State.setWin (s : State) (g : Nat) (w : Win) : State := { s with bus.win := s.bus.win.set g w }

/-- The bytes of the tenants' sections in a snapshot slot (R404). -/
def sectBytes (x : SnapSlot) : Nat := x.sects.foldl (fun n p => n + p.2.length) 0

/-- A word of a PRESS slot image lies in a tenant's section. -/
def inSection (s : State) (a : Nat) : Bool :=
  let i := (a - 0x100000) / 0x40000
  let o := 2 * ((a - 0x100000) % 0x40000)
  0x100000 ≤ a && a < 0x180000 && 33280 ≤ o && o < 33280 + sectBytes (s.snapSlot i)

/-- Words that the custodian view leaves out, whoever owns what (R329, R344, R345, R347, R365, R413). -/
def custodianDenied (s : State) (sp a : Nat) : Bool :=
  (sp == 10 && (0x4800 ≤ a && a < 0x5000 || 0x40000 ≤ a && a < 0x80000 || 0x400000 ≤ a && a < 0x422000)) ||
  (sp == 13 && (0x300000 ≤ a && a < 0x304000 || 0x310000 ≤ a && a < 0x318000 || inSection s a)) ||
  (sp == 9 && 0x100 ≤ a && a < 0x120) ||
  (wordOwner s sp a).getD 0 != 0

/-- The shared words that a tenant may only read (R340): UTCOFF, UTCSRC, LEAPPEND, LEAPDIR and LEAPAT, and PEDGE and PW of its own
pins. -/
def sharedWord (s : State) (j sp a : Nat) : Bool :=
  (sp == 4 && a < 6) ||
  (sp == 8 && (0x400 ≤ a && a < 0x410 && s.owner 3 (a - 0x400) == j || 0x500 ≤ a && a < 0x510 && s.owner 3 (a - 0x500) == j))

/-- The words that a tenant reaches through its link (R340). -/
def tenantReaches (s : State) (j sp a : Nat) : Bool :=
  wordOwner s sp a == some j || sharedWord s j sp a || (sp == 9 && 0x100 ≤ a && a < 0x120) ||
  (sp == 10 && 0x400000 ≤ a && a < 0x422000) ||
  (sp == 13 && (0x300000 ≤ a && a < 0x304000 || 0x310000 ≤ a && a < 0x318000))

/-- A word is DENIED to an agent (R105, R414). -/
def denied (s : State) (g sp a : Nat) : Bool :=
  match tenantOf g with
  | some j => !tenantReaches s j sp a
  | none =>
    let gate := sp == 14 && a < 0x40
    if s.rd F.dLock = 1 ∧ (sp = 14 ∨ g = 8) ∧ !gate then true else custodianDenied s sp a

/-! ## Words that are no register field -/

/-- An area of words (R347, R365, R412, R413, R428): the shadow SRAM, a tenant's Stone and log partitions, the ring, a slot image,
the slow record, a tenant's Press partition and its section of a slot, the upload area, and UCSTAGE. -/
inductive Area where
  | shadow | part | log | ring | slot (i : Nat) | slow | tpress | section_ (i : Nat) | upload | stage
deriving DecidableEq, Repr

/-- The area of a word for an agent, and the word's place in it. -/
def areaOf (s : State) (g sp a : Nat) : Option (Area × Nat) :=
  let k := g - 4
  if sp = 10 then
    (if a < 0x80000 then some (.shadow, a)
     else if 0x400000 ≤ a ∧ a < 0x410000 ∧ a - 0x400000 < 2048 * (partOf s k).length then some (.part, a - 0x400000)
     else if 0x420000 ≤ a ∧ a < 0x422000 ∧ a - 0x420000 < 2048 * (logOf s k).length then some (.log, a - 0x420000)
     else none)
  else if sp = 13 then
    (if 0x080000 ≤ a ∧ a < 0x100000 then some (.ring, a - 0x080000)
     else if 0x100000 ≤ a ∧ a < 0x180000 ∧ (a - 0x100000) % 0x40000 < 0x30000 then
       some (.slot ((a - 0x100000) / 0x40000), (a - 0x100000) % 0x40000)
     else if 0x200000 ≤ a ∧ a < 0x96D000 then some (.slow, a - 0x200000)
     else if 0x300000 ≤ a ∧ a < 0x304000 ∧ a - 0x300000 < 2048 * s.rd (F.tenPressblk k) then some (.tpress, a - 0x300000)
     else if 0x310000 ≤ a ∧ a < 0x318000 ∧
         2 * ((a - 0x310000) % 0x4000) < (((s.snapSlot ((a - 0x310000) / 0x4000)).sects.getD (k + 1) []).length) then
       some (.section_ ((a - 0x310000) / 0x4000), (a - 0x310000) % 0x4000)
     else none)
  else if sp = 14 then
    (if 0x100000 ≤ a ∧ a < 0x130000 then some (.upload, a - 0x100000)
     else if 0x200000 ≤ a ∧ a < 0x204000 then some (.stage, a - 0x200000)
     else none)
  else none

/-- A record as numbers, for the words of its layout (log 18). -/
def recNums (kind : Nat) (r : Option Rec) : List Nat :=
  match r with
  | some r => kind :: b2n r.ok :: r.vals.flatMap (fun p => [p.1, p.2])
  | none => []

/-- A word of a record; a record that is not held reads 0. -/
def recAt (kind : Nat) (r : Option Rec) (i : Nat) : Nat :=
  if r.isNone then 0 else (Config.recWord (recNums kind r) i).toNat

/-- A word of the shadow SRAM (R347). -/
def shadowWord (s : State) (a : Nat) : Nat :=
  if a < 0x4000 then recAt 0 s.st.shadow.cfg a
  else if a < 0x4800 then recAt 1 s.st.shadow.model (a - 0x4000)
  else if a < 0x5000 then 0
  else s.st.shadow.mem.readW (2 * a)

/-- A word of a list of bytes. -/
def byteWord (l : List Byte) (i : Nat) : Nat := (l.getD (2 * i) 0).toNat * 256 + (l.getD (2 * i + 1) 0).toNat

/-- The facts of a snapshot header (R404). -/
def headNums (x : SnapSlot) : List Nat :=
  [2, x.cause, b2n x.short, b2n x.trunc, x.trigs.length, x.t, x.time, x.start, x.beats, x.recs.length, x.cfgdig] ++ x.trigs ++
    x.imgs.map ofBytesBE ++ x.sects.map (fun p => p.2.length)

/-- A word of a snapshot slot: header, configuration copy, sections, records (R404). -/
def slotWord (x : SnapSlot) (i : Nat) : Nat :=
  let o := 33280 + sectBytes x
  if i < 256 then (if x.valid then (Config.recWord (headNums x) i).toNat else 0)
  else if i < 16640 then (if x.valid then recAt 3 (some ⟨true, x.cfg⟩) (i - 256) else 0)
  else if 2 * i < o then 0
  else byteWord x.recs (i - o / 2)

/-- A word of an area. -/
def areaWord (s : State) (g : Nat) (ar : Area) (i : Nat) : Nat :=
  let k := g - 4
  match ar with
  | .shadow => shadowWord s i
  | .part => ((blockWord (partOf s k) i).elim 0 (fun a => s.st.shadow.mem.readW (2 * a)))
  | .log => ((blockWord (logOf s k) i).elim 0 (fun a => s.st.shadow.mem.readW (2 * a)))
  | .ring => s.en.orchard.readW (2 * i)
  | .slot j => slotWord (s.snapSlot j) i
  | .slow => s.st.slowMem.readW (0x0C0000 + 2 * i)
  | .tpress => s.en.orchard.readW (tenantBase (k + 1) + 2 * i)
  | .section_ j => byteWord ((s.snapSlot j).sects.getD (k + 1) []) i
  | .upload => s.en.orchard.readW (2 * i)
  | .stage => s.sc.stage.readW (2 * i)

/-! ## Register groups -/

/-- The word group that an agent finds at an address: a link finds its own view block and its own STONE status (R345, R365). -/
def agentGrp (g sp a : Nat) : Option (WordGrp × Nat) :=
  let at_ (sp a : Nat) : Option (WordGrp × Nat) := (grpAt sp a).map (fun w => (w, a - w.base))
  match tenantOf g with
  | some j =>
    if sp = 9 ∧ 0x100 ≤ a ∧ a < 0x120 then at_ 17 ((j - 1) * 0x1000 + a)
    else if sp = 10 ∧ 0x410000 ≤ a ∧ a < 0x410006 then at_ 17 ((j - 1) * 0x1000 + 0x200 + (a - 0x410000))
    else at_ sp a
  | none => at_ sp a

/-- Every field of a group is read-only or a counter. -/
def roGrp (l : List Fld) : Bool := l.all (fun f => f.acc == .ro || f.acc == .rc)

/-- The domain of a word is off (R264, R289, R310). -/
def offDom (s : State) (sp : Nat) (w : WordGrp) : Bool :=
  if sp = 5 then
    (let port := 0x100 ≤ w.base && w.base < 0x500
     let n := (w.base - 0x100) / 0x100
     let o := w.base % 0x100
     let status := port && 8 ≤ o && o < 0x14 && !s.domOn (n + 7)
     let counter := w.flds.any (fun f => f.acc == .rc) && !s.domOn 6
     status || counter)
  else if sp = 6 then roGrp w.flds && w.base != 3 && !s.domOn 6
  else if sp = 7 then w.flds.any (fun f => f.acc == .rc) && !s.domOn 6
  else false

/-- The flag of an unavailable access, in the order of R105: DENIED, OFFDOM, UNMAP. -/
def unavail (s : State) (g sp a : Nat) : Option Fld :=
  if denied s g sp a then some F.dWsDenied
  else match agentGrp g sp a with
  | some (w, _) => if offDom s sp w then some F.dWsOffdom else none
  | none => if (areaOf s g sp a).isSome then none else some F.dWsUnmap

/-- An access that answers: the flag is noted in WSTAT for the host bus. -/
def noteUnavail (g : Nat) (f : Fld) (s : State) : State := if g = 0 then s.set1 f else s

/-! ## Reads (R107, R108) -/

/-- The `RC` fields of a group return to their Reset values (R6). -/
def clearRc (l : List Fld) (s : State) : State := l.foldl (fun s f => if f.acc == .rc then s.rstFld f else s) s

/-- A queue head loses its oldest entry as it is snapped (R240, R320). -/
def popHead (sp base t : Nat) (s : State) : State :=
  if sp = 4 ∧ 0x400 ≤ base ∧ base < 0x500 ∧ base % 16 = 8 then capPop ((base - 0x400) / 16) t s
  else if sp = 8 ∧ 0x600 ≤ base ∧ base < 0x650 ∧ base % 16 = 1 then
    (let k := (base - 0x600) / 16
     { s with br.fifos := s.br.fifos.set k (s.fifo k).tail })
  else s

/-- What a group reads to an agent. A tenant reads UTCAUTO as 0 (R340). -/
def grpVal (s : State) (g t sp : Nat) (w : WordGrp) : Nat :=
  let v := viewGrp s g t w.flds
  if (tenantOf g).isSome ∧ sp = 4 ∧ w.base = 1 then v - v % 2 else v

/-- Word `i` of a group value of `n` words, most significant first. -/
def wordOf (v n i : Nat) : Nat := v / 2 ^ (16 * (n - 1 - i)) % 65536

/-- Reading the lowest word of a group: a snapshot of it, ending any other, and the effects of the read. -/
def readLowest (g sp t : Nat) (w : WordGrp) (s0 : State) : Nat × State :=
  let s := if sp = 4 ∧ 0x400 ≤ w.base ∧ w.base < 0x500 ∧ w.base % 16 = 8 then capBack ((w.base - 0x400) / 16) t s0 else s0
  let v := grpVal s g t sp w
  let sn : Option Snap := if w.words = 1 then none else some ⟨sp, w.base, w.words, v⟩
  let s1 := s.setWin g { s.winOf g with snap := sn }
  (wordOf v w.words 0, popHead sp w.base t (clearRc w.flds s1))

/-- Reading a higher word: from the snapshot of its field, or live with TORN. -/
def readHigher (g sp t i : Nat) (w : WordGrp) (s : State) : Nat × State :=
  match (s.winOf g).snap with
  | some sn =>
    if sn.sp = sp ∧ sn.base = w.base then (wordOf sn.value w.words i, s)
    else (wordOf (grpVal s g t sp w) w.words i, if g = 0 then (s.set1 F.dWsTorn).inc F.sysHbtorn else s)
  | none => (wordOf (grpVal s g t sp w) w.words i, if g = 0 then (s.set1 F.dWsTorn).inc F.sysHbtorn else s)

/-- A read of the gate or a frame keeps the service lock open (R415). -/
def touchGate (sp a t : Nat) (s : State) : State := if sp = 14 ∧ a < 0x40 then gateTouch t s else s

/-- A window read by agent `g` of the word at `sp:a` at instant `t`: the word, whether it was unavailable, and the state. -/
def winRead (g sp a t : Nat) (s : State) : Nat × Bool × State :=
  match unavail s g sp a with
  | some f => (0, true, noteUnavail g f s)
  | none =>
    match agentGrp g sp a with
    | some (w, i) =>
      let r := if i = 0 then readLowest g sp t w s else readHigher g sp t i w s
      (r.1, false, touchGate sp a t r.2)
    | none =>
      match areaOf s g sp a with
      | some (ar, i) => (areaWord s g ar i, false, s.setWin g { s.winOf g with snap := none })
      | none => (0, true, s)

/-! ## Ranges (R9) -/

/-- The range of a field that its table gives, by space, place (REF and port blocks folded onto the first) and lowest bit. -/
def rangeOf (f : Fld) : Option (Nat × Nat) :=
  let a := if f.sp = 1 ∧ f.addr < 0x140 then f.addr % 0x20
    else if (f.sp = 5 ∨ f.sp = 6) ∧ 0x100 ≤ f.addr ∧ f.addr < 0x500 then 0x100 + f.addr % 0x100 else f.addr
  match f.sp, a, f.lo with
  | 1, 3, 0 => some (1, 3600)
  | 1, 7, 0 => some (0, 3600)
  | 1, 8, 0 => some (1, 200)
  | 1, 0xC, 0 => some (1, 500)
  | 1, 0x210, 0 => some (0, 64)
  | 2, 1, 0 => some (1, 4095)
  | 2, 2, 0 => some (1, 1500)
  | 2, 3, 0 => some (1, 1500)
  | 2, 6, 0 => some (1, 2000)
  | 2, 0x160, 0 => some (60, 86400)
  | 3, 0x201, 0 => some (30000, 33000)
  | 5, 0x100, 4 => some (0, 2)
  | 5, 0x102, 0 => some (64, 1024)
  | 6, 0x100, 1 => some (0, 2)
  | 6, 0x100, 3 => some (0, 2)
  | 7, 7, 0 => some (1, 15)
  | 7, 8, 0 => some (4, 255)
  | 7, 8, 8 => some (2, 16)
  | 11, 0x1000, 0 => some (51, 512)
  | 12, _, 0 => if f.w = 32 then some (1, 86400) else none
  | 14, 0x100, 0 => some (60, 86400)
  | 16, 0x1C, 0 => some (50, 4095)
  | _, _, _ => none

/-- PMODE's highest code: 2 on P0 to P2, 1 on P3 (R265). -/
def pmodeMax (n : Nat) : Nat := if n = 3 then 1 else 2

/-- A value cut to its field and held in the field's range. LOGLEP is signed, from −2 to 2. -/
def inRange (f : Fld) (v : Nat) : Nat :=
  let x := v % 2 ^ f.w
  if f.key = F.ensLoglep.key then uns 8 (clampInt (-2) 2 (sgn 8 x))
  else if f.sp = 5 ∧ f.addr % 0x100 = 0 ∧ f.lo = 1 ∧ f.w = 2 then min x (pmodeMax ((f.addr - 0x100) / 0x100))
  else match rangeOf f with
  | some (lo, hi) => clampNat lo hi x
  | none => x

/-- WLEN and WMEAS follow WPER and WLEN (R9, R200): WLEN from 4 to 60 and below WPER / 2, WMEAS from 1 to WLEN − 2. -/
def wakeRanges (s : State) : State :=
  let s1 := s.wr F.servoWlen (clampNat 4 (min 60 ((s.rd F.servoWper - 1) / 2)) (s.rd F.servoWlen))
  s1.wr F.servoWmeas (clampNat 1 (s1.rd F.servoWlen - 2) (s1.rd F.servoWmeas))

/-! ## A field takes its value -/

/-- A field written with a value that is in force at once: W1C bits are cleared, a WO field has no value of its own. -/
def putFld (f : Fld) (v : Nat) (s : State) : State :=
  match f.acc with
  | .w1c => s.wr f (s.rd f - (s.rd f &&& v))
  | .wo => s
  | .ro => s
  | .rc => s
  | _ => s.wr f (inRange f v)

/-- TXNCTL: BEGIN, COMMIT and ABORT in bit order (R365). -/
def txnctl (k bitNo : Nat) (s : State) : State :=
  match bitNo with | 0 => tenantBegin k s | 1 => tenantCommit k s | _ => tenantAbort k s

/-- An engine-read field as the engines take it at a strobe (R111): values of CAL under R378, the commands among the fields, the
defaults of a profile under R286. -/
def applyFld (f : Fld) (v : Nat) (s : State) : State :=
  if f.sp = 11 ∧ f.addr < 0x1000 then calWrite f v s
  else if f.key = F.calFacload.key then (if v = 1 then calFacload s else s)
  else if f.key = F.stoTallyinc.key then tallyInc v s
  else if f.sp = 5 ∧ f.acc = .wo then (if v = 1 then diagNow ((f.addr - 0x100) / 0x100) s else s)
  else if f.sp = 17 ∧ f.addr % 0x1000 = 0x200 then (if v = 1 then txnctl (f.addr / 0x1000) f.lo s else s)
  else if f.sp = 17 ∧ f.addr % 0x1000 = 0x203 then logAppend (f.addr / 0x1000) v s
  else if f.key = F.ptpProfile.key then
    (let s1 := putFld f v s
     if s1.rd F.ptpProfile = s.rd F.ptpProfile then s1 else profileDefaults s1)
  else if f.sp = 12 then recoverBlock ((f.addr - 0x100) / 0x40) (putFld f v s)
  else putFld f v s

/-- The ranges that depend on other fields, after a commit takes effect: each write is held against the value the other field has
then, writes of one strobe in the order of their acceptance (R9, R112, log 89: DESIGN CHOICE). -/
def applyAfter (l : List (Fld × Nat)) (s : State) : State :=
  let s0 := if l.any (fun p => p.1.sp == 4 && p.1.addr < 2) then utcAuto s else s
  let s1 := if l.any (fun p => p.1.sp == 6) then ptpClamp s0 else s0
  if l.any (fun p => p.1.sp == 2 && 0x160 ≤ p.1.addr && p.1.addr < 0x164) then wakeRanges s1 else s1

/-- A committed write takes effect. -/
def applyWrite (l : List (Fld × Nat)) (s : State) : State :=
  applyAfter l (l.foldl (fun s p => applyFld p.1 p.2 s) s)

/-! ## Commits -/

/-- A field takes writes from an agent now: RW, W1C and WO fields, and RWL fields in PROVISION; SRC is the custodian's (R6, R330). -/
def takes (s : State) (g : Nat) (f : Fld) : Bool :=
  match f.acc with
  | .rw => true
  | .w1c => true
  | .wo => true
  | .rwl => s.mode == .provision && (g == 0 || g == 8)
  | _ => false

/-- Entries of window staging that an agent's share holds (R112, R339). -/
def stagingUsed (s : State) (g : Nat) : Nat :=
  (s.bus.staging.filter (fun e => if (tenantOf g).isSome then e.agent == g else (tenantOf e.agent).isNone)).length

/-- An agent's share is full. -/
def stagingFull (s : State) (g : Nat) : Bool := (if (tenantOf g).isSome then 64 else 768) ≤ stagingUsed s g

/-- The bits of a field in a group value. -/
def fldBits (f : Fld) (v : Nat) : Nat := v / 2 ^ f.lo % 2 ^ f.w

/-- TNEN (R334): a link opened or closed; closing one empties its response queue. -/
def tnenWrite (v : Nat) (s : State) : State :=
  let s1 := s.wr F.tenTnen v
  { s1 with tn.links := s1.tn.links.map (fun p =>
      if p.1 < 4 && !bit v p.1 then (p.1, { p.2 with queue := [], due := [], out := [], frame := false }) else p) }

/-- A port's word +0x00 takes effect (R247, R251, R261): PEN cleared silences the port, and a PMODE that changes the layer of a
transceiver takes its link down. -/
def portWord (n : Nat) (was : State) (s : State) : State :=
  let s1 := if was.is (F.portPen n) && !s.is (F.portPen n) then portOff n s
    else if !was.is (F.portPen n) && s.is (F.portPen n) then portTrains n s else s
  if n < 2 ∧ s1.is (F.portSfppres n) ∧ s1.rd (F.portPmode n) ≠ was.rd (F.portPmode n) then
    (let lay := sfpLayer (s1.rd (F.portPmode n)) (s1.port n).a0
     if lay = (s1.port n).layer then s1
     else
       let s2 := linkOut n false false s1
       let s3 := s2.setPort n { s2.port n with layer := lay }
       if lay = 0 then (s3.clr (F.portSfpok n)).liveSet .sfpUnsupported n n 9 0
       else (s3.set1 (F.portSfpok n)).liveClr .sfpUnsupported n)
  else if n = 2 then eqShow s1 else s1

/-- UNLCTL (R428), its bits from the lowest up. -/
def unlctl (g w t : Nat) (s : State) : State :=
  let s1 := if bit w 0 then submit g false t s else s
  let s2 := if bit w 1 then submit g true t s1 else s1
  let s3 := if bit w 2 then chalreq t s2 else s2
  let s4 := if bit w 3 then relock s3 else s3
  let s5 := if bit w 4 && g == 0 then setpw s4 else s4
  if bit w 5 then pwclear s5 else s5

/-- A write of the gate's own buffers (R417 to R419); PWLEN is held in its range (R9, R428). -/
def gateWrite (g a w : Nat) (s : State) : State :=
  let q := s.gate g
  if a = 0x18 then s.setGate g { q with len := clampNat 8 32 (w % 64) }
  else if 0x20 ≤ a ∧ a < 0x30 then s.setGate g { q with pw := q.pw.set (a - 0x20) w }
  else s

/-- Groups with a behaviour of their own at the commit, by space and lowest address: `v` is the group's new value and `u` the bits
written; none for the other groups. -/
def commitOwn (g sp base v u t : Nat) (s : State) : Option State :=
  match sp with
  | 0 => if base = 0x212 then some (if bit u 0 && testMay s then testStart s else s) else none
  | 1 => if base = 0x210 then
      some (let s1 := putFld F.refGnsstxlen (fldBits F.refGnsstxlen v) s
            if bit u 15 then { s1 with rf.gn.txGo := true } else s1)
    else none
  | 3 =>
    if 0x20 ≤ base ∧ base < 0xA0 ∧ base % 16 = 0 then
      (let n := (base - 0x20) / 16
       let src := if takes s g (F.synSrc n) then bits v 1 1 else s.rd (F.synSrc n)
       some (ckWord n (v - v / 2 % 2 * 2 + 2 * src) t s))
    else if 0x20 ≤ base ∧ base < 0xA0 ∧ base % 16 = 1 then some (freqCommit ((base - 0x20) / 16) v s)
    else if base = 0x200 then
      (let s1 := (s.wr F.synRampMode (bits v 1 1))
       let s2 := if bit u 4 then s1.clr F.synRclamp else s1
       let s3 := if bit u 2 then { s2 with sy.load := true } else s2
       some (if bit v 0 == s3.is F.synRampen then s3 else if bit v 0 then rampEnable s3 else rampDisable s3))
    else none
  | 4 =>
    if 0x100 ≤ base ∧ base < 0x200 ∧ base % 16 ≠ 15 ∧ s.is (F.timePipArmed ((base - 0x100) / 16)) then
      some (s.set1 (F.timePipWrbusy ((base - 0x100) / 16)))
    else if 0x100 ≤ base ∧ base < 0x200 ∧ (base % 16 = 1 ∨ base % 16 = 8) ∧ 1000000000 ≤ v / 65536 % 4294967296 then
      some (s.set1 F.timeFmterr)
    else if 0x600 ≤ base ∧ base < 0x610 then some (tioConfig (base - 0x600) v s)
    else none
  | 5 =>
    if base = 5 then some (flushMask (u % 16) s)
    else if 0x1000 ≤ base ∧ base < 0x1100 then some (vlanCommit ((base - 0x1000) / 4) v s)
    else none
  | 8 =>
    if base = 0 then some (forN 4 (fun k s => if bit v k then s.wrBit F.bramAlarmok k true else alarmClear k s) s)
    else if 0x100 ≤ base ∧ base < 0x300 then
      (let c := (base - 0x100) / 16
       match (base - 0x100) % 16 with
       | 1 => some (commitPen c v s)
       | 4 => some (commitCen c v s)
       | _ => none)
    else if 0x500 ≤ base ∧ base < 0x510 then
      some ((s.wr (F.bramPw (base - 0x500)) (max 1 (v % 256))).wr (F.bramToggle (base - 0x500)) (bits v 8 1))
    else none
  | 9 => if base = 0 then
      some (let s1 := tnenWrite (v % 16) s
            if bit u 4 then s1.clr F.tenVlanerr else s1)
    else none
  | 12 =>
    if 0x100 ≤ base ∧ base < 0x480 then
      (let b := (base - 0x100) / 64
       match (base - 0x100) % 64 with
       | 1 => some { s with bus.dstage := s.bus.dstage ++ [(F.fltQuiet b, v)] }
       | 5 => some (forceBits b u ((t - s.tm.now) / unitsPerEdge) s)
       | 7 => some (ackBits b u s)
       | _ => none)
    else none
  | 13 => if 0x10 ≤ base ∧ base < 0x20 ∧ base % 8 = 0 then
      some (if bit u 15 then slotFree ((base - 0x10) / 8) s else s) else none
  | 14 =>
    if base = 1 then some (unlctl g u t s)
    else if base = 0x10 then
      some (s.setGate g { s.gate g with rsp := (List.range 6).map (fun i => (i, wordOf v 6 i)) })
    else if base = 0x18 ∨ (0x20 ≤ base ∧ base < 0x30) then some (gateWrite g base v s)
    else if base = 0x102 then some (if bit v 0 then uploadOn s else if s.is F.svcUpen then uploadEnd s else s)
    else if base = 0x103 then some (if bit u 15 then microcodeUpdate u s else s)
    else if base = 0x111 then some (if bit u 15 then floorRaise s else s)
    else none
  | 17 =>
    (let k := base / 0x1000
     match base % 0x1000 with
     | 0x102 => some (if bit u 0 then ({ s with tm.tlatch := s.tm.tlatch.set k (latchEdge s t) } : State).used
                      else if bit u 1 then { s with tm.tlatch := s.tm.tlatch.del k } else s)
     | 0x10C => some (if bit u 15 then
         (let dt := (t - s.tm.now) / unitsPerEdge
          fireChannel (k + 1) (u % 32) (dt / 2 + 1) dt s)
         else s)
     | _ => none)
  | _ => none

/-- What a commit did: applied or staged, changed nothing, or found window staging full. -/
inductive CommitRes where
  | done | ignored | full
deriving DecidableEq, Repr

/-- PIPEN in a tenant's view takes the bits of its own Pips (R119, R345). -/
def ownPips (s : State) (f : Fld) (v : Nat) : Nat :=
  if f.sp = 17 ∧ f.addr % 0x1000 = 0x10A then maskOf 16 (fun n => bit v n && s.owner 0 n == f.addr / 0x1000 + 1) else v

/-- The space that a group's own words stand in: a link reaches its view block through TENANT and STONE (R345, R365). -/
def WordGrp.space (w : WordGrp) (sp : Nat) : Nat := match w.flds with | f :: _ => f.sp | [] => sp

/-- A commit by agent `g` of a group: `v` is the new value of the whole group, `u` the bits written with the other words 0 (R109 to
R112). Engine-read fields wait in window staging; the others take effect now. -/
def commitGrp (g sp : Nat) (w : WordGrp) (v u t : Nat) (s : State) : CommitRes × State :=
  let fs := w.flds.filter (takes s g)
  let val (f : Fld) : Nat := if f.acc = .rw ∨ f.acc = .rwl then ownPips s f (fldBits f v) else fldBits f u
  let eng := (fs.filter Fld.eng).map (fun f => (f, val f))
  if fs.isEmpty then (.ignored, s)
  else if !eng.isEmpty && stagingFull s g then (.full, s)
  else
    let s1 := match commitOwn g (w.space sp) w.base v u t s with
      | some s1 => s1
      | none =>
        let hw := fs.filter (fun f => !f.eng)
        let s1 := hw.foldl (fun s1 f => putFld f (val f) s1) s
        let s2 := if sp = 5 ∧ 0x100 ≤ w.base ∧ w.base < 0x500 ∧ w.base % 0x100 = 0 then portWord ((w.base - 0x100) / 0x100) s s1 else s1
        applyAfter (hw.map (fun f => (f, 0))) s2
    (.done, if eng.isEmpty then s1 else { s1 with bus.staging := s1.bus.staging ++ [⟨g, eng⟩] })

/-! ## Writes -/

/-- Staged words of another field are discarded, which the host bus counts (R109). -/
def dropStage (g : Nat) (s : State) : State :=
  if (s.winOf g).stg.isSome then
    (let s1 := s.setWin g { s.winOf g with stg := none }
     if g = 0 then s1.inc F.sysHbdiscard else s1)
  else s

/-- The staged words that belong to a group. -/
def stagedFor (s : State) (g sp : Nat) (w : WordGrp) : SMap Nat :=
  match (s.winOf g).stg with
  | some x => if x.sp = sp ∧ x.base = w.base then x.vals else []
  | none => []

/-- A group value with some words replaced. -/
def mergeWords (v n : Nat) (m : SMap Nat) : Nat :=
  (List.range n).foldl (fun a i => a * 65536 + (m.get? i).getD (wordOf v n i)) 0

/-- What a group holds for a later commit: the agent's own waiting writes, or the values in force. -/
def heldGrp (s : State) (g : Nat) (l : List Fld) : Nat :=
  l.foldl (fun a f => a + (pendVal s g f).getD (s.rd f) % 2 ^ f.w * 2 ^ f.lo) 0

/-- The response so far is replaced word by word, so words of RSP not written keep what the agent wrote before. -/
def heldFor (s : State) (g sp : Nat) (w : WordGrp) : Nat :=
  if sp = 14 ∧ w.base = 0x10 then mergeWords 0 6 (s.gate g).rsp else heldGrp s g w.flds

/-- A write of a tenant is noted in its Press partition: address, old and new values (R401). -/
def noteWrite (g sp a x t : Nat) (s : State) : State :=
  match tenantOf g with
  | some j =>
    let old := (winRead g sp a t s).1
    tenantLog j 0 (a / 16 % 256) (((a * 65536 + old) * 65536 + x % 65536) * 2 ^ 24) s
  | none => s

/-- A write to the word of an area: gathered by a transaction, or into the upload and staging areas; the others are read-only.
From step 3 of R61 Stone takes none. -/
def areaWrite (g : Nat) (ar : Area) (i x : Nat) (s : State) : Bool × State :=
  let stone (k a : Nat) : Bool × State := if s.pw.pf != .none then (false, s) else gather k a x s
  match ar with
  | .shadow => if g = 0 ∧ 0x5000 ≤ i ∧ i < 0x40000 then stone 0 i else (false, s)
  | .part => match blockWord (partOf s (g - 4)) i with
    | some a => stone (g - 3) a
    | none => (false, s)
  | .upload => if s.is F.svcUpen then (true, { s with en.orchard := s.en.orchard.writeW (2 * i) x }) else (false, s)
  | .stage => (true, { s with sc.stage := s.sc.stage.writeW (2 * i) x })
  | _ => (false, s)

/-- What a write came to: taken, unavailable, refused, or refused with window staging full. -/
inductive WrRes where
  | ok | unavail | refused | full
deriving DecidableEq, Repr

/-- The SVC port writes SVC space only (R414), a tenant only reads the shared words (R340). -/
def mayWrite (s : State) (g sp a : Nat) : Bool :=
  match tenantOf g with
  | some j => !sharedWord s j sp a
  | none => g != 8 || sp == 14

/-- A write of word `i` of a group: staged, or committed with what is staged where it is the highest word. -/
def grpWrite (g sp t i x : Nat) (w : WordGrp) (s : State) : WrRes × State :=
  let m := (stagedFor s g sp w).set i x
  let s0 := if (stagedFor s g sp w).isEmpty then dropStage g s else s
  if i + 1 < w.words then
    (.ok, s0.setWin g { s0.winOf g with stg := some ⟨sp, w.base, w.words, m⟩ })
  else
    let v := mergeWords (heldFor s g sp w) w.words m
    let u := mergeWords 0 w.words m
    let r := commitGrp g sp w v u t (s0.setWin g { s0.winOf g with stg := none })
    (match r.1 with | .done => .ok | .ignored => .refused | .full => .full, r.2)

/-- A window write by agent `g` of word `x` at `sp:a` at instant `t`. -/
def winWrite (g sp a x t : Nat) (s : State) : WrRes × State :=
  match unavail s g sp a with
  | some f => (.unavail, noteUnavail g f s)
  | none =>
    if !mayWrite s g sp a then (.refused, s)
    else
      let s1 := touchGate sp a t (noteWrite g sp a x t s)
      match agentGrp g sp a with
      | some (w, i) => grpWrite g sp t i x w s1
      | none =>
        match areaOf s g sp a with
        | some (ar, i) =>
          let r := areaWrite g ar i x (dropStage g s1)
          (if r.1 then .ok else .refused, r.2)
        | none => (.unavail, s)

end Sys2Proof.Machine
end

