-- ==== Sys2Proof/Machine/Tenant.lean ====
section
/-! DEFINITION. Tenants: allocation and its removals and additions, the wipe, and the frames of the links and of the SVC port (R326
to R345). -/
namespace Sys2Proof.Machine

/-! ## Resources (R330) -/

/-- The fields of the words `lo` to `hi − 1` of a space return to their Reset values, but for the keys that `keep` names. -/
def wordsReset (sp lo hi : Nat) (keep : Nat → Bool) (s : State) : State :=
  { s with regs := s.regs.filter (fun p =>
      keep p.1 || p.1 / 128 / 16777216 != sp || p.1 / 128 % 16777216 < lo || hi ≤ p.1 / 128 % 16777216) }

/-- A pulse of Pip `n` in progress completes its width on its pin although the Pip's settings are gone (R343). -/
def pulseOut (n : Nat) (s : State) : State :=
  match (s.pip n).pulse with
  | some e =>
    if pipDrives s n then s.setTio (pipPin s n) { s.tio (pipPin s n) with pulse := some ((e - s.tm.now + 262143) / 262144) } else s
  | none => s

/-- A Pip taken from its owner: disarmed under R236, its settings at Reset. -/
def pipStop (n : Nat) (s : State) : State :=
  let s1 := pulseOut n s
  let s2 := wordsReset 4 (0x100 + 16 * n) (0x110 + 16 * n) (fun _ => false) { s1 with tm.pipPrev := setBit s1.tm.pipPrev n false }
  s2.setPip n {}

/-- A capture taken from its owner: EDGE 0 and its queue emptied. -/
def capStop (n : Nat) (s : State) : State :=
  (wordsReset 4 (0x400 + 16 * n) (0x410 + 16 * n) (fun _ => false) s).setCap n {}

/-- A channel taken from its owner `k`: every enable cleared, and the FIFO of a tenant emptied. -/
def chanStop (k c : Nat) (s : State) : State :=
  let s1 := wordsReset 8 (0x100 + 16 * c) (0x110 + 16 * c) (fun _ => false) s
  if k = 0 then s1 else { s1 with br.fifos := s1.br.fifos.set k [] }

/-- A TIO pin taken from its owner: DIR 0. -/
def tioStop (p : Nat) (s : State) : State :=
  let s1 := wordsReset 4 (0x600 + p) (0x601 + p) (fun _ => false) s
  s1.setTio p { pin := (s1.tio p).pin }

/-- A CK output taken from its owner: squelched under R215; SRC stays as the custodian set it. -/
def ckStop (n : Nat) (s : State) : State :=
  let s1 := wordsReset 3 (0x20 + 16 * n) (0x30 + 16 * n) (fun k => k == (F.synSrc n).key) (chanDisable n s)
  putPlan n (planNow s1 n) s1

/-- A resource stopped, its settings at Reset: Pips 0, captures 1, channels 2, pins 3, CK outputs 4. -/
def resStop (k kind i : Nat) (s : State) : State :=
  match kind with
  | 0 => pipStop i s
  | 1 => capStop i s
  | 2 => chanStop k i s
  | 3 => tioStop i s
  | _ => ckStop i s

/-- How many resources of a kind there are. -/
def resCount (kind : Nat) : Nat := match kind with | 2 => 32 | 4 => 8 | _ => 16

/-- The allocation word of a kind for TN(k+1), and its DIRTY word (R344). -/
def resMask (kind k : Nat) : Fld :=
  match kind with | 0 => F.tenPipmask k | 1 => F.tenCapmask k | 2 => F.tenChanmask k | 3 => F.tenTiomask k | _ => F.tenCkmask k
def resDirty (kind k : Nat) : Fld :=
  match kind with | 0 => F.tenDpip k | 1 => F.tenDcap k | 2 => F.tenDchan k | 3 => F.tenDtio k | _ => F.tenDck k

/-- The custodian uses a resource (R331, code 3). -/
def custUses (s : State) (kind i : Nat) : Bool :=
  match kind with
  | 0 => s.is (F.timePipArmed i)
  | 1 => s.rd (F.timeCapEdge i) != 0
  | 2 => s.rd (F.bramPen i) != 0 || cenView s i != 0
  | 3 => s.rd (F.timeTioDir i) != 0
  | _ => s.is (F.synCken i)

/-- The owner of a resource set, 0 for the custodian. -/
def setOwner (kind i k : Nat) (s : State) : State :=
  { s with tn.own := if k = 0 then s.tn.own.del (kind * 64 + i) else s.tn.own.set (kind * 64 + i) k }

/-! ## Allocation (R331) -/

/-- A resource of TN(k+1) removed: stopped, the custodian's, and DIRTY from that tenant. -/
def resRemove (k kind i : Nat) (s : State) : State :=
  let s1 := setOwner kind i 0 (resStop (k + 1) kind i s)
  let s2 := s1.wrBit (resDirty kind k) i true
  if kind = 0 then (s2.wrBit (F.tvPipen k) i false).wrBit (F.tvPipfired k) i false else s2

/-- The cleared bits of one allocation word applied. -/
def removeKind (k kind : Nat) (s : State) : State :=
  forN (resCount kind) (fun i s =>
    if s.owner kind i == k + 1 && !s.bitOf (resMask kind k) i then resRemove k kind i s else s) s

/-- Stone blocks taken from TN(k+1): zeroed in the SRAM and DIRTY. -/
def blocksRemove (k : Nat) (l : List Nat) (s : State) : State :=
  if l.isEmpty then s
  else engineWrite (.zero l) { s with st.dirty := l.foldl (fun m b => m.set b (k + 1)) s.st.dirty }

/-- The bytes of a tenant's Orchard partition from an offset on zeroed. -/
def orchardZero (k off : Nat) (s : State) : State :=
  let lo := tenantBase (k + 1)
  { s with en.orchard := s.en.orchard.filter (fun c => c.1 < lo + off || lo + 0x10000 ≤ c.1) }

/-- Sizes that shrink: the highest blocks go. -/
def removeSizes (k : Nat) (s : State) : State :=
  let n := s.rd (F.tenStoneblk k)
  let m := s.rd (F.tenLogblk k)
  let p := s.rd (F.tenPressblk k)
  let s1 := blocksRemove k ((partOf s k).drop n) { s with st.parts := s.st.parts.set (k + 1) ((partOf s k).take n) }
  let s2 := blocksRemove k ((logOf s1 k).drop m) { s1 with st.logs := s1.st.logs.set (k + 1) ((logOf s1 k).take m) }
  if p < s2.tn.press.getD (k + 1) 0 then
    sectsZero (k + 1) (4096 * p) <| orchardZero k (4096 * p) { s2 with tn.press := s2.tn.press.set (k + 1) p, tn.pressDirty := setBit s2.tn.pressDirty k true }
  else s2

/-- Every removal of a tenant. -/
def removeAll (k : Nat) (s : State) : State := removeSizes k (forN 5 (removeKind k) s)

/-- The code that refuses an addition to TN(k+1), 0 where it is accepted. -/
def addCode (s : State) (kind i : Nat) : Nat :=
  if s.owner kind i != 0 then 1
  else if (List.range 4).any (fun j => s.bitOf (resDirty kind j) i) then 2
  else if custUses s kind i then 3
  else 0

/-- An addition of TN(k+1) is accepted or refused; the first refusal of the strobe is what ALLOCERR keeps. -/
def addNote (code : Nat) (p : State × Option Nat) : State × Option Nat :=
  (p.1, match p.2 with | some 0 => some code | some c => some c | none => some code)

/-- The set bits of one allocation word applied. -/
def addKind (k kind : Nat) (p : State × Option Nat) : State × Option Nat :=
  (List.range (resCount kind)).foldl (fun p i =>
    if p.1.bitOf (resMask kind k) i && p.1.owner kind i != k + 1 then
      (let c := addCode p.1 kind i
       let s1 := if c = 0 then
           (let s2 := setOwner kind i (k + 1) (resStop 0 kind i p.1)
            if kind = 0 then (s2.wrBit F.dPipctl i false).wrBit F.dPipstat i false else s2)
         else p.1.wrBit (resMask kind k) i false
       addNote c (s1, p.2))
    else p) p

/-- Tenant blocks that no partition holds. -/
def blocksFree (s : State) : List Nat :=
  (List.range 128).filter (fun b => !(s.st.parts.any (fun p => p.2.contains b) || s.st.logs.any (fun p => p.2.contains b)))

/-- The code for a Stone or log partition of TN(k+1) that grows by `d` blocks to `n`, of at most `m`. -/
def growCode (s : State) (n m d : Nat) : Nat :=
  let clean := (blocksFree s).filter (fun b => (s.st.dirty.get? b).isNone)
  if m < n ∨ (blocksFree s).length < d then 4 else if clean.length < d then 2 else 0

/-- The lowest clean blocks. -/
def cleanBlocks (s : State) (d : Nat) : List Nat := ((blocksFree s).filter (fun b => (s.st.dirty.get? b).isNone)).take d

/-- The Stone partition of TN(k+1) grows. -/
def addStone (k : Nat) (p : State × Option Nat) : State × Option Nat :=
  let s := p.1
  let have_ := (partOf s k).length
  let n := s.rd (F.tenStoneblk k)
  if n ≤ have_ then p
  else
    let c := growCode s n 32 (n - have_)
    addNote c (if c = 0 then { s with st.parts := s.st.parts.set (k + 1) (partOf s k ++ cleanBlocks s (n - have_)) }
      else s.wr (F.tenStoneblk k) have_, p.2)

/-- The log partition of TN(k+1) grows. -/
def addLog (k : Nat) (p : State × Option Nat) : State × Option Nat :=
  let s := p.1
  let have_ := (logOf s k).length
  let n := s.rd (F.tenLogblk k)
  if n ≤ have_ then p
  else
    let c := growCode s n 4 (n - have_)
    addNote c (if c = 0 then { s with st.logs := s.st.logs.set (k + 1) (logOf s k ++ cleanBlocks s (n - have_)) }
      else s.wr (F.tenLogblk k) have_, p.2)

/-- The Press partition of TN(k+1) grows. -/
def addPress (k : Nat) (p : State × Option Nat) : State × Option Nat :=
  let s := p.1
  let have_ := s.tn.press.getD (k + 1) 0
  let n := s.rd (F.tenPressblk k)
  if n ≤ have_ then p
  else
    let c := if bit s.tn.pressDirty k then 2 else if 8 < n then 4 else 0
    addNote c (if c = 0 then { s with tn.press := s.tn.press.set (k + 1) n } else s.wr (F.tenPressblk k) have_, p.2)

/-- Every addition of TN(k+1), and its ALLOCERR. -/
def addAll (k : Nat) (s : State) : State :=
  let p := addPress k (addLog k (addStone k ((List.range 5).foldl (fun p kind => addKind k kind p) (s, none))))
  match p.2 with
  | some c => p.1.wr (F.tenAllocerr k) c
  | none => p.1

/-- A staged write of a link: applied where its agent owns the word now (R331, R343). -/
def linkWrite (e : Staged) (s : State) : State :=
  match tenantOf e.agent with
  | some j =>
    applyWrite (e.flds.filter (fun p => p.1.sp == 17 && p.1.addr / 0x1000 + 1 == j || wordOwner s p.1.sp p.1.addr == some j)) s
  | none => s

/-- The three stages of R331. -/
def allocate (s : State) : State :=
  let s1 := forN 4 addAll (forN 4 removeAll s)
  let s2 := ownerSweepAll s1
  let s3 := s2.bus.staging.foldl (fun s e => linkWrite e s) s2
  { s3 with bus.staging := s3.bus.staging.filter (fun e => (tenantOf e.agent).isNone) }

/-- ALLOCATION_APPLY (R331): it waits while the engines restart (R114). -/
def execAllocationApply (s : State) : Res := when (s.live && s.tm.running && s.en.restart.isNone) allocate s

/-- TNEN_CHANGE (R334). -/
def execTnenChange (v : BitVec 4) (s : State) : Res := when s.live (tnenWrite v.toNat) s

/-! ## Links (R334 to R339). Links 0 to 3 are TL1 to TL4, link 4 the SVC port. -/

/-- The state of a link, and that state replaced. -/
def State.link (s : State) (k : Nat) : Link := s.tn.links.getD k {}
def State.setLink (s : State) (k : Nat) (l : Link) : State := { s with tn.links := s.tn.links.set k l }

/-- The agent behind a link (R25). -/
def linkAgent (k : Nat) : Nat := if k = 4 then 8 else k + 4

/-- The unit serves a link: D13 is on, and TNEN is set for a tenant's. -/
def linkServed (s : State) (k : Nat) : Bool :=
  s.powered && s.domOn 13 && (k == 4 || bit (s.rd F.tenTnen) k)

/-- The tenant of a link is being wiped, which keeps the link closed (R333). -/
def linkWiping (s : State) (k : Nat) : Bool := match s.tn.wipe with | some w => w.k == k | none => false

/-- The counters of a link. -/
def linkFramecnt (k : Nat) : Fld := if k = 4 then F.svcFramecnt else F.tvFramecnt k
def linkAbortcnt (k : Nat) : Fld := if k = 4 then F.svcAbortcnt else F.tvAbortcnt k
def linkCrccnt (k : Nat) : Fld := if k = 4 then F.svcCrccnt else F.tvCrccnt k
def linkRsplost (k : Nat) : Fld := if k = 4 then F.svcRsplost else F.tvRsplost k

/-- ATTN: the tenant's event FIFO holds an entry. -/
def linkAttn (s : State) (k : Nat) : Bool := k != 4 && !(s.fifo (k + 1)).isEmpty

/-- The STATUS byte: `low` gives VALID, UNAVAIL and REFUSED. -/
def statusByte (s : State) (k low sticky : Nat) : Byte := BitVec.ofNat 8 (low + sticky + 128 * b2n (linkAttn s k))

/-- TL_FRAME_START (R337): the oldest visible response goes out on SDO, or a STATUS with VALID 0. While the tenant is wiped the
frame has no effect and counts as ABORT later; while SDO is released (R52), and before BOOT has ended (R87), a frame shifts nothing out
and pops no response. -/
def frameStart (k : Nat) (s : State) : State :=
  let l := s.link k
  if linkWiping s k then s.setLink k { l with wiped := l.wiped + 1, out := [], resp := 0, sent := 0 }
  else if s.pw.auxLow || !s.live then s.setLink k { l with out := [], resp := 0, sent := 0, frame := true }
  else match l.queue with
    | r :: q =>
      let b := statusByte s k r.status l.sticky :: r.bytes
      let out := b ++ [BitVec.ofNat 8 (crc8 b)]
      s.setLink k { l with queue := q, out := out, resp := out.length, sent := l.sticky, frame := true }
    | [] => s.setLink k { l with out := [statusByte s k 0 l.sticky], resp := 0, sent := l.sticky, frame := true }

def execTlFrameStart (k : Fin 5) (s : State) : Res := when (linkServed s k && !(s.link k).frame) (frameStart k) s

/-- What a frame asks for once it is judged: the row of R336 that discards it, or the access. -/
inductive Judged where
  | framing | abort | crc | nop
  | read (sp addr len : Nat)
  | write (sp addr : Nat) (data : List Nat)
deriving DecidableEq, Repr

/-- The bytes of a frame by its opcode and LEN; an unknown opcode is taken as READ is (R335). -/
def frameLen (bytes : List Byte) : Nat :=
  if (bytes.getD 0 0).toNat % 16 = 2 then 6 + 2 * (bytes.getD 4 0).toNat else 6

/-- The judgement of R336 on the whole bytes clocked and the bits beyond them. -/
def judgeFrame (bytes : List Byte) (extra : Nat) : Judged :=
  let b (i : Nat) : Nat := (bytes.getD i 0).toNat
  let n := frameLen bytes
  let op := b 0 % 16
  if extra != 0 then .framing
  else if bytes.length < n then .abort
  else if crc8 (bytes.take (n - 1)) != b (n - 1) then .crc
  else if 2 < op ∨ (op = 0 ∧ b 4 ≠ 0) ∨ (op ≠ 0 ∧ (b 4 = 0 ∨ 32 < b 4)) then .framing
  else if op = 0 then .nop
  else
    let sp := b 0 / 16
    let addr := (b 1 * 256 + b 2) * 256 + b 3
    if op = 1 then .read sp addr (b 4)
    else .write sp addr ((List.range (b 4)).map (fun i => b (5 + 2 * i) * 256 + b (6 + 2 * i)))

/-- SS# rises after `n` whole bytes: a STATUS clocked out in full delivers its sticky bits, and a response cut short is lost. -/
def frameEnd (k n : Nat) (s : State) : State :=
  let l := s.link k
  let st := if 1 ≤ n then l.sticky - (l.sticky &&& l.sent) else l.sticky
  s.setLink k { l with frame := false, out := [], resp := 0, sent := 0, sticky := if n < l.resp then setBit st 6 true else st }

/-- A frame's response waits out tRESP. -/
def respond (k status : Nat) (bytes : List Byte) (s : State) : State :=
  s.setLink k { s.link k with due := (s.link k).due ++ [⟨status, bytes⟩] }

/-- The window address of a link set to a word. The frame names the address, which is no write of it, so the agent's snapshot is kept
(log 65: DESIGN CHOICE). -/
def linkSeek (g sp a : Nat) (s : State) : State := s.setWin g { s.winOf g with space := sp, addr := a % 2 ^ 24 }

/-- The words of a READ, each stepping the address: bytes read, and whether any was unavailable. -/
def linkRead (g sp t : Nat) : Nat → Nat → State → List Byte × Bool × State
  | 0, a, s => ([], false, linkSeek g sp a s)
  | n + 1, a, s =>
    let r := if s.live then winRead g sp (a % 2 ^ 24) t (linkSeek g sp a s) else (0, true, s)
    let q := linkRead g sp t n (a + 1) r.2.2
    (bytesBE 2 r.1 ++ q.1, r.2.1 || q.2.1, q.2.2)

/-- The words of a WRITE: whether any was unavailable, whether any was refused. -/
def linkPut (g sp t : Nat) : List Nat → Nat → State → Bool × Bool × State
  | [], a, s => (false, false, linkSeek g sp a s)
  | x :: l, a, s =>
    let r := if s.live then winWrite g sp (a % 2 ^ 24) x t (linkSeek g sp a s) else (.unavail, s)
    let q := linkPut g sp t l (a + 1) r.2
    (r.1 == .unavail || q.1, r.1 == .refused || r.1 == .full || q.2.1, q.2.2)

/-- An accepted frame of the SVC port keeps its session (R416). -/
def linkTouch (k t : Nat) (s : State) : State := if k = 4 then svcFrame t s else s

/-- An accepted READ. -/
def frameRead (k sp a len : Nat) (head : List Byte) (t : Nat) (s : State) : State :=
  let r := linkRead (linkAgent k) sp t len a (linkTouch k t s)
  respond k (1 + 2 * b2n r.2.1) (head ++ r.1) r.2.2

/-- An accepted WRITE. -/
def frameWrite (k sp a : Nat) (data : List Nat) (head : List Byte) (t : Nat) (s : State) : State :=
  let r := linkPut (linkAgent k) sp t data a (linkTouch k t s)
  respond k (1 + 2 * b2n r.1 + 4 * b2n r.2.1) head r.2.2

/-- A frame in progress on a served link. -/
def frameOpen (s : State) (k : Nat) : Bool := linkServed s k && (s.link k).frame

/-- TL_READ: SS# rises on a frame that R336 accepts as a READ; its accesses may find errors in Orchard (R29). -/
def execTlRead (k : Fin 5) (bytes : List Byte) (dt : Dt) (s : State) (ecc : List EccIn := []) : Res :=
  match judgeFrame bytes 0 with
  | .read sp a len =>
    when (frameOpen s k) (fun s =>
      frameRead k sp a len (bytes.take 5) (s.at dt.toNat)
        (ecc.foldl (fun s e => eccWord (linkAgent k) dt.toNat e s) (frameEnd k bytes.length s))) s
  | _ => .next s

/-- TL_WRITE: SS# rises on a frame that R336 accepts as a WRITE. -/
def execTlWrite (k : Fin 5) (bytes : List Byte) (dt : Dt) (s : State) : Res :=
  match judgeFrame bytes 0 with
  | .write sp a data =>
    when (frameOpen s k) (fun s => frameWrite k sp a data (bytes.take 5) (s.at dt.toNat) (frameEnd k bytes.length s)) s
  | _ => .next s

/-- TL_NOP: SS# rises on an accepted NOP, which pushes nothing. -/
def execTlNop (k : Fin 5) (bytes : List Byte) (dt : Dt) (s : State) : Res :=
  match judgeFrame bytes 0 with
  | .nop => when (frameOpen s k) (fun s => linkTouch k (s.at dt.toNat) (frameEnd k bytes.length s)) s
  | _ => .next s

/-- Sixteen frames of a tenant's link discarded within 1 s make an occurrence of TL_ERRBURST (R342). -/
def burst (k dt : Nat) (s : State) : State :=
  let t := s.beatcnt * unitsPerBeat + dt * unitsPerEdge
  let l := t :: (s.link k).bursts.filter (fun a => t < a + unitsPerSec)
  if k = 4 then s
  else if 16 ≤ l.length then (s.setLink k { s.link k with bursts := [] }).occ .tlErrburst k k (k + 4) dt
  else s.setLink k { s.link k with bursts := l }

/-- A discarded frame: its counter and its sticky flag. -/
def frameDrop (k dt : Nat) (f : Fld) (flag : Nat) (s : State) : State :=
  burst k dt ((s.inc f).setLink k { s.link k with sticky := setBit (s.link k).sticky flag true })

/-- TL_FRAME_DISCARD: SS# rises on a frame that R336 discards; `extra` is the count of clocked bits beyond whole bytes. -/
def execTlFrameDiscard (k : Fin 5) (bytes : List Byte) (extra : Fin 8) (dt : Dt) (s : State) : Res :=
  when (frameOpen s k) (fun s =>
    let s1 := frameEnd k bytes.length s
    match judgeFrame bytes extra with
    | .framing => frameDrop k dt.toNat (linkFramecnt k) 3 s1
    | .abort => frameDrop k dt.toNat (linkAbortcnt k) 4 s1
    | .crc => frameDrop k dt.toNat (linkCrccnt k) 5 s1
    | _ => s) s

/-- A response reaches the queue, or is lost where the queue is full. -/
def rspPush (k : Nat) (s : State) : State :=
  let l := s.link k
  match l.due with
  | [] => s
  | r :: q =>
    if l.queue.length < 4 then s.setLink k { l with due := q, queue := l.queue ++ [r] }
    else (s.inc (linkRsplost k)).setLink k { l with due := q, sticky := setBit l.sticky 6 true }

/-- TL_RESPONSE_PUSH (R337): tRESP after the release. -/
def execTlResponsePush (k : Fin 5) (s : State) : Res := when (linkServed s k) (rspPush k) s

/-- Frames in progress end without effect and the queues empty, as a warm reset does (R343) and a loss of D13. -/
def linksClear (s : State) : State :=
  { s with tn.links := s.tn.links.map (fun p => (p.1, { p.2 with queue := [], due := [], out := [], resp := 0, sent := 0, frame := false })) }

/-- Frames in progress are abandoned as frames released mid-byte (R52). -/
def linksAbandon (dt : Nat) (s : State) : State :=
  (List.range 5).foldl (fun s k =>
    if (s.link k).frame then frameDrop k dt (linkFramecnt k) 3 (frameEnd k 0 s) else s) s

/-! ## The wipe (R333) -/

/-- Every resource that TN(k+1) owns or that is DIRTY from it stopped and at Reset, its DIRTY mark cleared. -/
def wipeKind (k kind : Nat) (s : State) : State :=
  (forN (resCount kind) (fun i s =>
    if s.owner kind i == k + 1 || s.bitOf (resDirty kind k) i then resStop (k + 1) kind i s else s) s).clr (resDirty kind k)

/-- The link state of TN(k+1) cleared: window, staged words and entries, open transaction, responses, events, counters, and its own
view's enables and flags. -/
def wipeLink (k : Nat) (s : State) : State :=
  let s1 : State := { s with
    bus.win := s.bus.win.del (k + 4)
    bus.staging := s.bus.staging.filter (fun e => e.agent != k + 4)
    tm.tlatch := s.tm.tlatch.del k
    br.fifos := s.br.fifos.set (k + 1) []
    st.txns := s.st.txns.del (k + 1)
    tn.plog := s.tn.plog.del (k + 1)
    tn.links := s.tn.links.set k {} }
  [F.tvFramecnt k, F.tvAbortcnt k, F.tvCrccnt k, F.tvRsplost k, F.tvSlicedef k, F.tvHeld k, F.tvPipen k, F.tvPipfired k].foldl
    (fun s f => s.rstFld f) s1

/-- The Stone blocks that a wipe of TN(k+1) zeroes: its partitions and what is DIRTY from it. -/
def wipeBlocks (s : State) (k : Nat) : List Nat :=
  partOf s k ++ logOf s k ++ (s.st.dirty.filter (fun p => p.2 == k + 1)).map Prod.fst

/-- The wipe of TN(k+1) starts: a commit of the tenant in progress is sealed first (R363); where Stone is out of service its Stone part is not made. -/
def wipeStart (k : Nat) (s : State) : State :=
  let s0 := match s.st.commits.get? (k + 1) with | some c => commitSeal (k + 1) c s | none => s
  let s1 := wipeLink k (orchardZero k 0 (ownerSweepAll (forN 5 (wipeKind k) s0)))
  let s2 : State := { s1 with tn.pressDirty := setBit s1.tn.pressDirty k false }
  if s2.stoneIsol then { s2 with tn.wipe := some ⟨k, 0, true⟩ }
  else storeAsk .wipe (storeAsk .wipe (engineWrite (.zero (wipeBlocks s2 k)) (sectsZero (k + 1) 0 { s2 with tn.wipe := some ⟨k, 2, false⟩ })))

/-- The wipe ends: the blocks lose their DIRTY marks, the link reopens, and its frames meanwhile count as ABORT. -/
def wipeEnd (w : Wipe) (s : State) : State :=
  let l := s.link w.k
  let s1 : State := { s with
    tn.wipe := none
    st.dirty := if w.failed then s.st.dirty else s.st.dirty.filter (fun p => p.2 != w.k + 1) }
  let s2 := s1.incBy (F.tvAbortcnt w.k) l.wiped
  (s2.setLink w.k { l with wiped := 0, frame := false, sticky := if l.wiped = 0 then l.sticky else setBit l.sticky 4 true }).cmdEnd
    0x50 (if w.failed then 5 else 0)

/-- WIPE_DONE. -/
def execWipeDone (k : Fin 4) (s : State) : Res :=
  match s.tn.wipe with
  | some w => when (s.powered && w.k == k && (w.failed || w.stores == 0)) (wipeEnd w) s
  | none => .next s

end Sys2Proof.Machine
end

