-- ==== Sys2Proof/Machine/Power.lean ====
section
/-! DEFINITION. The supply and its sequence, the power domains, adaptive voltage scaling and BOOT (R56 to R73, R83 to R87). -/
namespace Sys2Proof.Machine

/-! ## Domains (R65 to R69) -/

/-- The domains that step 4 of R61 sheds, the ones that the host may switch: D2 and D6 to D11. -/
def shedDom (d : Nat) : Bool := d == 2 || (6 ≤ d && d ≤ 11)

/-- A bit of a mask of domains set. -/
def State.domBit (s : State) (d : Nat) (b : Bool) : State := s.wrBit F.dPowstat d b

/-- The loop of D5 (0) or D6 (1) starts at 900 mV (R70). -/
def avsStart (l : Nat) (s : State) : State :=
  ({ s with pw.avsBeats := s.pw.avsBeats.set l 0, pw.avsLow := s.pw.avsLow.set l 0 } : State).wr (F.sysAvsv l) 900

/-- The PC loses its image and the bridge its queues and addresses with D6 (R65, R13). -/
def pktOff (s : State) : State :=
  ((putAddrs [] (forN 4 flushQueues s)).clr (F.fabLoaded 2)).wr (F.sysAvsv 1) 0

/-- The loop of D5 (0) or D6 (1) loses its state (R71). -/
def avsStop (l : Nat) (s : State) : State :=
  ({ s with pw.avsBeats := s.pw.avsBeats.del l, pw.avsLow := s.pw.avsLow.del l } : State).liveClr .avsLimit l

/-- What a domain takes with it when it turns off. -/
def domLose (d : Nat) (s : State) : State :=
  match d with
  | 2 => if calStarved s then calAbandon 5 s else s
  | 3 => synaLost s
  | 4 => squelchSrc 0 (s.clr F.synBlock)
  | 5 => avsStop 0 (cacheFlush 1 (cacheFlush 0 s))
  | 6 => pktOff (avsStop 1 (cacheFlush 2 s))
  | 7 => portOff 0 s
  | 8 => portOff 1 s
  | 9 => portOff 2 s
  | 10 => portOff 3 s
  | 11 =>
    let s1 := rinTurnOff s
    if calStarved s1 then calAbandon 5 s1 else s1
  | 12 => forN 8 chanFault s
  | 13 => { linksClear s with bus.rdata := none }
  | _ => s

/-- A domain off. -/
def domOff (d : Nat) (s : State) : State :=
  let s1 : State := { s with pw.turning := setBit s.pw.turning d false }
  let s2 : State := { s1 with pw.resuming := s1.pw.resuming && s1.pw.turning != 0 }
  if s2.domOn d then domLose d (s2.domBit d false) else s2

/-- A domain requested on: its turn-on time starts (R65). -/
def domAsk (d : Nat) (s : State) : State := if s.domOn d then s else { s with pw.turning := setBit s.pw.turning d true }

/-- The turn-on of D11 that opens a wake window is done (R201). -/
def winRinDone (s : State) : State := { s with mo.win := s.mo.win.map (fun w => { w with rin := false }) }

/-- What a domain brings when it is on (R65). -/
def domGain (d : Nat) (s : State) : State :=
  match d with
  | 1 => { s with mo.oscBeats := 0 }
  | 3 => forN 8 (fun n s => chanStart n s.tm.now s) ((s.set1 F.synAlock).liveClr .synaUnlock 0)
  | 4 => forN 8 (fun n s => chanStart n s.tm.now s) ((s.set1 F.synBlock).liveClr .synbUnlock 0)
  | 5 => avsStart 0 s
  | 6 => bootLoad 2 (avsStart 1 s)
  | 7 => portTrains 0 s
  | 8 => portTrains 1 s
  | 9 => portTrains 2 s
  | 10 => portTrains 3 s
  | 11 => winRinDone (rinTurnOn s)
  | 12 => forN 8 (fun n s => chanStart n s.tm.now s) s
  | _ => s

/-- A domain has completed its turn-on time. -/
def domReady (d : Nat) (s : State) : State :=
  let s1 : State := { s with pw.turning := setBit s.pw.turning d false }
  let s2 : State := { s1 with pw.resuming := s1.pw.resuming && s1.pw.turning != 0 }
  domGain d (s2.domBit d true)

/-- DOMAIN_TURN_ON_DONE. -/
def execDomainTurnOnDone (d : Fin 14) (s : State) : Res := when (s.powered && bit s.pw.turning d) (domReady d) s

/-- A domain may be on: it has not failed, and no power-fail sequence has shed it. -/
def domMay (s : State) (d : Nat) : Bool := !bit s.pw.failed d && !(s.pw.pf != .none && shedDom d)

/-- A domain takes the state that the mode, POWREQ and the wake window give it. -/
def domFollow (d : Nat) (s : State) : State := if domWanted s d && domMay s d then domAsk d s else domOff d s

/-- Every domain that can be switched follows (R66, R68). -/
def domsFollow (s : State) : State := forN 14 (fun d s => if d = 0 then s else domFollow d s) s

/-- POWREQ writes that waited for the strobe, oldest first (R118, R141). -/
def powreqWrites (s : State) : List Nat :=
  s.bus.dstage.filterMap (fun p => if p.1.key == F.dPowreq.key then some p.2 else none)

/-- The strobe's POWREQ writes applied, and the domains follow. -/
def powreqApply (s : State) : State :=
  let s1 := (powreqWrites s).foldl (fun s w =>
    let s2 := powreqWrite w s
    s2.note 0x60 (bytesBE 3 0x2C ++ bytesBE 2 (s.rd F.dPowreq) ++ bytesBE 2 (s2.rd F.dPowreq))) s
  domsFollow { s1 with bus.dstage := s1.bus.dstage.filter (fun p => p.1.key != F.dPowreq.key) }

/-- POWREQ_APPLY (R141): a mode's defaults are loaded as the mode is entered; it waits while the engines restart (R114). -/
def execPowreqApply (s : State) : Res := when (s.live && s.tm.running && s.en.restart.isNone) powreqApply s

/-- A failed domain of level L2 is out of service, whatever the level of the record by now (R69). -/
def domIsolate (d : Nat) (s : State) : State :=
  if shedDom d then
    (let r := s.frec .domainFail
     s.setFrec .domainFail { r with isol := setBit r.isol d true })
  else s

/-- DOMAIN_FAIL (R69): the domain is switched off, and recorded at L2 or L3. What follows a failure of D0 the spec leaves
out. -/
def execDomainFail (d : Fin 14) (dt : Dt) (s : State) : Res :=
  if d = 0 ∧ s.powered then .fault .d0Failed
  else when (d != 0 && s.powered && (s.domOn d || bit s.pw.turning d)) (fun s =>
    let s1 := domOff d s
    let s2 : State := { s1 with pw.failed := setBit s1.pw.failed d true, pw.pgLost := setBit s1.pw.pgLost d true }
    domIsolate d (s2.liveSet .domainFail d d 9 dt.toNat)) s

/-- A failed domain may turn on again. -/
def domRestore (d : Nat) (s : State) : State := domFollow d { s with pw.failed := setBit s.pw.failed d false }

/-- DOMAIN_POWER_GOOD_RETURN (R69): the live bit falls. A domain of level L3 turns on again at once, one of level L2 once its
record no longer isolates it. -/
def execDomainPowerGoodReturn (d : Fin 14) (s : State) : Res :=
  when (s.powered && bit s.pw.pgLost d) (fun s =>
    let s1 := ({ s with pw.pgLost := setBit s.pw.pgLost d false } : State).liveClr .domainFail d
    if !shedDom d || !s1.isolated .domainFail d then domRestore d s1 else s1) s

/-! ## The input (R56, R57) -/

/-- PFLIVE: the input is below 28 V now, but in a sequence that an overvoltage started (R73). -/
def pfShow (s : State) : State := s.wrB F.sysPflive (s.pw.below28 && !s.pw.ov)

/-- SUPPLY_LOW: the input lies from 28 V to 30 V; the class is live while the unit runs on its input. -/
def execSupplyLow (dt : Dt) (s : State) : Res :=
  when s.powered (fun s =>
    let s1 := pfShow { s with pw.below28 := false, pw.below30 := true }
    if s.pw.pf == .none && !s.pw.opened then s1.liveSet .supplyLow 0 0 9 dt.toNat else s1) s

/-- SUPPLY_OV: the input lies above 80 V. -/
def execSupplyOv (dt : Dt) (s : State) : Res :=
  when s.powered (fun s => ({ s with pw.over80 := true } : State).liveSet .supplyOv 0 0 9 dt.toNat) s

/-- INPUT_IN_RANGE: the input lies from 30 V to 80 V again. -/
def execInputInRange (s : State) : Res :=
  when s.powered (fun s =>
    let s1 := pfShow { s with pw.below28 := false, pw.below30 := false, pw.over80 := false }
    (s1.liveClr .supplyLow 0).liveClr .supplyOv 0) s

/-- A reading of the input in mV, saturated (R57): SUPPLY, VINMIN and VINMAX. -/
def putVin (mv : Nat) (s : State) : State :=
  let v := satUns 16 mv
  ((s.wr F.dSupply v).wr F.sysVinmin (min (s.rd F.sysVinmin) v)).wr F.sysVinmax (max (s.rd F.sysVinmax) v)

/-! ## The hold-up bank (R59, R60) -/

/-- HOLDUP_TEST: scheduled at second 43,200 of the day. -/
def execHoldupTest (s : State) : Res :=
  when (s.powered && s.tm.running && s.sec % 86400 == 43200 && s.pw.testSec != some s.sec) (fun s =>
    let s1 : State := { s with pw.testSec := some s.sec }
    if testMay s1 then testStart s1 else s1) s

/-- HUTEST: a write of 1 to HUTEST. -/
def execHutest (s : State) : Res := when (s.live && testMay s) testStart s

/-- HUMS: the hold-up at 4.8 W in ms from `v0` mV down to 15 V, with the capacitance that 1 mC and a drop in mV give, rounded
down. -/
def humsOf (v0 drop : Nat) : Nat := (v0 ^ 2 - 15000 ^ 2) / (9600 * drop)

/-- HUMS taken, and HOLDUP_WEAK below 80. -/
def putHums (ms dt : Nat) (s : State) : State :=
  let s1 := s.wr F.sysHums (satUns 16 ms)
  if ms < 80 then s1.liveSet .holdupWeak 0 0 9 dt else s1.liveClr .holdupWeak 0

/-- HOLDUP_TEST_END; a drop of 0 gives no capacitance, so HUMS is free. -/
def execHoldupTestEnd (drop : BitVec 16) (dt : Dt) (s : State) : Res :=
  match s.pw.test with
  | none => .next s
  | some v0 =>
    when s.powered (fun s =>
      let s1 : State := { s with pw.test := none }
      if drop = 0 then putHums (s1.freeVal % 65536) dt.toNat s1.used else putHums (humsOf v0 drop.toNat) dt.toNat s1) s

/-! ## Adaptive voltage scaling (R70, R71) -/

/-- The domain of a loop. -/
def avsDom (l : Nat) : Nat := l + 5

/-- AVS_STEP: an evaluation of the smallest margin, in ps; while the bandgap group is measured the loop holds its voltage (R374). -/
def execAvsStep (l : Fin 2) (margin : BitVec 16) (s : State) : Res :=
  when (s.powered && s.domOn (avsDom l) && 16 ≤ s.pw.avsBeats.getD l 0) (fun s =>
    let s0 : State := { s with pw.avsBeats := s.pw.avsBeats.set l 0 }
    let s1 := s0.wr (F.sysAvsmarg l) margin.toNat
    let v := s1.rd (F.sysAvsv l)
    if s.calItem = some 1 then s0
    else if s1.is (F.sysFreeze l) then s1
    else if 80 < margin.toNat then s1.wr (F.sysAvsv l) (max 720 (v - 5))
    else if margin.toNat < 60 then s1.wr (F.sysAvsv l) (min 900 (v + 5))
    else s1) s

/-- AVS_FAST_RAISE: a margin below 15 ps, frozen or not; at 900 mV nothing is raised or counted. -/
def execAvsFastRaise (l : Fin 2) (margin : BitVec 16) (s : State) : Res :=
  when (s.powered && s.domOn (avsDom l) && margin.toNat < 15 && s.rd (F.sysAvsv l) < 900) (fun s =>
    (s.wr (F.sysAvsv l) (min 900 (s.rd (F.sysAvsv l) + 20))).inc (F.sysAvsfast l)) s

/-- A beat's smallest margin: the loop counts toward its next evaluation, and beats at 900 mV with a margin below 60 ps. -/
def avsBeat (l margin : Nat) (s : State) : State :=
  if !s.domOn (avsDom l) then s
  else
    let low := s.rd (F.sysAvsv l) == 900 && margin < 60
    let s1 : State := { s with
      pw.avsBeats := s.pw.avsBeats.set l (s.pw.avsBeats.getD l 0 + 1)
      pw.avsLow := s.pw.avsLow.set l (if low then s.pw.avsLow.getD l 0 + 1 else 0) }
    if low then s1 else s1.liveClr .avsLimit l

/-- AVS_LIMIT: 64 beats at 900 mV with too little margin. -/
def execAvsLimit (l : Fin 2) (dt : Dt) (s : State) : Res :=
  when (s.powered && s.domOn (avsDom l) && 64 ≤ s.pw.avsLow.getD l 0) (fun s => s.liveSet .avsLimit l (l + 5) 9 dt.toNat) s

/-! ## The carrier's supply (R52) -/

/-- AUX_LOW: the carrier-facing pins are released and what was in progress on them is abandoned; `cycle` says that a host cycle
was. -/
def execAuxLow (cycle : Bool) (dt : Dt) (s : State) : Res :=
  when (s.powered && !s.pw.auxLow) (fun s =>
    let s1 : State := { linksAbandon dt.toNat s with pw.auxLow := true, bus.rdata := none }
    (if cycle then s1.inc F.sysHbabandon else s1).liveSet .auxLow 0 0 9 dt.toNat) s

/-- AUX_RESTORE: the pins are driven again. -/
def execAuxRestore (s : State) : Res :=
  when (s.powered && s.pw.auxLow) (fun s => ({ s with pw.auxLow := false } : State).liveClr .auxLow 0) s

/-! ## The power-fail sequence (R61 to R63) -/

/-- What step 2 abandons: a bank test, a snapshot, a commanded store, a calibration run and a pending verdict (R60, R376, R406,
R363, R421). -/
def failAbandon (s : State) : State :=
  verdictAbandon (calAbandon 5 (storeAbandon (snapAbandon { s with pw.test := none })))

/-- Step 4: the shed domains go off, and a wake window in progress ends without its actions (R202). -/
def failShed (s : State) : State := forN 14 (fun d s => if shedDom d then domOff d s else s) (wakeCut s)

/-- Steps 5 and 6: a commit in progress completes, and the store begins where Stone is in service. A store before a cold reset
becomes the store of the sequence (R91). -/
def failStore (s : State) : State :=
  let s1 := commitsFinish s
  match s1.st.store with
  | some _ => s1
  | none => if s1.stoneIsol then s1 else storeBegin .powerFail s1

/-- Steps 2 to 6, from the input or from an overvoltage; one that comes while the shed domains still come back makes no second
store (R63). SC copies the model record at step 2 (R196). -/
def failBegin (ov : Bool) (dt : Nat) (s : State) : State :=
  let noStore := s.pw.resuming
  let s0 : State := { s with pw.opened := true, pw.below28 := !ov, pw.ov := ov, pw.resuming := false }
  let s1 := ((pfShow (s0.set1 F.sysSeq)).liveClr .supplyLow 0).liveSet .powerFail 0 0 9 dt
  let s2 := failAbandon (s1.fire 41)
  let s3 : State := { s2 with pw.pf := if noStore then .noStore else .storing }
  let s4 := failShed (copyModel s3)
  if noStore then commitsFinish s4
  else failStore (({ s4 with pw.lastStoreOk := false } : State).clr F.sysLaststoreOk)

/-- POWER_FAIL: below 28 V for more than 20 µs. In a sequence it only shows that the input is below 28 V again. -/
def execPowerFail (dt : Dt) (s : State) : Res :=
  when s.powered (fun s =>
    if s.pw.pf == .none then failBegin false dt.toNat s else pfShow { s with pw.below28 := true }) s

/-- OVERVOLTAGE_TIMEOUT: above 82 V for 100 ms, so the input stage opens. -/
def execOvervoltageTimeout (dt : Dt) (s : State) : Res :=
  when (s.powered && s.pw.pf == .none && s.pw.over80) (failBegin true dt.toNat) s

/-- The sequence ends without a shutdown (R62). -/
def failResume (s : State) : State :=
  let s1 : State := { s with pw.pf := .none, pw.opened := false, pw.below28 := false, pw.ov := false }
  let s2 := domsFollow ((((s1.clr F.sysSeq).clr F.sysPflive).set1 F.sysResumed).liveClr .powerFail 0)
  { s2 with pw.resuming := s2.pw.turning != 0 }

/-- Shutdown (R62): outputs low, every domain but D0 off, and D0 on the backup capacitor with the seconds value it holds. -/
def shutDown (s : State) : State :=
  let s1 := (forN 8 chanSquelch s).wr F.dPowstat 1
  { s1 with
    phase := .off
    pw := { s1.pw with pf := .none, ov := false, coldStore := false, turning := 0, resuming := false, rtcLost := false, rtcSec := s1.sec, test := none }
    tm := {}
    bus := {}
    tn.links := [] }

/-- A verified store of the sequence: LASTSTORE_OK (R61, step 7). -/
def failStored (s : State) : State :=
  match s.st.store with
  | some r => ({ storeSeal r s with pw.lastStoreOk := true } : State).set1 F.sysLaststoreOk
  | none => s

/-! ## BOOT (R83 to R86) -/

/-- What Stone keeps without power: its banks, journal, tallies, slots, records and the tenants' blocks; and the shadow SRAM. -/
def stoneKept (t : StoneSt) : StoneSt :=
  { shadow := t.shadow, bankA := t.bankA, bankB := t.bankB, newestB := t.newestB, seq := t.seq, serial := t.serial,
    applied := t.applied, eraseA := t.eraseA, eraseB := t.eraseB, journal := t.journal, tallies := t.tallies, tallyQ := t.tallyQ,
    slots := t.slots, slotCnt := t.slotCnt, snaps := t.snaps, slowMem := t.slowMem, slowPage := t.slowPage, parts := t.parts,
    logs := t.logs, dirty := t.dirty }

/-- The state as BOOT begins: every register at its Reset column, and what D0, Stone and the fuses keep. -/
def bootBase (s : State) : State :=
  { pending := s.pending
    phase := .boot
    freeCount := s.freeCount
    pw := { rtcLost := s.pw.rtcLost, rtcSec := s.pw.rtcSec, lastStoreOk := s.pw.lastStoreOk, floor := s.pw.floor }
    st := stoneKept s.st }

/-- Step 2: the tally, OFFTIME, LASTSTORE_OK and the kind of BOOT; CAUSE tells a cold reset from a power-up. -/
def bootStart (cold : Bool) (off : Nat) (s : State) : State :=
  let s1 := (s.wr F.sysOfftime off).wrB F.sysLaststoreOk s.pw.lastStoreOk
  if cold then (((s1.clr F.sysPwrup).set1 F.sysCold).wr F.sysCause 1).tally 1
  else s1.tally 0

/-- Steps 3 to 5 and 8: the domains of BOOT on. -/
def bootDomains (s : State) : State :=
  rinTurnOn (((s.wr F.dPowstat 0x387F).set1 F.synAlock).set1 F.synBlock)

/-- Step 9: the engines in the order SC, QC, PC. -/
def bootEngines (s : State) : State :=
  let n := extraSlots s
  let s1 := forN 3 bootLoad (s.wr F.fabSecfloor s.pw.floor)
  { s1 with pw.bootSlots := n }

/-- Step 11: the model recalled, or the factory prior with nothing learned; AGET advances by a known OFFTIME (R189). -/
def modelRecall (s : State) : State :=
  let s1 := match s.st.shadow.model with
    | some r => if r.ok then { putFlds modelFlds r.vals s with mo.resid := recResid r } else learnReset s
    | none => learnReset s
  let off := s1.rd F.sysOfftime
  let s2 := if off = 0xFFFFFFFF then s1 else s1.incBy F.servoAget off
  mqForm (retraceShow (s2.wr F.servoPuage 0))

/-- Step 12: the time engine starts at a second, 57 ms after D1 turned on, and the configuration record is recalled. AUTORUN acts after
BOOT (R82). -/
def bootTime (sec : Nat) (s : State) : State :=
  let s1 : State := { s with tm.now := sec * unitsPerSec, tm.running := true, mo.oscBeats := 57 }
  match s1.st.shadow.cfg with
  | some r =>
    if r.ok then
      (let s2 := chansRecall (refsRecall (cfgRecall r s1))
       { s2 with md.autorun := s2.is F.sysAutorun })
    else s1
  | none => s1

/-- Steps 1 to 12 of BOOT. -/
def boot (cold retained : Bool) (off sec : Nat) (s : State) : State :=
  let s1 := bootDomains (bootStart cold off (bootBase s))
  let s2 := accessRecall (stonePowerUp retained s1)
  bootTime sec (facLoad (modelRecall (bootEngines s2)))

/-- A start on power: OFFTIME is what D0 counted, or unknown, which RTC_LOST reports (R64), and the time scale starts from the
seconds D0 held (R86). Tally cells found partly programmed are programmed fully and counted (R359). -/
def powerOn (p : PowerIn) (s0 : State) : State :=
  let lost := s0.pw.rtcLost
  let s := p.partly.foldl (fun s n => { s with st.tallies := s.st.tallies.set n.val (s.tallyC n.val).step }) s0
  let off := if lost then 0xFFFFFFFF else p.offSecs.toNat
  let s1 := boot false (p.retained && !lost) off (if off = 0xFFFFFFFF then 0 else s.pw.rtcSec + off) s
  if lost then s1.occ .rtcLost 0 0 9 0 else s1

/-- POWER_UP: the input rises through 32 V. -/
def execPowerUp (p : PowerIn) (s : State) : Res := when (s.phase == .off) (powerOn p) s

/-- RESTART_AFTER_SHUTDOWN: the input has lain from 32 V to 82 V for 10 ms (R62). -/
def execRestartAfterShutdown (p : PowerIn) (s : State) : Res := when (s.phase == .off) (powerOn p) s

/-- START_ABANDONED: the input falls below 28 V before D0 AON is good; nothing is recorded (R56). -/
def execStartAbandoned (s : State) : Res := when (s.phase == .off) id s

/-- BACKUP_CAPACITOR_EXHAUSTED: D0 marks the real-time counter lost (R64). -/
def execBackupCapacitorExhausted (s : State) : Res :=
  when (s.phase == .off) (fun s => { s with pw.rtcLost := true }) s

/-- BOOTMS (R83, R84): 60 ms and 14 ms for each extra slot, or the time the bank needs to reach 55 V. -/
def bootMs (s : State) (huvMs : Nat) : Nat := max (60 + 14 * s.pw.bootSlots) huvMs

/-- BOOT_END (R59, step 13): the engines are loaded and HUV has reached 55 V; `huvMs` is when it did, from t0, rounded up. The
back-off restarts (R423). -/
def execBootEnd (huvMs huv : BitVec 16) (s : State) : Res :=
  when (s.phase == .boot && s.tm.running && 55000 ≤ huv.toNat) (fun s =>
    let s1 := (s.wr F.sysBootms (satUns 16 (bootMs s huvMs.toNat))).wr F.sysHuv huv.toNat
    backRestart { s1 with phase := .run, md.bootEnded := true }) s

end Sys2Proof.Machine
end

