-- ==== Sys2Proof/Machine/Modes.lean ====
section
/-! DEFINITION. Modes: requests, transitions and what each brings, wake windows, steps of the time scale, resets, and the return of
isolated resources (R16, R74 to R92, R200, R390). -/
namespace Sys2Proof.Machine

/-! ## Requests (R74, R75) -/

/-- MODEREQ written: the last request before a strobe stands, over AUTORUN's too (R75, R82, R118). -/
def modeAsk (code : Nat) (s : State) : State :=
  ({ s.wr F.dModereqReq code with md.req := some (code % 8), md.reqAuto := false } : State).note 0x70 (bytesBE 1 (code % 8))

/-- A host write takes effect: D13 on, BOOT left, and the carrier powered. In BOOT it is ignored and counted (R85); while the data
bus is released it is abandoned (R52, R101). -/
def hostWrite (f : State → State) (s : State) : Res :=
  when (s.powered && s.domOn 13) (fun s =>
    if !s.live then s.inc F.sysHbbootwr else if s.pw.auxLow then s.inc F.sysHbabandon else f s) s

/-- MODE_REQ_PROVISION. -/
def execModeReqProvision (s : State) : Res := hostWrite (modeAsk 1) s
/-- MODE_REQ_RUN. -/
def execModeReqRun (s : State) : Res := hostWrite (modeAsk 2) s
/-- MODE_REQ_HOLD. -/
def execModeReqHold (s : State) : Res := hostWrite (modeAsk 3) s
/-- MODE_REQ_DORMANT. -/
def execModeReqDormant (s : State) : Res := hostWrite (modeAsk 5) s
/-- MODE_REQ_REPLAY. -/
def execModeReqReplay (s : State) : Res := hostWrite (modeAsk 6) s
/-- MODE_REQ_SAFE. -/
def execModeReqSafe (s : State) : Res := hostWrite (modeAsk 7) s
/-- MODE_REQ_INVALID: code 0 or 4, refused when it is evaluated. -/
def execModeReqInvalid (four : Bool) (s : State) : Res := hostWrite (modeAsk (if four then 4 else 0)) s

/-- AUTORUN (R82): Run as if written, where no request of the host waits. -/
def execAutorun (s : State) : Res :=
  when (s.live && s.mode == .provision && s.md.autorun) (fun s =>
    let s1 : State := { s with md.autorun := false }
    if s.md.req.isSome then s1 else { s1.wr F.dModereqReq 2 with md.req := some 2, md.reqAuto := true }) s

/-! ## A change of mode (R68, R77, R88) -/

/-- What the mode left behind does as it ends. -/
def modeLeave (old new : Mode) (s : State) : State :=
  let s0 := if s.is F.svcUpen && new != .replay then uploadEnd s else s
  match old with
  | .provision => { s0 with md.leftProv := true, md.autorun := false }
  | .holdover => (s0.clr F.sysHoldreq).set1 F.dHoldChg
  | .dormant => wakeClose s0
  | .replay => replayExit (s0.clr F.svcUpen)
  | .safe => { s0 with flt.l3acked := false, md.autorun := false }
  | _ => s0

/-- Entry into HOLDOVER (R80, R132, R199). -/
def enterHoldover (s : State) : State := holdEntry (((selTo 11 (graftLeave s)).set1 F.dHoldChg).tally 7)

/-- Entry into ENSEMBLE (R80). -/
def enterEnsemble (s : State) : State := (selTo 10 (graftLeave s)).tally 8

/-- What the mode that begins brings. PROVISION, SAFE and REPLAY follow no reference and leave the ensemble. -/
def modeBegin (new : Mode) (s : State) : State :=
  match new with
  | .provision => { lepLeave (selTo 11 (graftLeave s)) with mo.fit := none }
  | .holdover => enterHoldover s
  | .ensemble => enterEnsemble s
  | .dormant => dormantEntry (calAbandon 5 s)
  | .replay => replayEnter (pipsLow (lepLeave (selTo 11 (graftLeave (calAbandon 5 s)))))
  | .safe => lepLeave (selTo 11 (graftLeave s))
  | _ => s

/-- A mode is entered (R68, R93): PREVMODE, CAUSE and CHG, MODECHG, POWREQ's defaults, domains and outputs. -/
def enterMode (new : Mode) (cause : Nat) (s : State) : State :=
  let s1 := modeLeave s.mode new s
  let s2 := (((s1.wr F.sysPrevmode s.mode.code).wr F.dMode new.code).wr F.sysCause cause).set1 F.dModeChg
  let s3 : State := { s2.fire 36 with md.exit := none, md.requalified := false }
  chansMode (domsFollow (powreqDefaults (modeBegin new s3)))

/-! ## Resets (R89 to R92) -/

/-- RESET# acts: not in BOOT, in a power-fail sequence, in the store before a cold reset, or once it is taken as failed closed. -/
def resetActs (s : State) : Bool :=
  s.phase == .run && s.mode != .boot && s.pw.pf == .none && !s.pw.coldStore && !s.is F.sysRstdeaf

/-- Every field whose Warm column does not say Kept returns to its Reset value. -/
def warmRegs (s : State) : State :=
  { s with regs := s.regs.filter (fun p => match fldOfKey p.1 with | some f => f.kept | none => true) }

/-- Window state, snapshots, staged words, latches, open transactions and frames in progress are lost (R106, R107, R133, R343,
R352). -/
def warmBus (s : State) : State :=
  let lost := (s.winOf 0).stg.isSome
  let s1 := linksClear { s with
    bus.win := [], bus.dsnap := none, tm.latch := none, tm.tlatch := [], st.txns := []
    md.req := none, md.reqAuto := false }
  if lost then s1.inc F.sysHbdiscard else s1

/-- The engines go back to their state as published at the last mailbox changeover (R27). -/
def enginesBack (s : State) : State :=
  forN 3 (fun e s => match s.pubs.get? e with | some r => takeRes e r s | none => s) s

/-- The engines restart: work in progress is abandoned, and beats are not run until they resume (R27). -/
def warmEngines (s : State) : State :=
  forN 3 publish { s with
    pubs := []
    en.restart := some 0, en.overBeat := false, en.abandoned := 0, en.marks := [], en.claims := []
    en.eng := s.en.eng.map (fun p => (p.1, { p.2 with overran := false, outstanding := false, waiting := 0 })) }

/-- WARM_RESET (R90). -/
def warmReset (s : State) : State :=
  let s1 := warmEngines (warmBus (warmRegs (svcWarm (calAbandon 6 (enginesBack s)))))
  let s2 := ((s1.set1 F.sysWarm).set1 F.sysRstlive).tally 2
  if s2.mode == .replay then enterMode .provision 12 s2 else s2

/-- An assertion held as a period in which RESET# does not act ends begins at that moment (R89). -/
def resetHeld (s : State) : State := if resetActs s && s.is F.sysRstlive then warmReset s else s

/-- WARM_RESET: RESET# is asserted, and acts where it may. -/
def execWarmReset (s : State) : Res :=
  when (s.powered && !s.is F.sysRstlive) (fun s => if resetActs s then warmReset s else s.set1 F.sysRstlive) s

/-- POWER_FAIL_STORE_DONE: step 7, then the recovery decision; `inputGood` says that the input has lain from 32 V to 82 V for
10 ms. -/
def execPowerFailStoreDone (inputGood : Bool) (s : State) : Res :=
  when (s.powered && s.pw.pf != .none && !s.pw.coldStore) (fun s =>
    let s1 := if s.pw.pf == .storing then failStored s else s
    if inputGood then resetHeld (failResume s1) else shutDown s1) s

/-! ## Evaluation (R76) -/

/-- Two or more peers are present now. -/
def peersNow (s : State) : Bool := 2 ≤ peerCount s

/-- No reference is qualified, nor is the selected one still held (R77, R158). -/
def allLost (s : State) : Bool := !(List.range 10).any s.refQual && !selHeld s

/-- The mode that the all-lost rule gives. -/
def lostMode (s : State) : Mode := if peersNow s then .ensemble else .holdover

/-- The mode that a Run request or an exit gives (R77). -/
def runMode (s : State) : Mode := if allLost s then lostMode s else .track

/-- The mode that an exit from DORMANT gives: by the reference selected at the end of the last wake window. -/
def exitMode (s : State) : Mode := if s.md.refQualAtWake then .track else lostMode s

/-- A request is refused. -/
def modeRefuse (reason : Nat) (s : State) : State :=
  ((s.set1 F.dRej).inc F.sysModerej).wr F.sysRejreason reason

/-- An L3 record moves the unit to SAFE; SAFEBLK and SAFECLS name it (R76, R396). -/
def safeByFault (s : State) : State :=
  let s1 := (s.wr F.fltSafeblk s.flt.safeRec.1).wr F.fltSafecls s.flt.safeRec.2
  enterMode .safe 10 { s1 with flt.l3 := none }

/-- The end of BOOT (R83, step 13): SAFE where an L3 fault was recorded, else PROVISION. -/
def bootLeave (s : State) : State :=
  let s1 : State := { s with md.bootEnded := false }
  let s2 := if s.flt.anyL3Uncl then safeByFault s1 else enterMode .provision 2 s1
  resetHeld s2

/-- An L3 fault since the last strobe refuses the request that waits (R76). -/
def requestRefuse (s : State) : State :=
  if s.md.req.isSome then modeRefuse 5 { s with md.req := none, md.reqAuto := false } else s

/-- An L3 fault since the last strobe moves the unit to SAFE and refuses the request that waits (R76). -/
def l3Entry (s : State) : State := requestRefuse (safeByFault s)

/-- Peers have been present for 1,024 beats in HOLDOVER, and absent for as many in ENSEMBLE (R77). -/
def peersRisen (s : State) : Bool := s.mode == .holdover && !s.is F.sysHoldreq && 1024 ≤ s.md.rise
def peersFallen (s : State) : Bool := s.mode == .ensemble && 1024 ≤ s.md.fall

/-- Auto-exit from SAFE (R77, R78). -/
def safeExits (s : State) : Bool :=
  s.is F.sysSafeAutoexit && s.rd F.sysCause == 10 && !s.flt.anyL3Uncl && !s.flt.l3acked && !l3Live s

/-- PROVISION entered from SAFE: AUTORUN acts at the next strobe (R82). -/
def leaveSafe (cause : Nat) (s : State) : State :=
  { enterMode .provision cause s with md.autorun := s.is F.sysAutorun }

/-- The cause of an exit from DORMANT. -/
def exitCause (e : Exit) : Nat := match e with | .alarm => 8 | .empty => 9 | .run => 3

/-- The automatic moves of R77, at most one. -/
def autoMove (s : State) : State :=
  match s.mode with
  | .track => if allLost s then enterMode (lostMode s) 5 s else { s with md.requalified := false }
  | .holdover =>
    if s.md.requalified && !s.is F.sysHoldreq then enterMode .track 6 s
    else if peersRisen s then enterMode .ensemble 7 s else s
  | .ensemble =>
    if s.md.requalified then enterMode .track 6 s
    else if peersFallen s then enterMode .holdover 7 s else s
  | .dormant => match s.md.exit with
    | some e => enterMode (exitMode s) (exitCause e) s
    | none => s
  | .safe => if safeExits s then leaveSafe 11 s else s
  | _ => s

/-- HOLDREQ ends with an accepted request other than Hold. -/
def dropHold (s : State) : State := s.clr F.sysHoldreq

/-- A request for Run from the mode in force. -/
def askRun (cause : Nat) (s : State) : State :=
  match s.mode with
  | .provision => enterMode (runMode s) cause s
  | .dormant => enterMode (exitMode s) cause s
  | .holdover => dropHold s
  | .track => s
  | .ensemble => s
  | _ => modeRefuse 1 s

/-- A request for Hold. -/
def askHold (s : State) : State :=
  match s.mode with
  | .holdover => s.set1 F.sysHoldreq
  | .replay => modeRefuse 1 s
  | .safe => modeRefuse 1 s
  | _ => (enterMode .holdover 3 s).set1 F.sysHoldreq

/-- A request for PROVISION: never refused but for a live L3 condition in SAFE (R78). -/
def askProvision (s : State) : State :=
  match s.mode with
  | .provision => s
  | .safe => if l3Live s then modeRefuse 3 s else leaveSafe 3 s
  | _ => enterMode .provision 3 s

/-- A request for DORMANT: from TRACK and HOLDOVER only (R77, R79). -/
def askDormant (s : State) : State :=
  match s.mode with
  | .track => enterMode .dormant 3 s
  | .holdover => enterMode .dormant 3 s
  | .dormant => s
  | _ => modeRefuse 1 s

/-- A request for REPLAY: from PROVISION and SAFE only. -/
def askReplay (s : State) : State :=
  match s.mode with
  | .provision => enterMode .replay 3 s
  | .safe => if l3Live s then modeRefuse 3 s else enterMode .replay 3 s
  | .replay => s
  | _ => modeRefuse 1 s

/-- A request for SAFE. -/
def askSafe (s : State) : State := if s.mode == .safe then s else enterMode .safe 3 s

/-- The pending request against the mode in force (R74, R75). -/
def applyRequest (s : State) : State :=
  match s.md.req with
  | none => s
  | some r =>
    let cause := if s.md.reqAuto then 4 else 3
    let s1 : State := { s with md.req := none, md.reqAuto := false }
    match r with
    | 1 => askProvision s1
    | 2 => askRun cause s1
    | 3 => askHold s1
    | 5 => askDormant s1
    | 6 => askReplay s1
    | 7 => askSafe s1
    | _ => modeRefuse 2 s1

/-- MODE_EVALUATION: at a strobe once BOOT has ended. The strobe at which an L3 fault is found makes no other move. -/
def evaluate (s : State) : State :=
  if s.mode == .boot then (if s.md.bootEnded then bootLeave s else s)
  else if s.flt.l3.isSome then (if s.mode == .safe then requestRefuse { s with flt.l3 := none } else l3Entry s)
  else applyRequest (autoMove s)

def execModeEvaluation (s : State) : Res := when (s.phase == .run && s.tm.running) evaluate s

/-- PEERS_RISE: HOLDOVER moves to ENSEMBLE, where no L3 fault goes before it (R76). -/
def execPeersRise (s : State) : Res := when (s.live && s.flt.l3.isNone && peersRisen s) (enterMode .ensemble 7) s

/-- PEERS_FALL: ENSEMBLE moves to HOLDOVER. -/
def execPeersFall (s : State) : Res := when (s.live && s.flt.l3.isNone && peersFallen s) (enterMode .holdover 7) s

/-! ## Wake windows (R68, R200 to R204) -/

/-- WAKE_WINDOW_START: the W domains turn on with the window. -/
def execWakeWindowStart (s : State) : Res := when (wakeDue s) (fun s => domsFollow (ptpWake (wakeOpen s))) s

/-- WAKE_WINDOW_END: the actions of R202, and the W domains turn off. An alarm-class event makes the unit leave DORMANT without
them (R204). -/
def execWakeWindowEnd (s : State) : Res :=
  match s.mo.win with
  | none => .next s
  | some w => when (s.live && s.mode == .dormant && s.md.exit != some .alarm && w.wlen ≤ w.elapsed) (fun s => domsFollow (wakeEnd w s)) s

/-! ## Steps of the time scale (R16, R86, R228) -/

/-- A step back in DORMANT: windows that the scale meets again before the next one planned open as planned from there (R200). -/
def wakeBack (d : Int) (s : State) : State := if s.mode == .dormant && d < 0 then planWake s.sec s else s

/-- UNTRACED changes, with its mirrors. -/
def setUntraced (b : Bool) (s : State) : State := s.wrB F.sysUntraced b

/-- A step of `d` applied at a strobe: the LONG beat begins, Pips are re-armed against the stepped scale, outputs from B realign, and
what is kept as an instant moves with the scale. The setting step clears UNTRACED (R86); a leap second passed over takes effect
(R231). -/
def stepApply (p : Step) (s : State) : State :=
  let info := match p.why with | .setting => 0 | .jump => 1
  let s1 : State := { s with tm.now := ((s.tm.now : Int) + p.delta).toNat, tm.pend := none, tm.long := true }
  let s2 := forN 16 (pulseShift p.delta) (forN 16 (capShift p.delta) ((s1.inc F.timeTstepcnt).occ .teStep 0 info 9 0))
  let s3 := if p.why == .setting then setUntraced false s2 else s2
  let s4 := wakeBack p.delta (if leapPassed s.sec s3 then leapApply s3 else s3)
  svcShift p.delta (refsStep p.delta (ensStep (ptpStep (realignAll p.delta (rearmAll (nextStrobe s4) s4)))))

/-- TIME_STEP. -/
def execTimeStep (s : State) : Res :=
  match s.tm.pend with
  | none => .next s
  | some p => when (s.powered && s.tm.running) (stepApply p) s

/-! ## The cold reset and the reset pin (R91, R92) -/

/-- The store before a cold reset: a commit completes, SC copies the model record, and the store is asked for (R91). -/
def coldStore (s : State) : State :=
  storeAsk .cold (copyModel (commitsFinish { s with pw.coldStore := true }))

/-- COLD_RESET: RESET# is released after `heldMs`; below 10 s nothing follows, and a pin held beyond 30 s is deaf. In the periods in
which RESET# does not act only RSTLIVE falls (R89, R93). -/
def execColdReset (heldMs : BitVec 16) (s : State) : Res :=
  when (s.powered && s.is F.sysRstlive) (fun s =>
    let s1 := s.clr F.sysRstlive
    if resetActs s && 10000 ≤ heldMs.toNat && heldMs.toNat ≤ 30000 then coldStore s1 else s1) s

/-- The store that a cold reset or a power-fail sequence makes has ended, or was not made. -/
def powerStored (s : State) : Bool := match s.st.store with | some r => r.why.ofPower | none => !s.st.storeQ.any StoreWhy.ofPower

/-- The cold reset proceeds to BOOT: the time scale starts from its own seconds and the whole seconds since the last strobe. -/
def coldBoot (p : PowerIn) (s : State) : State := boot true true 0 (s.sec + p.offSecs.toNat) (failStored s)

/-- COLD_RESET_STORE_DONE: BOOT starts; where the input has failed meanwhile and is not back, the unit shuts down. -/
def execColdResetStoreDone (inputGood : Bool) (p : PowerIn) (s : State) : Res :=
  when (s.powered && s.pw.coldStore && powerStored s) (fun s =>
    if s.pw.pf != .none && !inputGood then shutDown (failStored s) else coldBoot p s) s

/-- RESET_STUCK: RESET# stays low beyond 30 s (R92). -/
def execResetStuck (dt : Dt) (s : State) : Res :=
  when (resetActs s && s.is F.sysRstlive)
    (fun s => ((s.set1 F.sysRstdeaf).tally 17).liveSet .resetStuck 0 0 9 dt.toNat) s

/-- RESET_PIN_RECOVER: RESET# has been high for 1 s (R92). -/
def execResetPinRecover (s : State) : Res :=
  when (s.live && s.is F.sysRstdeaf)
    (fun s => ((s.clr F.sysRstdeaf).clr F.sysRstlive).liveClr .resetStuck 0) s

/-! ## Isolation by a forced record (R384, R393) -/

/-- What a record that has come to isolate its resource since `s0` takes out of service at once, where a real condition has done it
already: a domain is switched off, a port's link goes, an output is squelched. The other resources are out by their record alone. -/
def isolate (s0 : State) (dt : Nat) (s : State) : State :=
  let s1 := forN 14 (fun d s => if s.isolated .domainFail d && !s0.isolated .domainFail d
    then domOff d { s with pw.failed := setBit s.pw.failed d true } else s) s
  let s2 := forN 4 (fun n s => if s.portOut n && !s0.portOut n then linkLost n false false dt s else s) s1
  forN 8 (fun n s => if s.isolated .ckUnlock n && !s0.isolated .ckUnlock n then chanFault n s else s) s2

/-- FAULT_FORCE: a write of a block's FORCE word. -/
def execFaultForce (b : Fin 14) (w : Word) (dt : Dt) (s : State) : Res :=
  when s.live (fun s => isolate s dt.toNat (forceBits b w.toNat dt.toNat s)) s

/-! ## Return to service (R390) -/

/-- An instance of a resource restarts as its own chapter says. -/
def resRestart (c : FC) (i : Nat) (s : State) : State :=
  match c with
  | .domainFail => if bit s.pw.pgLost i then s else domRestore i s
  | .ckUnlock => chanStart i s.tm.now s
  | .sfpTxfault => portTrains i s
  | .phyFail => portTrains i s
  | _ => s

/-- The lowest instance whose live bit is set. -/
def liveInst (r : FRec) : Nat := ((List.range 32).find? (fun i => bit r.live i)).getD 0

/-- RETURN_TO_SERVICE of class `c` of block `b`: with the live bit clear the resource returns, else it makes a new occurrence. -/
def returnClass (c : FC) (s : State) : State :=
  let r := s.frec c
  let s1 := s.setFrec c { r with ret := false }
  if r.isLive then s1.occ c (liveInst r) (liveInst r) (if c == .tdcFail then 2 else 9) 0
  else forN 32 (fun i s => if bit r.isol i then resRestart c i s else s) (s1.setFrec c { r with ret := false, isol := 0 })

def execReturnToService (b : Fin 14) (c : Fin 16) (s : State) : Res :=
  match FC.at? b c with
  | none => .next s
  | some k => when (s.powered && (s.frec k).ret) (returnClass k) s

end Sys2Proof.Machine
end

