-- ==== Sys2Proof/Machine/Commands.lean ====
section
/-! DEFINITION. The commands of CMD: acceptance at the write, and mode, argument and precondition checked at the strobe that starts
them (R115, R124 to R126). -/
namespace Sys2Proof.Machine

/-! ## Acceptance and start (R124) -/

/-- A command is running, or a power-fail sequence refuses every command. -/
def cmdBusy (s : State) : Bool := s.bus.cmd.isSome || s.pw.pf != .none

/-- A guarded CMD write: accepted, with CODE and STATE 1, or refused with BUSYREJ. -/
def cmdAccept (code arg : Nat) (s : State) : State :=
  if cmdBusy s then s.set1 F.dBusyrej
  else ({ (((s.wr F.dStatCode code).wr F.dStatState 1).wr F.dStatErr 0) with bus.cmd := some ⟨code, arg, false⟩ } : State).note 0x70
    (bytesBE 1 code ++ bytesBE 1 arg)

/-- Engines take commands and staged writes at a strobe now (R111, R114). -/
def strobes (s : State) : Bool := s.live && s.tm.running && s.en.restart.isNone

/-- The accepted command starts. -/
def cmdStarted (s : State) : State := { s with bus.cmd := s.bus.cmd.map (fun c => { c with started := true }) }

/-- The ERR of a start: 2 for the argument, 3 for the mode, 4 for the precondition, 0 for none (log 22). -/
def cmdErr (argOk modeOk pre : Bool) : Nat := if !argOk then 2 else if !modeOk then 3 else if !pre then 4 else 0

/-- A command starts at a strobe: a failed check ends it there. -/
def cmdStart (code err : Nat) (run : State → State) (s : State) : State :=
  if err = 0 then run (cmdStarted s) else (cmdStarted s).cmdEnd code err

/-- A command of the table: accepted by this write, and started at the strobe that follows, unless an earlier write had it accepted
(log 22). The checks are made at the strobe, against the state there. -/
def cmdRow (code : Nat) (arg : BitVec 4) (err : State → Nat) (run : State → State) (s : State) : Res :=
  if s.bus.cmd = some ⟨code, arg.toNat, false⟩ then when (strobes s) (fun s => cmdStart code (err s) run s) s
  else hostWrite (fun s =>
    if cmdBusy s then cmdAccept code arg.toNat s
    else
      let s1 := cmdAccept code arg.toNat s
      if strobes s1 then cmdStart code (err s1) run s1 else s1) s

/-! ## The table (R125) -/

/-- Modes in which Stone's commands are allowed: Operating and REPLAY. -/
def stoneMode (s : State) : Bool := s.mode.operating || s.mode == .replay

/-- Modes in which a calibration is allowed: Operating except DORMANT. -/
def calMode (s : State) : Bool := s.mode.operating && s.mode != .dormant

/-- CMD_STORE. -/
def execCmdStore (arg : BitVec 4) (s : State) : Res :=
  cmdRow 1 arg (fun s => cmdErr (arg == 0) (stoneMode s) (!stoneBusy s && !s.stoneIsol)) (storeAsk .cmd) s

/-- CMD_COMMIT. -/
def execCmdCommit (arg : BitVec 4) (s : State) : Res :=
  cmdRow 2 arg (fun s => cmdErr (arg == 0) (stoneMode s) (s.txn 0).isSome) hostCommit s

/-- CMD_ABORT_TXN. -/
def execCmdAbortTxn (arg : BitVec 4) (s : State) : Res :=
  cmdRow 3 arg (fun s => cmdErr (arg == 0) (stoneMode s) (s.txn 0).isSome) (fun s => (txnDrop 0 s).cmdEnd 3 0) s

/-- CMD_BEGIN_TXN. -/
def execCmdBeginTxn (arg : BitVec 4) (s : State) : Res :=
  cmdRow 0x70 arg (fun s => cmdErr (arg == 0) (stoneMode s) (s.txn 0).isNone) (fun s => (txnOpen 0 s).cmdEnd 0x70 0) s

/-- CMD_CAL_ALL. -/
def execCmdCalAll (arg : BitVec 4) (s : State) : Res :=
  cmdRow 0x10 arg (fun s => cmdErr (arg == 0) (calMode s) (s.domOn 2)) (calCommand 1 0 0x10) s

/-- CMD_CAL_TDC. -/
def execCmdCalTdc (arg : BitVec 4) (s : State) : Res :=
  cmdRow 0x11 arg (fun s => cmdErr (arg == 0) (calMode s) (s.domOn 2)) (calCommand 2 0 0x11) s

/-- CMD_CAL_THRESH. -/
def execCmdCalThresh (arg : BitVec 4) (s : State) : Res :=
  cmdRow 0x12 arg (fun s => cmdErr (decide (arg.toNat ≤ 4)) (calMode s) (s.domOn 11)) (calCommand 3 arg.toNat 0x12) s

/-- CMD_CAL_SKEW. -/
def execCmdCalSkew (arg : BitVec 4) (s : State) : Res :=
  cmdRow 0x13 arg (fun s => cmdErr (decide (arg.toNat ≤ 8)) (calMode s) true) (calCommand 4 arg.toNat 0x13) s

/-- CMD_PRESS_SNAP: the snapshot ends the command. -/
def execCmdPressSnap (arg : BitVec 4) (s : State) : Res :=
  cmdRow 0x20 arg (fun s => cmdErr (arg == 0) s.mode.operating true) (pressTrigger 0 true) s

/-- GRAFT_NOW's Graft begins at once; a refused one ends the command with ERR 5. -/
def graftNow (s : State) : State :=
  match preferred s with
  | none => s
  | some n =>
    let s1 := selPut n (graftDrop s)
    if timeRef s1 n then graftTime n s1 else graftFreq n s1

/-- CMD_GRAFT_NOW. -/
def execCmdGraftNow (arg : BitVec 4) (s : State) : Res :=
  cmdRow 0x30 arg (fun s => cmdErr (arg == 0) (s.mode == .track || s.mode == .holdover || s.mode == .ensemble)
    ((preferred s).any (fun n => n != s.rd F.dSelref))) graftNow s

/-- Qualification restarts: an enabled reference leaves its state as when it was enabled. -/
def requalify (n : Nat) (s : State) : State := if s.is (F.refEnable n) then refRestart n s else s

/-- CMD_REQUALIFY: one reference, or all of them with 15. -/
def execCmdRequalify (arg : BitVec 4) (s : State) : Res :=
  cmdRow 0x31 arg (fun s => cmdErr (decide (arg.toNat < 10) || arg == 15) s.mode.operating true)
    (fun s => (if arg = 15 then forN 10 requalify s else requalify arg.toNat s).cmdEnd 0x31 0) s

/-- Modes in which ACCEPT_JUMP is allowed. -/
def jumpMode (s : State) : Bool := s.mode == .provision || s.mode.runs

/-- CMD_ACCEPT_JUMP. -/
def execCmdAcceptJump (arg : BitVec 4) (s : State) : Res :=
  cmdRow 0x32 arg (fun s => cmdErr (decide (arg.toNat < 2)) (jumpMode s) (s.is F.dJumpPend || confirmedNow s))
    (fun s => (acceptJump (arg == 1) s).cmdEnd 0x32 0) s

/-- CMD_LEARN_RESET. -/
def execCmdLearnReset (arg : BitVec 4) (s : State) : Res :=
  cmdRow 0x40 arg (fun s => cmdErr (arg == 0) (s.mode == .provision || s.mode == .track) true)
    (fun s => (learnReset s).cmdEnd 0x40 0) s

/-- CMD_WIPE_TENANT: the wipe's end ends the command. -/
def execCmdWipeTenant (arg : BitVec 4) (s : State) : Res :=
  cmdRow 0x50 arg (fun s => cmdErr (decide (1 ≤ arg.toNat ∧ arg.toNat ≤ 4)) s.mode.operating true)
    (wipeStart (arg.toNat - 1)) s

/-- CMD_LOCK_SERVICE. -/
def execCmdLockService (arg : BitVec 4) (s : State) : Res :=
  cmdRow 0x60 arg (fun s => cmdErr (arg == 0) s.mode.operating (s.is F.svcPwisset))
    (fun s => (lockService s).cmdEnd 0x60 0) s

/-- A code of the table. -/
def cmdKnown (c : Nat) : Bool := [1, 2, 3, 0x10, 0x11, 0x12, 0x13, 0x20, 0x30, 0x31, 0x32, 0x40, 0x50, 0x60, 0x70].contains c

/-- CMD_UNKNOWN_CODE: ERR 1 at the strobe. -/
def execCmdUnknownCode (code : BitVec 8) (arg : BitVec 4) (s : State) : Res :=
  if cmdKnown code.toNat then .next s
  else cmdRow code.toNat arg (fun _ => 1) id s

end Sys2Proof.Machine
end

