-- ==== Sys2Proof/Machine/Engines.lean ====
section
/-! DEFINITION. The beat's share of the engines: overruns, deferrable work, mailboxes, and restart after a warm
reset (R20 to R27). Engines are numbered SC 0, QC 1, PC 2. -/
namespace Sys2Proof.Machine

/-! ## Overrun and deferrable work (R21, R22, R24) -/

/-- The beat is run: the time engine counts, and no restart holds the engines (R27). -/
def beatRuns (s : State) : Bool := s.powered && s.tm.running && s.en.restart.isNone

/-- BEAT_OVERRUN: non-deferrable work is left at cycle 232,000, once in a beat for each engine. -/
def beatOverrun (e dt : Nat) (s : State) : State :=
  let s1 := s.setEngine e { s.engine e with overran := true, outstanding := true }
  let s2 := s1.inc (F.fabOvrs e)
  let s3 := if s2.en.overBeat then s2 else ({ s2 with en.overBeat := true } : State).tally 14
  s3.occ .beatOverrun e (e + 1) 9 dt

def execBeatOverrun (e : Fin 3) (dt : Dt) (s : State) : Res :=
  when (beatRuns s && engFetches s e && !(s.engine e).overran) (beatOverrun e dt.toNat) s

/-- DEFERRABLE_ABANDON: item 0 is Press compression, 1 margin-read scheduling, 2 gossip; one that this beat skips is not abandoned
again. -/
def execDeferrableAbandon (item : Fin 3) (s : State) : Res :=
  when (beatRuns s && !bit s.en.abandoned item)
    (fun s => { (s.inc F.fabDefcnt) with en.abandoned := setBit s.en.abandoned item true }) s

/-- The deferrable items of the beat that begins: all are skipped after an overrun, and while BEAT_OVERRUN isolates them. -/
def skipBeat (s : State) : State :=
  let skip := s.en.overBeat || s.deferOff
  let s1 := (s.wrB F.fabOvr s.en.overBeat).wrB F.fabSkip skip
  let s2 := if skip then s1.incBy F.fabDefcnt 3 else s1
  { s2 with en.overBeat := false, en.abandoned := if skip then 7 else 0 }

/-! ## The packet core's limits (KL-07) -/

/-- The load of PC lies above the limits of R437: by the slots in OBSERVING or QUALIFIED, more MASTER ports at logSyncInterval −7 than
the table allows, or all four below the interval it gives. -/
def pcOver (s : State) : Bool :=
  let peers := ((List.range 16).filter (fun k => peerState s k == 1 || peerState s k == 2)).length
  let masters := (List.range 4).filter (fun n => ptpUp s n && pstate s n == 6 && ptpSends s)
  let fast := (masters.filter (fun n => s.rdS (F.ptpLogsync n) == -7)).length
  8 < peers && ((if peers ≤ 12 then 3 else 2) < fast || (masters.length == 4 && 0 < fast))

/-- An overload of PC makes it overrun in the beat, where it has not already (R437). -/
def pcBeat (s : State) : State :=
  if pcOver s && beatRuns s && engFetches s 2 && !(s.engine 2).overran then beatOverrun 2 464000 s else s

/-! ## Mailboxes (R26) -/

/-- A mailbox at the strobe: it changes over, or holds what it has until its writer has finished the work carried over, for which its
readers wait. -/
def mailStrobe (e : Nat) (s : State) : State :=
  let x := s.engine e
  let s1 := publish (if x.outstanding then e + 3 else e) s
  s1.setEngine e { x with
    overran := false, changed := !x.outstanding
    waiting := if x.outstanding then maskOf 3 (fun o => o != e && engFetches s o) else 0 }

/-- What a mailbox held is published. -/
def mailShow (e : Nat) (s : State) : State :=
  match s.pubs.get? (e + 3) with
  | some r => { s with pubs := (s.pubs.set e r).del (e + 3) }
  | none => s

/-- MAILBOX_CHANGEOVER: the writer has finished its non-deferrable work. Work carried over from the beat before shows now; work that an
overrun of this beat left is done in the guard, and shows at the strobe. -/
def execMailboxChangeover (e : Fin 3) (s : State) : Res :=
  when (beatRuns s && (s.engine e).outstanding)
    (fun s => mailShow e (s.setEngine e { s.engine e with outstanding := false, changed := true, waiting := 0 })) s

/-! ## Restart after a warm reset (R27, R126) -/

/-- A wipe in progress starts again from its beginning (R126); a store of it that Stone is at ends beside the new ones. -/
def wipeAgain (s : State) : State :=
  match s.tn.wipe with
  | some w =>
    let s1 := wipeStart w.k { s with st.storeQ := s.st.storeQ.filter (fun y => y != .wipe) }
    if s.st.store.any (fun r => r.why == .wipe) then
      { s1 with tn.wipe := s1.tn.wipe.map (fun x => { x with stores := x.stores + 1 }) }
    else s1
  | none => s

/-- ENGINE_RESUME: the engines resume at a strobe, with a gap marker for each beat that was not run. -/
def engineResume (n : Nat) (s : State) : State :=
  let s1 := wipeAgain { s with en.restart := none }
  if s1.live && s1.mode != .replay then forN n (fun i s => ringGap (s.beatcnt + i - n) s) s1 else s1

def execEngineResume (s : State) : Res :=
  match s.en.restart with
  | some n => when (s.powered && 1 ≤ n) (engineResume n) s
  | none => .next s

end Sys2Proof.Machine
end

