-- ==== Sys2Proof/Machine/HostBus.lean ====
section
/-! DEFINITION. The host bus: direct registers and windows as the host reads and writes them, the strobe at which staged writes take
effect, and accesses that go wrong (R94 to R120). -/
namespace Sys2Proof.Machine

/-- The unit sees the host bus: it has energy and D13 LINK is on. -/
def hostBus (s : State) : Bool := s.powered && s.domOn 13

/-- D[15:0] driven with a word that a host read returns. -/
def drive (v : Nat) (s : State) : State := { s with bus.rdata := some (BitVec.ofNat 16 v) }

/-! ## Direct registers (R95, R107, R108, R118, R119) -/

/-- Registers that answer during BOOT (R85): DEVID, SILREV, MODESTAT, POWSTAT, SUPPLY, TEMP, ACCSTAT. -/
def bootReads : List Nat := [0, 1, 3, 0x2B, 0x2D, 0x2E, 0x2F]

/-- A direct read: the lowest word of a field takes the direct snapshot, a higher word returns it, or the live word with TORN. A
held latch needs no snapshot (R133). -/
def directRead (a t : Nat) (s : State) : Nat × State :=
  match grpAt 16 a with
  | none => (0, s)
  | some w =>
    let i := a - w.base
    let v := viewGrp s 0 t w.flds
    let live := wordOf v w.words i
    if i = 0 then
      (live, { s with bus.dsnap := if w.words = 1 || s.tm.latch.isSome then none else some (w.base, v) })
    else if s.tm.latch.isSome then (live, s)
    else match s.bus.dsnap with
      | some p => if p.1 = w.base then (wordOf p.2 w.words i, s) else (live, (s.set1 F.dWsTorn).inc F.sysHbtorn)
      | none => (live, (s.set1 F.dWsTorn).inc F.sysHbtorn)

/-- The written bits that reach a field: those of tenants' Pips are ignored in PIPCTL and PIPSTAT (R119). -/
def directBits (s : State) (f : Fld) (w : Nat) : Nat :=
  let v := fldBits f w
  if f.addr = 0x1E ∨ f.addr = 0x1F then hostPips s v else v

/-- A field of a direct register written: it waits for the strobe where the engines read it, else takes effect now. -/
def directFld (w : Nat) (s : State) (f : Fld) : State :=
  if f.eng then { s with bus.dstage := s.bus.dstage ++ [(f, inRange f (directBits s f w))] }
  else putFld f (directBits s f w) s

/-- Every field of a direct register that takes writes. -/
def directFlds (a w : Nat) (s : State) : State :=
  match grpAt 16 a with
  | none => s
  | some g => (g.flds.filter (takes s 0)).foldl (directFld w) s

/-- The host's window moved, which discards its window snapshot; its direct snapshot stays (R103, R107, log 64: DESIGN CHOICE). -/
def windowTo (space addr : Nat) (s : State) : State :=
  s.setWin 0 { s.winOf 0 with space := space, addr := addr, snap := none }

/-- DROP: the snapshot and the staged words go, uncounted (R128). -/
def windowDrop (s : State) : State := s.setWin 0 { s.winOf 0 with snap := none, stg := none }

/-- WCTL. -/
def wctl (w : Nat) (s : State) : State :=
  let s1 := s.setWin 0 { s.winOf 0 with ainc := bit w 0 }
  if bit w 1 then windowDrop s1 else s1

/-- TLATCH (R133): LATCH wins over RELEASE. -/
def tlatch (w dt : Nat) (s : State) : State :=
  if bit w 0 then (({ s with tm.latch := some (latchEdge s (s.at dt)) } : State).used).set1 F.dHeld
  else if bit w 1 then ({ s with tm.latch := none } : State).clr F.dHeld else s

/-- CMD (R115): the guard nibble must be 0xA. -/
def cmdWrite (w : Nat) (s : State) : State :=
  if w / 4096 = 0xA then cmdAccept (w % 256) (w / 256 % 16) s else s.inc F.sysHbguard

/-- A direct write other than WDATA: registers that act, and the fields of the others. -/
def directWrite (a w dt : Nat) (s : State) : State :=
  match a with
  | 2 => modeAsk (w % 8) s
  | 4 => cmdWrite w s
  | 8 => windowTo (w % 16) (s.winOf 0).addr s
  | 9 => windowTo (s.winOf 0).space (w % 256 * 65536 + (s.winOf 0).addr % 65536) s
  | 0xA => windowTo (s.winOf 0).space ((s.winOf 0).addr / 65536 * 65536 + w) s
  | 0xC => wctl w s
  | 0x14 => tlatch w dt s
  | 0x20 => if bit w 15 then fireChannel 0 (w % 32) (dt / 2 + 1) dt s else s
  | 0x23 => ackBlocks (w % 2 ^ 14) s
  | _ => directFlds a w s

/-! ## WDATA (R98 to R105) -/

/-- Auto-increment after an access that completes (R104). -/
def windowNext (s : State) : State :=
  let w := s.winOf 0
  if !w.ainc then s
  else
    let s1 := s.setWin 0 { w with addr := (w.addr + 1) % 2 ^ 24 }
    if (w.addr + 1) % 2 ^ 24 = 0 then s1.set1 F.dWsWrap else s1

/-- The longest extension, in SYSCLK cycles (R116). -/
def noteExt (ext : Nat) (s : State) : State := s.wr F.sysHbextmax (max (s.rd F.sysHbextmax) ext)

/-- A read of WDATA that completes. -/
def wdataRead (t : Nat) (s : State) : State :=
  if !s.live then windowNext (drive 0 (s.set1 F.dWsNotready))
  else
    let r := winRead 0 (s.winOf 0).space (s.winOf 0).addr t s
    windowNext (drive r.1 r.2.2)

/-- A write of WDATA that completes. -/
def wdataWrite (w t : Nat) (s : State) : State :=
  if !s.live then windowNext ((s.set1 F.dWsNotready).inc F.sysHbbootwr)
  else
    let r := winWrite 0 (s.winOf 0).space (s.winOf 0).addr w t s
    let s1 := if (s.winOf 0).space = 12 then isolate s ((t - s.tm.now) / unitsPerEdge) r.2 else r.2
    windowNext (if r.1 = .full then (s1.set1 F.dWsFull).inc F.sysHbstagerej else s1)

/-- An access to the host bus: while the data bus is released it is abandoned and counted (R52, R101). -/
def hostAccess (f : State → State) (s : State) : Res :=
  when (hostBus s) (fun s => if s.pw.auxLow then s.inc F.sysHbabandon else f s) s

/-- WDATA_READ, extended by `ext` SYSCLK cycles, with the errors that its access to Orchard finds (R29). -/
def execWdataRead (ext : BitVec 16) (ecc : List EccIn) (dt : Dt) (s : State) : Res :=
  hostAccess (fun s =>
    wdataRead (s.at dt.toNat) (ecc.foldl (fun s e => eccWord 0 dt.toNat e s) (noteExt ext.toNat s))) s

/-- WDATA_WRITE. -/
def execWdataWrite (w : Word) (ext : BitVec 16) (dt : Dt) (s : State) : Res :=
  hostAccess (fun s => wdataWrite w.toNat (s.at dt.toNat) (noteExt ext.toNat s)) s

/-- WINDOW_DROP. -/
def execWindowDrop (s : State) : Res := hostWrite windowDrop s

/-! ## Reads and writes of other registers -/

/-- A host read of a direct register that completes. -/
def hostDirect (a t : Nat) (s : State) : State :=
  if 0x30 ≤ a then drive 0 s
  else if a = 0xB then wdataRead t s
  else if !s.live && !bootReads.contains a then drive 0 s
  else
    let r := directRead a t s
    drive r.1 r.2

/-- RC_FIELD_READ: a host read of the lowest word of the field at a window address, or of the word itself in the direct
area, space 16 (log 22). -/
def execRcFieldRead (sp : BitVec 5) (addr : BitVec 24) (dt : Dt) (s : State) : Res :=
  hostAccess (fun s =>
    if sp.toNat = 16 then hostDirect (addr.toNat % 128) (s.at dt.toNat) s
    else if 16 < sp.toNat then s
    else if !s.live then drive 0 (s.set1 F.dWsNotready)
    else
      let base := match grpAt sp.toNat addr.toNat with | some w => w.base | none => addr.toNat
      let r := winRead 0 sp.toNat base (s.at dt.toNat) s
      drive r.1 r.2.2) s

/-- REGISTER_WRITE: a host write of a direct register; addresses above 0x2F ignore it. -/
def execRegisterWrite (addr : BitVec 7) (w : Word) (dt : Dt) (s : State) : Res :=
  if 0x30 ≤ addr.toNat then .next s
  else if addr.toNat = 0xB then hostAccess (wdataWrite w.toNat (s.at dt.toNat)) s
  else hostWrite (directWrite addr.toNat w.toNat dt.toNat) s

/-! ## The strobe (R111, R114, R118) -/

/-- The value in force of a word group. -/
def grpValue (s : State) (g : WordGrp) : Nat := g.flds.foldl (fun a f => a + s.rd f * 2 ^ f.lo) 0

/-- The host writes of a strobe for its vector (R111, R118, R398): for each group written its address, its old and its new value; the
direct registers stand in space 0 (log 93). -/
def writeNotes (l : List (Fld × Nat)) (s0 s : State) : State :=
  ((l.map (fun p => (p.1.sp, p.1.addr))).eraseDups).foldl (fun s p =>
    match grpAt p.1 p.2 with
    | some g => s.note (0x60 + p.1 % 16) (bytesBE 3 p.2 ++ bytesBE (2 * g.words) (grpValue s0 g) ++ bytesBE (2 * g.words) (grpValue s g))
    | none => s) s

/-- What waits for the strobe, but POWREQ and the links' writes, takes effect in the order in which it was accepted. -/
def stagedApply (s : State) : State :=
  let ds := s.bus.dstage.filter (fun p => p.1.key != F.dPowreq.key)
  let es := s.bus.staging.filter (fun e => (tenantOf e.agent).isNone)
  let s1 : State := { s with
    bus.dstage := s.bus.dstage.filter (fun p => p.1.key == F.dPowreq.key)
    bus.staging := s.bus.staging.filter (fun e => (tenantOf e.agent).isSome) }
  leaveBeat (es.foldl (fun s e => writeNotes e.flds s (applyWrite e.flds s)) (writeNotes ds s1 (applyWrite ds s1)))

/-- STAGED_WRITE_APPLY: it waits while the engines restart. -/
def execStagedWriteApply (s : State) : Res := when (strobes s) stagedApply s

/-! ## Accesses that go wrong (R100 to R102) -/

/-- BUS_PROTOCOL: RD# and WR# low together. -/
def execBusProtocol (dt : Dt) (s : State) : Res :=
  when (hostBus s) (fun s => (s.inc F.sysHbproto).occ .busProtocol 0 0 0 dt.toNat) s

/-- HOST_ACCESS_ABANDON: a strobe ends with RDY low, after `ext` SYSCLK cycles of it. -/
def execHostAccessAbandon (ext : BitVec 16) (s : State) : Res :=
  when (hostBus s) (fun s => (noteExt ext.toNat s).inc F.sysHbabandon) s

/-- BUS_TIMEOUT: the cycle completes empty after 2.0 µs. -/
def execBusTimeout (read : Bool) (ext : BitVec 16) (dt : Dt) (s : State) : Res :=
  hostAccess (fun s =>
    let s1 := ((noteExt ext.toNat s).set1 F.dWsTmo).inc F.sysHbtmo
    (if read then drive 0 s1 else s1).occ .busTimeout 0 0 0 dt.toNat) s

end Sys2Proof.Machine
end

