-- ==== Sys2Proof/Machine/Beat.lean ====
section
/-! DEFINITION. The beat strobe (R15, R18): what the beat that ends brings, the time engine's count, and each engine's bookkeeping in
the order of R18. -/
namespace Sys2Proof.Machine

/-! ## The hardware's part -/

/-- The strobe of the time engine: the reading, BEATCNT, and LONG with LASTSTEPAT after a LONG beat (R15, R16, R38, R228). -/
def beatCount (s : State) : State :=
  let t := nextStrobe s
  let s1 : State := { s with tm.now := t, tm.long := false }
  let s2 := (s1.wr F.fabBeatcnt (s.beatcnt + 1)).wrB F.fabLong s.tm.long
  if s.tm.long then s2.wr F.timeLaststepat (secOf t) else s2

/-- Cycle counts of the beat (R38). -/
def beatCycles (b : BeatIn) (s : State) : State :=
  let hi (e v : Nat) (s : State) : State := s.wr (F.fabHw e) (max (s.rd (F.fabHw e)) v)
  hi 2 b.hwPc.toNat (hi 1 b.hwQc.toNat (hi 0 b.hwSc.toNat (s.wr F.fabLastlen b.len.toNat)))

/-- The supervisor's readings (R57, R59, R70); SUPPLY and TEMP hold while the bandgap group is measured (R374). -/
def beatReadings (b : BeatIn) (s : State) : State :=
  let s1 := s.wr F.sysHuv b.huv.toNat
  let s2 := if s.calItem = some 1 then s1 else putVin b.vin.toNat (s1.wr F.dTemp b.plate.toNat)
  avsBeat 1 b.margin6.toNat (avsBeat 0 b.margin5.toNat s2)

/-- Marks clear and write-backs in flight have completed (R33); the cycles of Bramble's paths count from 0. -/
def beatMarks (s : State) : State :=
  let s1 := forN 3 drainAll s
  { s1 with en.marks := [], br.lastArr := [], br.lastDel := [] }

/-- The strobe's producers: BEAT, and SECOND in beat 0 (R313). -/
def beatProducers (sec : Bool) (s : State) : State :=
  if !s.live then s else if sec then (s.fire 32).fire 33 else s.fire 32

/-- Deferred slice work of each allocated tenant (R341). -/
def beatSlices (m : Nat) (s : State) : State :=
  forN 4 (fun k s => if bit m k && bit (s.rd F.tenTnen) k then s.inc (F.tvSlicedef k) else s) s

/-! ## The engines' part -/

/-- What the ended beat gave the references, with the reading of its start still in force. -/
def beatInputs (b : BeatIn) (s : State) : State :=
  let s1 := frontBeat b.refs s
  if s1.en.restart.isSome then s1 else refsStrobe b.refs (nextStrobe s) (tempBeat b.temp (ptpCriteria s1))

/-- The engines' bookkeeping at the strobe: servo and model, ensemble, packet core, Stone's schedule, Press or the replay, and the
fault timers. -/
def beatEngines (b : BeatIn) (beat flags : Nat) (sec : Bool) (s : State) : State :=
  let s1 := ptpStrobe sec (ensStrobe (modelStrobe sec (steerStrobe s)))
  let s2 := pressStrobe beat flags b sec (stoneStrobe (calStrobe sec s1))
  svcStrobe (marginRead b.margin (faultStrobe (if s2.mode == .replay then replayBeat b.diverged s2 else s2)))

/-- A beat that the engines do not run: Stone, calibration's pins and the powered seconds go on, and the beat is counted (R27, R189). -/
def beatIdle (n : Nat) (s : State) : State := svcStrobe (storeNext (skewBeat (poweredBeat { s with en.restart := some (n + 1) })))

/-- QUALB has changed since the last strobe (R129). -/
def qualNote (s : State) : State :=
  let s1 := if s.live && qualb s != s.rf.qualWas then s.set1 F.dRefChg else s
  { s1 with rf.qualWas := qualb s }

/-- BEAT_STROBE. -/
def beatStrobe (b : BeatIn) (s : State) : State :=
  let beat := s.beatcnt
  let flags := s.rd F.fabOvr + 2 * b2n s.tm.long
  let s1 := scrub b.ecc (b.len.toNat * 2) (beatCycles b (pcBeat s))
  let s2 := beatMarks (beatCount (beatInputs b s1))
  let sec := s2.beatOfSec == 0
  let s3 := portsStrobe b.mse.toNat b.echo.toNat (synthStrobe (beatSlices b.sliceDef.toNat (beatReadings b s2)))
  let s4 := match s3.en.restart with
    | some n => beatIdle n s3
    | none => beatEngines b beat flags sec s3
  qualNote (beatProducers sec (forN 3 mailStrobe (skipBeat (wordApply s4))))

def execBeatStrobe (b : BeatIn) (s : State) : Res := when (s.powered && s.tm.running) (beatStrobe b) s

end Sys2Proof.Machine
end

