-- ==== Sys2Proof/Machine/Dispatch.lean ====
section
/-! DEFINITION. Every command's meaning, one arm each. -/
namespace Sys2Proof.Machine

def exec (i : Instr) (s : State) : Host.Outcome State Fault Refusal :=
  match i with
  | .powerUp p => Sys2Proof.Machine.execPowerUp p s
  | .startAbandoned => Sys2Proof.Machine.execStartAbandoned s
  | .bootEnd huvMs huv => Sys2Proof.Machine.execBootEnd huvMs huv s
  | .autorun => Sys2Proof.Machine.execAutorun s
  | .supplyLow dt => Sys2Proof.Machine.execSupplyLow dt s
  | .supplyOv dt => Sys2Proof.Machine.execSupplyOv dt s
  | .overvoltageTimeout dt => Sys2Proof.Machine.execOvervoltageTimeout dt s
  | .powerFail dt => Sys2Proof.Machine.execPowerFail dt s
  | .powerFailStoreDone inputGood => Sys2Proof.Machine.execPowerFailStoreDone inputGood s
  | .restartAfterShutdown p => Sys2Proof.Machine.execRestartAfterShutdown p s
  | .holdupTest => Sys2Proof.Machine.execHoldupTest s
  | .hutest => Sys2Proof.Machine.execHutest s
  | .holdupTestEnd drop dt => Sys2Proof.Machine.execHoldupTestEnd drop dt s
  | .domainFail d dt => Sys2Proof.Machine.execDomainFail d dt s
  | .domainPowerGoodReturn d => Sys2Proof.Machine.execDomainPowerGoodReturn d s
  | .domainTurnOnDone d => Sys2Proof.Machine.execDomainTurnOnDone d s
  | .powreqApply => Sys2Proof.Machine.execPowreqApply s
  | .avsStep l margin => Sys2Proof.Machine.execAvsStep l margin s
  | .avsFastRaise l margin => Sys2Proof.Machine.execAvsFastRaise l margin s
  | .avsLimit l dt => Sys2Proof.Machine.execAvsLimit l dt s
  | .auxLow cycle dt => Sys2Proof.Machine.execAuxLow cycle dt s
  | .auxRestore => Sys2Proof.Machine.execAuxRestore s
  | .beatStrobe b => Sys2Proof.Machine.execBeatStrobe b s
  | .timeStep => Sys2Proof.Machine.execTimeStep s
  | .beatOverrun e dt => Sys2Proof.Machine.execBeatOverrun e dt s
  | .deferrableAbandon item => Sys2Proof.Machine.execDeferrableAbandon item s
  | .mailboxChangeover e => Sys2Proof.Machine.execMailboxChangeover e s
  | .engineResume => Sys2Proof.Machine.execEngineResume s
  | .cacheGets e line ecc dt => Sys2Proof.Machine.execCacheGets e line s ecc dt
  | .cacheGetm e line idx data rivals ecc dt => Sys2Proof.Machine.execCacheGetm e line idx data rivals s ecc dt
  | .cacheEvict e line => Sys2Proof.Machine.execCacheEvict e line s
  | .hbLineRead line req ecc dt => Sys2Proof.Machine.execHbLineRead line s req ecc dt
  | .hbLineWrite line idx data req ecc dt => Sys2Proof.Machine.execHbLineWrite line idx data s req ecc dt
  | .ownershipClaimRetry line idx data => Sys2Proof.Machine.execOwnershipClaimRetry line idx data s
  | .ucodeParity e dt => Sys2Proof.Machine.execUcodeParity e dt s
  | .ucodeReloadDone e dt => Sys2Proof.Machine.execUcodeReloadDone e dt s
  | .modeReqProvision => Sys2Proof.Machine.execModeReqProvision s
  | .modeReqRun => Sys2Proof.Machine.execModeReqRun s
  | .modeReqHold => Sys2Proof.Machine.execModeReqHold s
  | .modeReqDormant => Sys2Proof.Machine.execModeReqDormant s
  | .modeReqReplay => Sys2Proof.Machine.execModeReqReplay s
  | .modeReqSafe => Sys2Proof.Machine.execModeReqSafe s
  | .modeReqInvalid four => Sys2Proof.Machine.execModeReqInvalid four s
  | .modeEvaluation => Sys2Proof.Machine.execModeEvaluation s
  | .peersRise => Sys2Proof.Machine.execPeersRise s
  | .peersFall => Sys2Proof.Machine.execPeersFall s
  | .warmReset => Sys2Proof.Machine.execWarmReset s
  | .coldReset heldMs => Sys2Proof.Machine.execColdReset heldMs s
  | .coldResetStoreDone inputGood p => Sys2Proof.Machine.execColdResetStoreDone inputGood p s
  | .resetStuck dt => Sys2Proof.Machine.execResetStuck dt s
  | .resetPinRecover => Sys2Proof.Machine.execResetPinRecover s
  | .wdataRead ext ecc dt => Sys2Proof.Machine.execWdataRead ext ecc dt s
  | .wdataWrite w ext dt => Sys2Proof.Machine.execWdataWrite w ext dt s
  | .rcFieldRead sp addr dt => Sys2Proof.Machine.execRcFieldRead sp addr dt s
  | .registerWrite addr w dt => Sys2Proof.Machine.execRegisterWrite addr w dt s
  | .busProtocol dt => Sys2Proof.Machine.execBusProtocol dt s
  | .hostAccessAbandon ext => Sys2Proof.Machine.execHostAccessAbandon ext s
  | .busTimeout read ext dt => Sys2Proof.Machine.execBusTimeout read ext dt s
  | .windowDrop => Sys2Proof.Machine.execWindowDrop s
  | .stagedWriteApply => Sys2Proof.Machine.execStagedWriteApply s
  | .timeLatch dt => Sys2Proof.Machine.execTimeLatch dt s
  | .timeRelease => Sys2Proof.Machine.execTimeRelease s
  | .cmdStore arg => Sys2Proof.Machine.execCmdStore arg s
  | .cmdCommit arg => Sys2Proof.Machine.execCmdCommit arg s
  | .cmdAbortTxn arg => Sys2Proof.Machine.execCmdAbortTxn arg s
  | .cmdBeginTxn arg => Sys2Proof.Machine.execCmdBeginTxn arg s
  | .cmdCalAll arg => Sys2Proof.Machine.execCmdCalAll arg s
  | .cmdCalTdc arg => Sys2Proof.Machine.execCmdCalTdc arg s
  | .cmdCalThresh arg => Sys2Proof.Machine.execCmdCalThresh arg s
  | .cmdCalSkew arg => Sys2Proof.Machine.execCmdCalSkew arg s
  | .cmdPressSnap arg => Sys2Proof.Machine.execCmdPressSnap arg s
  | .cmdGraftNow arg => Sys2Proof.Machine.execCmdGraftNow arg s
  | .cmdRequalify arg => Sys2Proof.Machine.execCmdRequalify arg s
  | .cmdAcceptJump arg => Sys2Proof.Machine.execCmdAcceptJump arg s
  | .cmdLearnReset arg => Sys2Proof.Machine.execCmdLearnReset arg s
  | .cmdWipeTenant arg => Sys2Proof.Machine.execCmdWipeTenant arg s
  | .wipeDone k => Sys2Proof.Machine.execWipeDone k s
  | .cmdLockService arg => Sys2Proof.Machine.execCmdLockService arg s
  | .cmdUnknownCode code arg => Sys2Proof.Machine.execCmdUnknownCode code arg s
  | .rinIndeterminate n => Sys2Proof.Machine.execRinIndeterminate n s
  | .thresholdSettled n => Sys2Proof.Machine.execThresholdSettled n s
  | .rinTransitionsCounted n => Sys2Proof.Machine.execRinTransitionsCounted n s
  | .rinMidband n dt => Sys2Proof.Machine.execRinMidband n dt s
  | .refEnable n => Sys2Proof.Machine.execRefEnable n s
  | .refDisable n => Sys2Proof.Machine.execRefDisable n s
  | .refQualify n => Sys2Proof.Machine.execRefQualify n s
  | .refFail n => Sys2Proof.Machine.execRefFail n s
  | .refSuspectClear n => Sys2Proof.Machine.execRefSuspectClear n s
  | .refFailholdEnd n => Sys2Proof.Machine.execRefFailholdEnd n s
  | .refSourceAbsent n => Sys2Proof.Machine.execRefSourceAbsent n s
  | .wtrExpiry n => Sys2Proof.Machine.execWtrExpiry n s
  | .nmeaSentence text dt => Sys2Proof.Machine.execNmeaSentence text dt s
  | .gnssTodTimeout => Sys2Proof.Machine.execGnssTodTimeout s
  | .uartOverflow bytes => Sys2Proof.Machine.execUartOverflow bytes s
  | .gnssTx => Sys2Proof.Machine.execGnssTx s
  | .graftStart => Sys2Proof.Machine.execGraftStart s
  | .graftComplete => Sys2Proof.Machine.execGraftComplete s
  | .servoLock => Sys2Proof.Machine.execServoLock s
  | .servoUnlock => Sys2Proof.Machine.execServoUnlock s
  | .bandwidthUpdate => Sys2Proof.Machine.execBandwidthUpdate s
  | .servoLimit => Sys2Proof.Machine.execServoLimit s
  | .slewEnd => Sys2Proof.Machine.execSlewEnd s
  | .jumpRefused n => Sys2Proof.Machine.execJumpRefused n s
  | .thermoLost dt => Sys2Proof.Machine.execThermoLost dt s
  | .oscFail dt => Sys2Proof.Machine.execOscFail dt s
  | .modelFitUpdate => Sys2Proof.Machine.execModelFitUpdate s
  | .taufitAdjust => Sys2Proof.Machine.execTaufitAdjust s
  | .modelDiverge => Sys2Proof.Machine.execModelDiverge s
  | .mqUpdate => Sys2Proof.Machine.execMqUpdate s
  | .modelCopy => Sys2Proof.Machine.execModelCopy s
  | .holdBound => Sys2Proof.Machine.execHoldBound s
  | .wakeWindowStart => Sys2Proof.Machine.execWakeWindowStart s
  | .wakeWindowEnd => Sys2Proof.Machine.execWakeWindowEnd s
  | .synaUnlock dt => Sys2Proof.Machine.execSynaUnlock dt s
  | .synbUnlock dt => Sys2Proof.Machine.execSynbUnlock dt s
  | .synbRange dt => Sys2Proof.Machine.execSynbRange dt s
  | .ckUnlock n dt => Sys2Proof.Machine.execCkUnlock n dt s
  | .rampClamp dt => Sys2Proof.Machine.execRampClamp dt s
  | .freqsetCommit n v => Sys2Proof.Machine.execFreqsetCommit n v s
  | .rangeChangeResume n => Sys2Proof.Machine.execRangeChangeResume n s
  | .channelEnable n dt => Sys2Proof.Machine.execChannelEnable n dt s
  | .channelFirstEdge n => Sys2Proof.Machine.execChannelFirstEdge n s
  | .channelDisable n => Sys2Proof.Machine.execChannelDisable n s
  | .srcCommit n a => Sys2Proof.Machine.execSrcCommit n a s
  | .fmtChange n fmt => Sys2Proof.Machine.execFmtChange n fmt s
  | .rampLoad => Sys2Proof.Machine.execRampLoad s
  | .rampEnable => Sys2Proof.Machine.execRampEnable s
  | .rampDisable => Sys2Proof.Machine.execRampDisable s
  | .rampStop => Sys2Proof.Machine.execRampStop s
  | .leapSecond => Sys2Proof.Machine.execLeapSecond s
  | .pipArm n => Sys2Proof.Machine.execPipArm n s
  | .pipDisarm n => Sys2Proof.Machine.execPipDisarm n s
  | .pipEdge n late => Sys2Proof.Machine.execPipEdge n s late
  | .pipPulseEnd n => Sys2Proof.Machine.execPipPulseEnd n s
  | .captureEdge n fall dt sub hold => Sys2Proof.Machine.execCaptureEdge n fall dt sub s hold
  | .captureHeadRead n k dt => Sys2Proof.Machine.execCaptureHeadRead n k s dt
  | .tioConfig n w => Sys2Proof.Machine.execTioConfig n w s
  | .tioShort n dt => Sys2Proof.Machine.execTioShort n dt s
  | .sfpInsert n a0 a2 dt => Sys2Proof.Machine.execSfpInsert n a0 a2 dt s
  | .sfpRemove n inTx dt => Sys2Proof.Machine.execSfpRemove n inTx dt s
  | .sfpTxfault n dt => Sys2Proof.Machine.execSfpTxfault n dt s
  | .sfpDiagRead n a2 dt => Sys2Proof.Machine.execSfpDiagRead n a2 dt s
  | .diagnow n => Sys2Proof.Machine.execDiagnow n s
  | .linkUp n => Sys2Proof.Machine.execLinkUp n s
  | .linkDown n inTx cut dt => Sys2Proof.Machine.execLinkDown n inTx cut dt s
  | .portDisable n => Sys2Proof.Machine.execPortDisable n s
  | .cmholdStart volts => Sys2Proof.Machine.execCmholdStart volts s
  | .cmholdEnd => Sys2Proof.Machine.execCmholdEnd s
  | .t1lRetrain inTx dt => Sys2Proof.Machine.execT1lRetrain inTx dt s
  | .phyFail n inTx dt => Sys2Proof.Machine.execPhyFail n inTx dt s
  | .frameReceive n f dt => Sys2Proof.Machine.execFrameReceive n f dt s
  | .frameTransmitStart n => Sys2Proof.Machine.execFrameTransmitStart n s
  | .addressAgeOut mac v => Sys2Proof.Machine.execAddressAgeOut mac v s
  | .flushAddresses mask => Sys2Proof.Machine.execFlushAddresses mask s
  | .vlanCommit v w => Sys2Proof.Machine.execVlanCommit v w s
  | .ptpSyncRx n m dt sub => Sys2Proof.Machine.execPtpSyncRx n m dt sub s
  | .ptpFollowUpRx n m => Sys2Proof.Machine.execPtpFollowUpRx n m s
  | .ptpDelayReqRx n m dt sub => Sys2Proof.Machine.execPtpDelayReqRx n m dt sub s
  | .ptpDelayRespRx n m => Sys2Proof.Machine.execPtpDelayRespRx n m s
  | .ptpPdelayReqRx n m dt sub turn twoTags => Sys2Proof.Machine.execPtpPdelayReqRx n m dt sub turn twoTags s
  | .ptpPdelayRespRx n m dt sub => Sys2Proof.Machine.execPtpPdelayRespRx n m dt sub s
  | .ptpPdelayRespFupRx n m => Sys2Proof.Machine.execPtpPdelayRespFupRx n m s
  | .ptpAnnounceRx n m => Sys2Proof.Machine.execPtpAnnounceRx n m s
  | .ptpManagementRx n f => Sys2Proof.Machine.execPtpManagementRx n f s
  | .ptpUnsupportedRx n => Sys2Proof.Machine.execPtpUnsupportedRx n s
  | .ptpSyncTx n dt sub twoTags => Sys2Proof.Machine.execPtpSyncTx n dt sub twoTags s
  | .ptpAnnounceTx n => Sys2Proof.Machine.execPtpAnnounceTx n s
  | .ptpDelayReqTx n dt sub => Sys2Proof.Machine.execPtpDelayReqTx n dt sub s
  | .tcForward n e msg resid => Sys2Proof.Machine.execTcForward n e msg resid s
  | .tcFollowUpTimeout e => Sys2Proof.Machine.execTcFollowUpTimeout e s
  | .followUpHoldExpire n => Sys2Proof.Machine.execFollowUpHoldExpire n s
  | .announceReceiptTimeout n => Sys2Proof.Machine.execAnnounceReceiptTimeout n s
  | .portSlave n => Sys2Proof.Machine.execPortSlave n s
  | .ptpOverload dt => Sys2Proof.Machine.execPtpOverload dt s
  | .overloadClear => Sys2Proof.Machine.execOverloadClear s
  | .esmcInfoTx n => Sys2Proof.Machine.execEsmcInfoTx n s
  | .esmcEventTx n => Sys2Proof.Machine.execEsmcEventTx n s
  | .esmcRx n ql => Sys2Proof.Machine.execEsmcRx n ql s
  | .esmcTimeout n => Sys2Proof.Machine.execEsmcTimeout n s
  | .lepBeaconTx dt sub => Sys2Proof.Machine.execLepBeaconTx dt sub s
  | .lepLeaveTx dt sub => Sys2Proof.Machine.execLepLeaveTx dt sub s
  | .lepBeaconRx n b resid dt sub => Sys2Proof.Machine.execLepBeaconRx n b resid dt sub s
  | .lepLeaveRx n b resid dt => Sys2Proof.Machine.execLepLeaveRx n b resid dt s
  | .peerQualify k => Sys2Proof.Machine.execPeerQualify k s
  | .peerStale k => Sys2Proof.Machine.execPeerStale k s
  | .peerLost k => Sys2Proof.Machine.execPeerLost k s
  | .peerFree k => Sys2Proof.Machine.execPeerFree k s
  | .ensSample => Sys2Proof.Machine.execEnsSample s
  | .brambleEvent prods cyc dt => Sys2Proof.Machine.execBrambleEvent prods cyc dt s
  | .brambleFire k chan cyc dt => Sys2Proof.Machine.execBrambleFire k chan cyc dt s
  | .brambleFifoHeadRead k => Sys2Proof.Machine.execBrambleFifoHeadRead k s
  | .tioPulseEnd n => Sys2Proof.Machine.execTioPulseEnd n s
  | .alarmokClear k => Sys2Proof.Machine.execAlarmokClear k s
  | .tlFrameStart k => Sys2Proof.Machine.execTlFrameStart k s
  | .tlRead k bytes dt ecc => Sys2Proof.Machine.execTlRead k bytes dt s ecc
  | .tlWrite k bytes dt => Sys2Proof.Machine.execTlWrite k bytes dt s
  | .tlNop k bytes dt => Sys2Proof.Machine.execTlNop k bytes dt s
  | .tlFrameDiscard k bytes extra dt => Sys2Proof.Machine.execTlFrameDiscard k bytes extra dt s
  | .tlResponsePush k => Sys2Proof.Machine.execTlResponsePush k s
  | .tnenChange v => Sys2Proof.Machine.execTnenChange v s
  | .allocationApply => Sys2Proof.Machine.execAllocationApply s
  | .tlTxnBegin k => Sys2Proof.Machine.execTlTxnBegin k s
  | .tlTxnCommit k => Sys2Proof.Machine.execTlTxnCommit k s
  | .tlTxnAbort k => Sys2Proof.Machine.execTlTxnAbort k s
  | .txnstatReport k => Sys2Proof.Machine.execTxnstatReport k s
  | .logpush k w => Sys2Proof.Machine.execLogpush k w s
  | .scheduledStore => Sys2Proof.Machine.execScheduledStore s
  | .storeDone => Sys2Proof.Machine.execStoreDone s
  | .storeVerifyFail dt => Sys2Proof.Machine.execStoreVerifyFail dt s
  | .commitDone k ok dt => Sys2Proof.Machine.execCommitDone k ok dt s
  | .resumedStoreSeal => Sys2Proof.Machine.execResumedStoreSeal s
  | .tallyIncrement worn dt => Sys2Proof.Machine.execTallyIncrement worn dt s
  | .tallyinc n => Sys2Proof.Machine.execTallyinc n s
  | .scheduledCal => Sys2Proof.Machine.execScheduledCal s
  | .calItemEnd m => Sys2Proof.Machine.execCalItemEnd m s
  | .calRunEnd => Sys2Proof.Machine.execCalRunEnd s
  | .calHostWrite addr v => Sys2Proof.Machine.execCalHostWrite addr v s
  | .facload => Sys2Proof.Machine.execFacload s
  | .faultRecover b c => Sys2Proof.Machine.execFaultRecover b c s
  | .faultAck w => Sys2Proof.Machine.execFaultAck w s
  | .faultAckClass b w => Sys2Proof.Machine.execFaultAckClass b w s
  | .faultForce b w dt => Sys2Proof.Machine.execFaultForce b w dt s
  | .returnToService b c => Sys2Proof.Machine.execReturnToService b c s
  | .quietWrite b v => Sys2Proof.Machine.execQuietWrite b v s
  | .snapshotTrigger => Sys2Proof.Machine.execSnapshotTrigger s
  | .snapshotCopyStart => Sys2Proof.Machine.execSnapshotCopyStart s
  | .snapshotDone ok => Sys2Proof.Machine.execSnapshotDone ok s
  | .slotfree n => Sys2Proof.Machine.execSlotfree n s
  | .slowRecordEntry ok => Sys2Proof.Machine.execSlowRecordEntry ok s
  | .replayCheck u => Sys2Proof.Machine.execReplayCheck u s
  | .replaySpanEnd => Sys2Proof.Machine.execReplaySpanEnd s
  | .submitpw svc dt => Sys2Proof.Machine.execSubmitpw svc dt s
  | .submitrsp svc dt => Sys2Proof.Machine.execSubmitrsp svc dt s
  | .verdict => Sys2Proof.Machine.execVerdict s
  | .chalreq svc dt => Sys2Proof.Machine.execChalreq svc dt s
  | .challengeExpire => Sys2Proof.Machine.execChallengeExpire s
  | .backoffExpire => Sys2Proof.Machine.execBackoffExpire s
  | .relock svc dt => Sys2Proof.Machine.execRelock svc dt s
  | .relockTimeout => Sys2Proof.Machine.execRelockTimeout s
  | .setpw dt => Sys2Proof.Machine.execSetpw dt s
  | .pwclear svc dt => Sys2Proof.Machine.execPwclear svc dt s
  | .svcSessionTimeout => Sys2Proof.Machine.execSvcSessionTimeout s
  | .uploadEnable => Sys2Proof.Machine.execUploadEnable s
  | .uploadDisable => Sys2Proof.Machine.execUploadDisable s
  | .microcodeUpdate w => Sys2Proof.Machine.execMicrocodeUpdate w s
  | .microcodeUpdateDone ok => Sys2Proof.Machine.execMicrocodeUpdateDone ok s
  | .floorRaise => Sys2Proof.Machine.execFloorRaise s
  | .floorRaiseDone => Sys2Proof.Machine.execFloorRaiseDone s
  | .inputInRange => Sys2Proof.Machine.execInputInRange s
  | .synbRelock => Sys2Proof.Machine.execSynbRelock s
  | .ckRelock n => Sys2Proof.Machine.execCkRelock n s
  | .cModeReturn => Sys2Proof.Machine.execCModeReturn s
  | .sfpTxfaultClear n => Sys2Proof.Machine.execSfpTxfaultClear n s
  | .phyManagementReturn n => Sys2Proof.Machine.execPhyManagementReturn n s
  | .tioShortEnd n => Sys2Proof.Machine.execTioShortEnd n s
  | .rinLevelChange n level hold => Sys2Proof.Machine.execRinLevelChange n level hold s
  | .backupCapacitorExhausted => Sys2Proof.Machine.execBackupCapacitorExhausted s
  | .rangeChangeHold n dt => Sys2Proof.Machine.execRangeChangeHold n dt s

end Sys2Proof.Machine
end

