-- ==== Sys2Proof/Safety.lean ====
section
/-! DEFINITION. What the statements say of a step: the parts of the state, the frame of a command, what an occurrence of a
fault class leaves, and the canonical forms that every step keeps. -/
namespace Sys2Proof.Machine

/-- The parts of the state beside the queue and the register file. -/
inductive Part where
  | phase | freeCount | flt | pw | en | md | bus | tm | st | br | tn | pr | rf | sv | mo | sy | po | pt | es | ca | sc | pubs
deriving DecidableEq, Repr

/-- The part is the same in `t` as in `s`. -/
def Part.same (p : Part) (s t : State) : Prop :=
  match p with
  | .phase => t.phase = s.phase
  | .freeCount => t.freeCount = s.freeCount
  | .flt => t.flt = s.flt
  | .pw => t.pw = s.pw
  | .en => t.en = s.en
  | .md => t.md = s.md
  | .bus => t.bus = s.bus
  | .tm => t.tm = s.tm
  | .st => t.st = s.st
  | .br => t.br = s.br
  | .tn => t.tn = s.tn
  | .pr => t.pr = s.pr
  | .rf => t.rf = s.rf
  | .sv => t.sv = s.sv
  | .mo => t.mo = s.mo
  | .sy => t.sy = s.sy
  | .po => t.po = s.po
  | .pt => t.pt = s.pt
  | .es => t.es = s.es
  | .ca => t.ca = s.ca
  | .sc => t.sc = s.sc
  | .pubs => t.pubs = s.pubs

/-- The frame of a command: from `s` to `t` the queue stays, no register field changes but those of `flds`, and no other
part of the state but those of `parts`. -/
structure Keeps (flds : List Fld) (parts : List Part) (s t : State) : Prop where
  queue : t.pending = s.pending
  regs : ∀ f : Fld, (∀ g ∈ flds, g.key ≠ f.key) → t.rd f = s.rd f
  part : ∀ p : Part, p ∉ parts → p.same s t

/-- LAST of the block of class `c` has taken a capture of the class with its INFO, unless it holds one of the same SYSCLK cycle that
prevails over it (R395). -/
def Captured (c : FC) (info : Nat) (s t : State) : Prop :=
  ∃ cp : Capt, t.flt.last.get? c.blk = some (Capt.better (s.flt.last.get? c.blk) cp) ∧ cp.valid = true ∧ cp.cls = c.bit ∧
    cp.info = info

/-- What one occurrence of class `c` at instance `inst` leaves (R386): its counter has risen by 1 and holds at 0xFFFF, its
record is uncleared and at the level the rule gives, a link's occurrence bound by L1 (R342), LAST of its block shows the class and
its INFO, no other class's record has changed, an ERR event is due where the block had no uncleared record (R313), and Press may
be triggered (R402). -/
structure Recorded (c : FC) (inst info : Nat) (s t : State) (master : Nat := 0) : Prop where
  count : t.rd (F.fltCnt c.blk c.bit) = min (s.rd (F.fltCnt c.blk c.bit) + 1) 65535
  uncleared : (t.frec c).uncl = true
  level : (t.frec c).level =
    ((s.frec c).occur c.byInst (s.mode == .safe) (linkBound master (c.dflt inst)) (linkBound master (c.ceil inst))).level
  last : Captured c info s t
  others : ∀ c' : FC, c' ≠ c → t.frec c' = s.frec c'
  errEvent : t.br = if s.flt.blkUncl c.blk then s.br else { s.br with due := s.br.due ||| 2 ^ 40 }
  press : t.pr = { s.pr with trigFault := t.pr.trigFault }

/-- What an occurrence of class `c` leaves of its own, beside what else the command does (R386): its counter, its uncleared
record and level, LAST of its block, and every other class's record as it was. -/
structure Logged (c : FC) (inst info : Nat) (s t : State) (master : Nat := 0) : Prop where
  count : t.rd (F.fltCnt c.blk c.bit) = min (s.rd (F.fltCnt c.blk c.bit) + 1) 65535
  uncleared : (t.frec c).uncl = true
  level : (t.frec c).level =
    ((s.frec c).occur c.byInst (s.mode == .safe) (linkBound master (c.dflt inst)) (linkBound master (c.ceil inst))).level
  last : Captured c info s t
  others : ∀ c' : FC, c' ≠ c → t.frec c' = s.frec c'

/-- The counter field of a class. -/
def FC.cnt (c : FC) : Fld := F.fltCnt c.blk c.bit

/-- The packet core has put one frame for `dst` with body `b` at the end of the time queue of port `n`, under a tag of PTPVID
where that is not 0. -/
def TqGot (n dst : Nat) (b : List Byte) (s t : State) : Prop :=
  ∃ f : Frame, t.queue n 4 = s.queue n 4 ++ [f] ∧ f.dst = dst ∧ f.src = (Config.mac n).toNat ∧
    f.body = (if s.rd (F.ptpPvid n) = 0 then []
      else bytesBE 2 0x8100 ++ bytesBE 2 (s.rd (F.ptpPpcp n) * 8192 + s.rd (F.ptpPvid n))) ++ b

/-- The host bus takes an access: the unit has energy, D13 is on and the carrier is powered. -/
abbrev busUp (s : State) : Prop := s.powered = true ∧ s.domOn 13 = true ∧ s.pw.auxLow = false

/-- The host bus takes a write of a command register: BOOT has been left too. -/
abbrev busLive (s : State) : Prop := busUp s ∧ s.live = true

/-- A command of CMD is accepted and starts: none runs, no power-fail sequence refuses it, and the engines take commands at a
strobe. -/
abbrev takesCommand (s : State) : Prop :=
  busLive s ∧ s.bus.cmd = none ∧ s.pw.pf = .none ∧ s.tm.running = true ∧ s.en.restart = none

/-- Reference `n` has entered the state of R153 with code `st`: its timer starts anew, and a change of its summary code is
flagged. -/
structure Entered (n st : Nat) (s t : State) : Prop where
  state : t.rd (F.refState n) = st
  timer : t.rd (F.refTimer n) = 0
  changed : summaryOf st ≠ summaryOf (s.refState n) → t.rd F.dRefChg = 1

/-- The table of CMD (R125): a command's code, its argument, and the ERR of its checks at the strobe, 0 where they pass. -/
def cmdOf (s : State) : Instr → Option (Nat × BitVec 4 × Nat)
  | .cmdStore a => some (0x01, a, cmdErr (a == 0) (stoneMode s) (!stoneBusy s && !s.stoneIsol))
  | .cmdCommit a => some (0x02, a, cmdErr (a == 0) (stoneMode s) (s.txn 0).isSome)
  | .cmdAbortTxn a => some (0x03, a, cmdErr (a == 0) (stoneMode s) (s.txn 0).isSome)
  | .cmdBeginTxn a => some (0x70, a, cmdErr (a == 0) (stoneMode s) (s.txn 0).isNone)
  | .cmdCalAll a => some (0x10, a, cmdErr (a == 0) (calMode s) (s.domOn 2))
  | .cmdCalTdc a => some (0x11, a, cmdErr (a == 0) (calMode s) (s.domOn 2))
  | .cmdCalThresh a => some (0x12, a, cmdErr (decide (a.toNat ≤ 4)) (calMode s) (s.domOn 11))
  | .cmdCalSkew a => some (0x13, a, cmdErr (decide (a.toNat ≤ 8)) (calMode s) true)
  | .cmdPressSnap a => some (0x20, a, cmdErr (a == 0) s.mode.operating true)
  | .cmdGraftNow a => some (0x30, a, cmdErr (a == 0) (s.mode == .track || s.mode == .holdover || s.mode == .ensemble)
      ((preferred s).any (fun n => n != s.rd F.dSelref)))
  | .cmdRequalify a => some (0x31, a, cmdErr (decide (a.toNat < 10) || a == 15) s.mode.operating true)
  | .cmdAcceptJump a => some (0x32, a, cmdErr (decide (a.toNat < 2)) (jumpMode s) (s.is F.dJumpPend || confirmedNow s))
  | .cmdLearnReset a => some (0x40, a, cmdErr (a == 0) (s.mode == .provision || s.mode == .track) true)
  | .cmdWipeTenant a => some (0x50, a, cmdErr (decide (1 ≤ a.toNat ∧ a.toNat ≤ 4)) s.mode.operating true)
  | .cmdLockService a => some (0x60, a, cmdErr (a == 0) s.mode.operating (s.is F.svcPwisset))
  | .cmdUnknownCode x a => if cmdKnown x.toNat then none else some (x.toNat, a, 1)
  | _ => none

/-- Every memory of the state is in canonical form, and the register file lists each field once, in rising order. -/
structure Canon (s : State) : Prop where
  regs : s.regs.wf = true
  orchard : s.en.orchard.wf = true
  shadow : s.st.shadow.mem.wf = true
  bankA : s.st.bankA.img.mem.wf = true
  bankB : s.st.bankB.img.mem.wf = true
  store : ∀ r, s.st.store = some r → r.img.mem.wf = true
  slow : s.st.slowMem.wf = true
  stage : s.sc.stage.wf = true

end Sys2Proof.Machine
end

