-- ==== Sys2Proof/Certificates/Slice0/Obligations.lean ====
section
/-! DEFINITION. The statements for the provers. -/
open Sys2Proof Sys2Proof.Machine

/-- For every command c and every state whose queue begins with c, a step is exec of c on that state with the queue's rest; with an
empty queue the step answers the state as it is (the model's choice, log 1). -/
def Obligations.StepRunsFrontCommand : Prop :=
  (∀ (c : Instr) (rest : List Instr) (s : State), s.pending = c :: rest → step s = exec c { s with pending := rest }) ∧
  ∀ s : State, s.pending = [] → step s = .next s

/-- Every memory of the reset state (Orchard, the shadow SRAM, both Stone banks, a store in progress, the slow record, UCSTAGE) and its
register file are in canonical form. -/
def Obligations.ResetStateCanonical : Prop := Canon State.reset

/-- For every state in canonical form, whatever command is at the front of the queue, a step that answers a next state answers one in
canonical form: every memory lists its addresses in rising order and no byte equal to what an unlisted address reads as, and the register
file lists each field once, in rising order. -/
def Obligations.StepKeepsCanonicalForm : Prop :=
  ∀ s t : State, Canon s → step s = .next t → Canon t

/-- For every command c and state s, exec of c never changes the queue, so a step that answers a next state leaves the queue without its
front command and otherwise as it was. -/
def Obligations.QueueIsTakenFromFront : Prop :=
  (∀ (c : Instr) (s t : State), exec c s = .next t → t.pending = s.pending) ∧
  ∀ s t : State, step s = .next t → t.pending = s.pending.tail

/-- For every state, whatever command is at the front of the queue, a step never lowers the fused security-version floor: no reset, power
cycle, microcode update or register write takes it back. -/
def Obligations.SecurityFloorNeverFalls : Prop :=
  ∀ s t : State, step s = .next t → s.pw.floor ≤ t.pw.floor

/-- Every command answers a next state in every state but one: DOMAIN_FAIL of D0 in a unit that has energy stops with the fault d0Failed,
since R69 says that a failure of D0 cannot be recorded and says nothing of what follows. No command is refused. -/
def Obligations.OnlyD0FailureStops : Prop :=
  ∀ (c : Instr) (s : State),
    ((∃ dt, c = .domainFail 0 dt) ∧ s.powered = true ∧ exec c s = .fault .d0Failed) ∨
    (¬ ((∃ dt, c = .domainFail 0 dt) ∧ s.powered = true) ∧ ∃ t, exec c s = .next t)

/-- In a beat that the engines run: an engine that fetches and has not overrun yet in this beat overruns, which raises BEAT_OVERRUN with
INFO its number from 1, counts OVRSC, OVRQC or OVRPC, and queues tally 14 for the first overrun of the beat only; a deferrable item not yet
abandoned is counted once in DEFCNT; a mailbox whose writer has work carried over changes over, shows what it held and lets its readers
go on. Nothing else changes. -/
def Obligations.OverrunsAndMailboxes : Prop :=
  (∀ (e : Fin 3) (dt : Dt) (s : State), s.powered = true → s.tm.running = true → s.en.restart = none →
    engFetches s e = true → (s.engine e).overran = false →
    ∃ t, exec (.beatOverrun e dt) s = .next t ∧
      t.rd (F.fabOvrs e) = min (s.rd (F.fabOvrs e) + 1) 65535 ∧
      t.en = { s.en with
        overBeat := true
        eng := s.en.eng.set e { s.engine e with overran := true, outstanding := true } } ∧
      t.st = (if s.en.overBeat then s.st else { s.st with tallyQ := addTally s.st.tallyQ 14 1 }) ∧
      Recorded .beatOverrun e (e + 1) s t ∧
      Keeps [F.fabOvrs e, F.fltCnt 6 0] [.en, .st, .flt, .br, .pr] s t) ∧
  (∀ (i : Fin 3) (s : State), s.powered = true → s.tm.running = true → s.en.restart = none → bit s.en.abandoned i = false →
    ∃ t, exec (.deferrableAbandon i) s = .next t ∧
      t.rd F.fabDefcnt = min (s.rd F.fabDefcnt + 1) 65535 ∧
      t.en = { s.en with abandoned := setBit s.en.abandoned i true } ∧ Keeps [F.fabDefcnt] [.en] s t) ∧
  (∀ (e : Fin 3) (s : State), s.powered = true → s.tm.running = true → s.en.restart = none →
    (s.engine e).outstanding = true →
    ∃ t, exec (.mailboxChangeover e) s = .next t ∧
      t.en = { s.en with eng := s.en.eng.set e { s.engine e with outstanding := false, changed := true, waiting := 0 } } ∧
      (∀ r, s.pubs.get? (e + 3) = some r → t.pubs.get? e = some r) ∧
      (s.pubs.get? (e + 3) = none → t.pubs = s.pubs) ∧ Keeps [] [.en, .pubs] s t)

/-- An engine that fetches instructions and meets a parity error stops for a reload and raises UCODE_PARITY; when the reload ends, the
slot in use is loaded where it passes every check of R35, else the other slot where that one passes, and with neither the engine stays
stopped without an image and UCODE_AUTH is live for it. -/
def Obligations.ParityStopsAndReloads : Prop :=
  (∀ (e : Fin 3) (dt : Dt) (s : State), s.powered = true → engFetches s e = true →
    ∃ t, exec (.ucodeParity e dt) s = .next t ∧ engFetches t e = false ∧
      t.en = { s.en with eng := s.en.eng.set e { s.engine e with stopped := true, reload := true } } ∧
      Recorded .ucodeParity (e + 1) (e + 1) s t ∧ Keeps [F.fltCnt 6 4] [.en, .flt, .br, .pr] s t) ∧
  (∀ (e : Fin 3) (dt : Dt) (s : State), s.powered = true → (s.engine e).reload = true → reloadWaits s e = false →
    s.rd (F.fabSlot e) < 2 →
    ∃ t, exec (.ucodeReloadDone e dt) s = .next t ∧
      (slotReason s e (s.rd (F.fabSlot e)) = 0 → t.rd (F.fabSlot e) = s.rd (F.fabSlot e)) ∧
      (slotReason s e (s.rd (F.fabSlot e)) ≠ 0 → slotReason s e (1 - s.rd (F.fabSlot e)) = 0 →
        t.rd (F.fabSlot e) = 1 - s.rd (F.fabSlot e)) ∧
      ((slotReason s e 0 = 0 ∨ slotReason s e 1 = 0) → t.rd (F.fabLoaded e) = 1 ∧
        (t.engine e).img = codeSlot s e (t.rd (F.fabSlot e)) ∧ (t.engine e).stopped = false ∧ (t.engine e).reload = false) ∧
      (slotReason s e 0 ≠ 0 → slotReason s e 1 ≠ 0 → t.rd (F.fabLoaded e) = 0 ∧ (t.engine e).img = none ∧
        (t.engine e).stopped = true ∧ (t.engine e).reload = false ∧ bit (t.frec .ucodeAuth).live (e + 1) = true) ∧
      Keeps [F.fabLoaded e, F.fabSlot e, F.fabSlotfail e, F.fabReason e, F.fabVer e, F.fltCnt 6 3] [.en, .flt, .br, .pr] s t)

/-- The directory and the caches agree: a line the directory gives an owner is in M in that cache alone; a line in M has that entry; a
line in S is in an entry that lists its sharer; a line in a write-back buffer is in WB. Each of the six cache commands keeps this, from
every state that has it. -/
def Obligations.CacheCommandsKeepSingleOwner : Prop :=
  let inv (s : State) : Prop :=
    (∀ l o, s.en.dir.get? l = some (.m o) → o < 3 ∧ (∃ d, s.cline o l = some ⟨true, d⟩) ∧
      ∀ e, e < 3 → e ≠ o → s.cline e l = none) ∧
    (∀ e l c, e < 3 → s.cline e l = some c → c.m = true → s.en.dir.get? l = some (.m e)) ∧
    (∀ e l c, e < 3 → s.cline e l = some c → c.m = false → ∃ m, s.en.dir.get? l = some (.s m) ∧ bit m e = true) ∧
    (∀ e l b, e < 3 → (l, b) ∈ s.wbufOf e → ∃ k, s.en.dir.get? l = some (.wb k))
  ∀ (c : Instr) (s t : State),
    ((∃ e l x d, c = .cacheGets e l x d) ∨ (∃ e l i w r x d, c = .cacheGetm e l i w r x d) ∨ (∃ e l, c = .cacheEvict e l) ∨
      (∃ l q x d, c = .hbLineRead l q x d) ∨ (∃ l i w q x d, c = .hbLineWrite l i w q x d) ∨
      (∃ l i w, c = .ownershipClaimRetry l i w)) →
    inv s → exec c s = .next t → inv t

/-- With the time engine running: each strobe adds one to BEATCNT, keeps the length of the beat in LASTLEN, moves the scrub by one line
and the time scale to the next strobe instant, shows in OVR an overrun of the ended beat and in LONG that it was LONG, and, with BOOT left,
fires the BEAT producer, and the SECOND producer in beat 0 of a second; SUPPLY takes the reading of the input unless the bandgap group is
being measured. After a warm reset the engines resume once a beat has not been run; before BOOT is left and in REPLAY, with no wipe in
progress, nothing else changes. A decided step moves the time scale by its amount, makes the beat LONG, counts in TSTEPCNT and records TE_STEP;
the setting step clears UNTRACED and a jump leaves it. -/
def Obligations.BeatStrobeStepAndResume : Prop :=
  (∀ (b : BeatIn) (s : State), s.powered = true → s.tm.running = true →
    ∃ t, exec (.beatStrobe b) s = .next t ∧ t.rd F.fabBeatcnt = (s.beatcnt + 1) % 2 ^ 48 ∧
      t.rd F.fabLong = b2n s.tm.long ∧ t.tm.now = nextStrobe s ∧ t.tm.long = false ∧ t.en.overBeat = false ∧
      t.rd F.fabLastlen = b.len.toNat ∧ (s.calItem ≠ some 1 → t.rd F.dSupply = min b.vin.toNat 65535) ∧
      t.rd F.fabOvr = b2n (pcBeat s).en.overBeat ∧ t.rd F.fabScrubpos = (s.rd F.fabScrubpos + 1) % 32768 ∧
      (s.live = true → bit t.br.due 32 = true ∧ (t.beatOfSec = 0 → bit t.br.due 33 = true)) ∧
      t.phase = s.phase ∧ t.mode = s.mode ∧ t.pending = s.pending) ∧
  (∀ (n : Nat) (s : State), s.powered = true → s.en.restart = some n → 1 ≤ n →
    ∃ t, exec .engineResume s = .next t ∧ t.en.restart = none ∧ t.tm.now = s.tm.now ∧
      (s.live = false ∨ s.mode = .replay → s.tn.wipe = none → t.en = { s.en with restart := none } ∧ Keeps [] [.en] s t)) ∧
  (∀ (p : Step) (s : State), s.powered = true → s.tm.running = true → s.tm.pend = some p →
    ∃ t, exec .timeStep s = .next t ∧ t.tm.now = ((s.tm.now : Int) + p.delta).toNat ∧ t.tm.pend = none ∧ t.tm.long = true ∧
      t.rd F.timeTstepcnt = min (s.rd F.timeTstepcnt + 1) 65535 ∧ (t.frec .teStep).uncl = true ∧
      (p.why = .setting → t.untraced = false) ∧ (p.why = .jump → t.untraced = s.untraced) ∧
      t.phase = s.phase ∧ t.mode = s.mode ∧ t.pending = s.pending)

/-- With nothing in flight, Orchard in canonical form, owners among the three engines, every cached line 64 bytes long, no uncorrectable
error found, and the bytes of the line as `val` gives them (the owner's copy, else Orchard's): a read miss leaves the line in S with that
value; an eviction leaves it in I, an owned line through the write-back buffer; a read by HB takes that value and leaves every cache as it
was; a write by HB leaves the line in U in no cache and Orchard with the word merged; a write miss without rivals leaves it in M in the
writer alone with the word merged, and a write by the owner is a hit whatever claims come with it. No Orchard byte outside the line changes,
and of the registers only those of a corrected error and MAXWAIT. HB is served after an engine's request of its cycle. -/
def Obligations.CoherenceCommandsMoveLines : Prop :=
  let val (s : State) (l : Nat) : List Byte := match s.en.dir.get? l with
    | some (.m o) => ((s.cline o l).map CLine.data).getD (orchLine s l)
    | _ => orchLine s l
  let quiet (s : State) : Prop := s.powered = true ∧ (∀ e, e < 3 → s.wbufOf e = []) ∧ s.en.orchard.wf = true ∧
    (∀ l o, s.en.dir.get? l = some (.m o) → o < 3) ∧
    (∀ e l c, e < 3 → s.cline e l = some c → c.data.length = 64)
  let outside (l : Nat) (s t : State) : Prop := ∀ a, a < 64 * l ∨ 64 * l + 64 ≤ a → t.en.orchard.read a = s.en.orchard.read a
  let fixed (x : List EccIn) : Prop := ∀ e ∈ x, e.double = false
  let kept (s t : State) : Prop := Keeps [F.fabEccaddr, F.fabEccce, FC.orchardCe.cnt] [.en, .flt, .br, .pr] s t
  (∀ (e : Fin 3) (l : BitVec 15) (x : List EccIn) (dt : Dt) (s : State), quiet s → fixed x → engFetches s e = true →
    s.cline e l.toNat = none → hasRoom s e l.toNat = true →
    (∀ o, s.en.dir.get? l.toNat = some (.m o) → o ≠ e ∧ s.cline o l.toNat ≠ none) →
    ∃ t, exec (.cacheGets e l x dt) s = .next t ∧ t.cline e l.toNat = some ⟨false, val s l.toNat⟩ ∧
      (∃ m, t.en.dir.get? l.toNat = some (.s m)) ∧ outside l.toNat s t ∧ kept s t) ∧
  (∀ (e : Fin 3) (l : BitVec 15) (c : CLine) (s : State), quiet s → engFetches s e = true → s.cline e l.toNat = some c →
    ∃ t, exec (.cacheEvict e l) s = .next t ∧ t.cline e l.toNat = none ∧
      (c.m = true → t.en.dir.get? l.toNat = some (.wb e) ∧ t.wbufOf e = [(l.toNat, c.data)]) ∧ t.en.orchard = s.en.orchard ∧
      Keeps [] [.en] s t) ∧
  (∀ (l : BitVec 15) (x : List EccIn) (dt : Dt) (s : State), quiet s → fixed x → s.domOn 13 = true →
    ∃ t, exec (.hbLineRead l none x dt) s = .next t ∧ t.en = { s.en with hbLine := val s l.toNat } ∧ kept s t) ∧
  (∀ (l : BitVec 15) (i : Fin 8) (w : BitVec 64) (x : List EccIn) (dt : Dt) (s : State), quiet s → fixed x → s.domOn 13 = true →
    ∃ t, exec (.hbLineWrite l i w none x dt) s = .next t ∧ t.en.dir.get? l.toNat = none ∧
      (∀ e, e < 3 → t.cline e l.toNat = none) ∧
      orchLine t l.toNat = lineWord (val s l.toNat) i w.toNat ∧ outside l.toNat s t ∧ kept s t) ∧
  (∀ (e : Fin 3) (l : BitVec 15) (i : Fin 8) (w : BitVec 64) (x : List EccIn) (dt : Dt) (s u : State), s.powered = true →
    s.domOn 13 = true →
    (exec (.cacheGets e l [] dt) s = .next u →
      exec (.hbLineRead l (some ⟨e, none⟩) x dt) s = exec (.hbLineRead l none x dt) u) ∧
    (waitingOn s l.toNat = [] → exec (.cacheGetm e l i w 0 [] dt) s = .next u →
      exec (.hbLineRead l (some ⟨e, some (i, w)⟩) x dt) s = exec (.hbLineRead l none x dt) u)) ∧
  (∀ (c : Instr) (e : Fin 3) (l : BitVec 15) (i : Fin 8) (w : BitVec 64) (x : List EccIn) (dt : Dt) (s : State), quiet s → fixed x →
    engFetches s e = true → hasRoom s e l.toNat = true → (∀ d, s.cline e l.toNat ≠ some ⟨true, d⟩) →
    (c = .cacheGetm e l i w 0 x dt ∧ waitingOn s l.toNat = []) ∨
      (c = .ownershipClaimRetry l i w ∧ waitingOn s l.toNat = [e.val]) →
    ∃ t, exec c s = .next t ∧ t.cline e l.toNat = some ⟨true, lineWord (val s l.toNat) i w.toNat⟩ ∧
      t.en.dir.get? l.toNat = some (.m e) ∧ (∀ o, o < 3 → o ≠ e.val → t.cline o l.toNat = none) ∧
      waitingOn t l.toNat = [] ∧ t.en.orchard = s.en.orchard ∧
      Keeps [F.fabMaxwait, F.fabEccaddr, F.fabEccce, FC.orchardCe.cnt] [.en, .flt, .br, .pr] s t) ∧
  (∀ (e : Fin 3) (l : BitVec 15) (i : Fin 8) (w : BitVec 64) (r : BitVec 3) (x : List EccIn) (dt : Dt) (d : List Byte) (s : State),
    quiet s → fixed x → (∀ o : Nat, o < 3 → takesLine s l.toNat o = true) → s.cline e l.toNat = some ⟨true, d⟩ →
    (∀ c ∈ s.en.claims, c.agent < 3) →
    ∃ t, exec (.cacheGetm e l i w r x dt) s = .next t ∧ t.cline e l.toNat = some ⟨true, lineWord d i w.toNat⟩ ∧
      (∀ o : Nat, o < 3 → o ≠ e.val → bit r.toNat o = true → o ∈ waitingOn t l.toNat) ∧ t.en.dir = s.en.dir ∧
      t.en.orchard = s.en.orchard ∧ kept s t)

/-- A unit without energy starts BOOT at POWER_UP and, after a shutdown, at RESTART_AFTER_SHUTDOWN: OFFTIME is what D0 counted or
0xFFFF_FFFF where its counter was lost, which RTC_LOST records; the time engine runs from the seconds that D0 held plus OFFTIME, or from 0
where OFFTIME is unknown; PWRUP reads 1, the mode is BOOT and the floor stays fused. A start that is abandoned records nothing, and an
exhausted backup capacitor marks the counter lost and nothing else. -/
def Obligations.PowerUpStartsBoot : Prop :=
  (∀ (c : Instr) (p : PowerIn) (s : State), c = .powerUp p ∨ c = .restartAfterShutdown p → s.phase = .off →
    ∃ t, exec c s = .next t ∧ t.phase = .boot ∧ t.mode = .boot ∧ t.tm.running = true ∧
      t.rd F.sysOfftime = (if s.pw.rtcLost then 0xFFFFFFFF else p.offSecs.toNat) ∧
      t.tm.now = (if s.pw.rtcLost ∨ p.offSecs.toNat = 0xFFFFFFFF then 0 else (s.pw.rtcSec + p.offSecs.toNat) * unitsPerSec) ∧
      t.rd F.sysPwrup = 1 ∧ t.pw.floor = s.pw.floor ∧ (s.pw.rtcLost = true → (t.frec .rtcLost).uncl = true)) ∧
  (∀ s : State, s.phase = .off → ∃ t, exec .startAbandoned s = .next t ∧ t = s) ∧
  (∀ s : State, s.phase = .off →
    ∃ t, exec .backupCapacitorExhausted s = .next t ∧ t.pw = { s.pw with rtcLost := true } ∧ Keeps [] [.pw] s t)

/-- While BOOT runs with the time engine started, a bank at 55 V or more ends it: HUV shows the bank, and BOOTMS the later of 60 ms with
14 ms for each extra slot and the time the bank took, held at 0xFFFF. In PROVISION with AUTORUN due, AUTORUN asks for Run where no request
of the host waits, and gives way to the host's request where one does. -/
def Obligations.BootEndsAndAutorunAsks : Prop :=
  (∀ (ms huv : BitVec 16) (s : State), s.phase = .boot → s.tm.running = true → 55000 ≤ huv.toNat →
    ∃ t, exec (.bootEnd ms huv) s = .next t ∧ t.phase = .run ∧
      t.md = { s.md with bootEnded := true } ∧ t.rd F.sysHuv = huv.toNat ∧
      t.rd F.sysBootms = min 65535 (max (60 + 14 * s.pw.bootSlots) ms.toNat) ∧
      (s.rd F.svcFailrun = 0 → Keeps [F.sysBootms, F.sysHuv] [.phase, .md] s t)) ∧
  (∀ s : State, s.live = true → s.mode = .provision → s.md.autorun = true →
    ∃ t, exec .autorun s = .next t ∧
      (s.md.req = none → t.md = { s.md with autorun := false, req := some 2, reqAuto := true } ∧ t.rd F.dModereqReq = 2) ∧
      (s.md.req ≠ none → t.md = { s.md with autorun := false } ∧ t.rd F.dModereqReq = s.rd F.dModereqReq) ∧
      Keeps [F.dModereqReq] [.md] s t)

/-- A powered unit whose input lies from 28 V to 30 V shows PFLIVE clear; where no power-fail sequence holds the input stage open it has
SUPPLY_LOW live. One whose input is above 80 V has SUPPLY_OV live. Each is one occurrence where it was not live already. An input back in
range clears both live bits and PFLIVE. -/
def Obligations.InputConditionsAndFaults : Prop :=
  (∀ (dt : Dt) (s : State), s.powered = true →
    ∃ t, exec (.supplyLow dt) s = .next t ∧ t.pw = { s.pw with below28 := false, below30 := true } ∧ t.rd F.sysPflive = 0 ∧
      (s.pw.pf = .none → s.pw.opened = false → bit (t.frec .supplyLow).live 0 = true ∧
        (bit (s.frec .supplyLow).live 0 = false → Recorded .supplyLow 0 0 s t)) ∧
      (s.pw.pf ≠ .none ∨ s.pw.opened = true ∨ bit (s.frec .supplyLow).live 0 = true → t.flt = s.flt) ∧
      Keeps [F.sysPflive, F.fltCnt 0 0] [.pw, .flt, .br, .pr] s t) ∧
  (∀ (dt : Dt) (s : State), s.powered = true →
    ∃ t, exec (.supplyOv dt) s = .next t ∧ t.pw = { s.pw with over80 := true } ∧ bit (t.frec .supplyOv).live 0 = true ∧
      (bit (s.frec .supplyOv).live 0 = false → Recorded .supplyOv 0 0 s t) ∧
      (bit (s.frec .supplyOv).live 0 = true → t.flt = s.flt) ∧ Keeps [F.fltCnt 0 1] [.pw, .flt, .br, .pr] s t) ∧
  (∀ s : State, s.powered = true →
    ∃ t, exec .inputInRange s = .next t ∧
      t.pw = { s.pw with below28 := false, below30 := false, over80 := false } ∧ t.rd F.sysPflive = 0 ∧
      bit (t.frec .supplyLow).live 0 = false ∧ bit (t.frec .supplyOv).live 0 = false ∧
      (∀ c, c ≠ .supplyLow → c ≠ .supplyOv → t.frec c = s.frec c) ∧ Keeps [F.sysPflive] [.pw, .flt] s t)

/-- HUTEST starts a bank test from the bank voltage of that moment unless a power-fail sequence, a store before a cold reset or a test is
in progress or HUV is below 55 V; the scheduled test does so once at second 43,200 of the day and is not run that day otherwise. At its
end a drop of d mV, d above 0, gives HUMS as the whole ms at 4.8 W from the kept voltage down to 15 V, and HOLDUP_WEAK is live exactly
where HUMS is below 80; with no drop measured the test ends with a free value in HUMS (log 25). -/
def Obligations.HoldupBankTest : Prop :=
  (∀ s : State, s.live = true →
    ∃ t, exec .hutest s = .next t ∧
      t.pw = (if s.pw.pf = .none ∧ s.pw.coldStore = false ∧ s.pw.test = none ∧ 55000 ≤ s.rd F.sysHuv
        then { s.pw with test := some (s.rd F.sysHuv) } else s.pw) ∧ Keeps [] [.pw] s t) ∧
  (∀ s : State, s.powered = true → s.tm.running = true → s.sec % 86400 = 43200 → s.pw.testSec ≠ some s.sec →
    ∃ t, exec .holdupTest s = .next t ∧
      t.pw = (if s.pw.pf = .none ∧ s.pw.coldStore = false ∧ s.pw.test = none ∧ 55000 ≤ s.rd F.sysHuv
        then { s.pw with testSec := some s.sec, test := some (s.rd F.sysHuv) } else { s.pw with testSec := some s.sec }) ∧
      Keeps [] [.pw] s t) ∧
  (∀ (d : BitVec 16) (dt : Dt) (v : Nat) (s : State), s.powered = true → s.pw.test = some v → d ≠ 0 →
    ∃ t, exec (.holdupTestEnd d dt) s = .next t ∧ t.pw = { s.pw with test := none } ∧
      t.rd F.sysHums = min 65535 ((v ^ 2 - 15000 ^ 2) / (9600 * d.toNat)) ∧
      (bit (t.frec .holdupWeak).live 0 = true ↔ (v ^ 2 - 15000 ^ 2) / (9600 * d.toNat) < 80) ∧
      Keeps [F.sysHums, F.fltCnt 0 3] [.pw, .flt, .br, .pr] s t) ∧
  (∀ (dt : Dt) (v : Nat) (s : State), s.powered = true → s.pw.test = some v →
    ∃ t, exec (.holdupTestEnd 0 dt) s = .next t ∧ t.pw = { s.pw with test := none } ∧ t.rd F.sysHums = s.freeVal % 65536 ∧
      t.freeCount = s.freeCount + 1 ∧ (bit (t.frec .holdupWeak).live 0 = true ↔ t.rd F.sysHums < 80) ∧
      Keeps [F.sysHums, F.fltCnt 0 3] [.pw, .freeCount, .flt, .br, .pr] s t)

/-- A domain other than D0 that is on or turning on and loses power-good is switched off at once, and DOMAIN_FAIL is live for it, at L2 for
D2 and D6 to D11, which it isolates, and at L3 for the others where the record opens; power-good that returns clears the live bit and frees the domain to turn on, one of D2 and D6 to D11 only where its record no longer
isolates it. A domain whose turn-on time
is over shows on in POWSTAT and waits no longer. -/
def Obligations.DomainsFailAndReturn : Prop :=
  (∀ (d : Fin 14) (dt : Dt) (s : State), d ≠ 0 → s.powered = true → s.domOn d = true ∨ bit s.pw.turning d = true →
    ∃ t, exec (.domainFail d dt) s = .next t ∧ t.domOn d = false ∧ bit t.pw.turning d = false ∧
      bit t.pw.failed d = true ∧ bit t.pw.pgLost d = true ∧ bit (t.frec .domainFail).live d = true ∧
      (∀ o : Nat, o < 14 → o ≠ d → t.domOn o = s.domOn o) ∧ t.phase = s.phase ∧ t.mode = s.mode ∧
      (shedDom d = true → t.isolated .domainFail d = true) ∧
      ((s.frec .domainFail).uncl = false → bit (s.frec .domainFail).live d = false → (t.frec .domainFail).uncl = true ∧
        (t.frec .domainFail).level = if d = 2 ∨ (6 ≤ d.val ∧ d.val ≤ 11) then 2 else 3)) ∧
  (∀ (d : Fin 14) (s : State), s.powered = true → bit s.pw.pgLost d = true →
    ∃ t, exec (.domainPowerGoodReturn d) s = .next t ∧ bit t.pw.pgLost d = false ∧
      bit (t.frec .domainFail).live d = false ∧
      (s.isolated .domainFail d = true → shedDom d = true →
        t.pw = { s.pw with pgLost := setBit s.pw.pgLost d false } ∧ Keeps [] [.pw, .flt] s t) ∧
      (s.isolated .domainFail d = false ∨ shedDom d = false → bit t.pw.failed d = false)) ∧
  (∀ (d : Fin 14) (s : State), s.powered = true → bit s.pw.turning d = true →
    ∃ t, exec (.domainTurnOnDone d) s = .next t ∧ t.domOn d = true ∧ bit t.pw.turning d = false ∧
      (∀ o : Nat, o < 14 → o ≠ d → t.domOn o = s.domOn o))

/-- Once BOOT is left and the engines are not restarting, POWREQ_APPLY takes every POWREQ write that waited, so that afterwards none
waits: POWREQ holds the last one in the domains that the host may switch and what it held in the others, and a single write that asks
for another state of a domain the host may not switch counts once in POWREJ. A domain other than D0 that the mode, POWREQ and the wake window do not want is off and not turning on, while one that they want, that has not
failed and that no power-fail sequence has shed, is on or turning on. -/
def Obligations.PowreqAppliesAndDomainsFollow : Prop :=
  ∀ s : State, s.live = true → s.tm.running = true → s.en.restart = none →
    ∃ t, exec .powreqApply s = .next t ∧ powreqWrites t = [] ∧ t.mode = s.mode ∧ t.phase = s.phase ∧ t.tm = s.tm ∧
      (∀ (l : List Nat) (w d : Nat), powreqWrites s = l ++ [w] → d < 14 →
        bit (t.rd F.dPowreq) d = if (domRule s.mode d).host then bit w d else bit (s.rd F.dPowreq) d) ∧
      (powreqWrites s = [] → t.rd F.dPowreq = s.rd F.dPowreq ∧ t.rd F.sysPowrej = s.rd F.sysPowrej) ∧
      (∀ w : Nat, powreqWrites s = [w] → t.rd F.sysPowrej =
        if ∃ d : Nat, d < 14 ∧ (domRule s.mode d).host = false ∧ bit w d ≠ domWanted s d
        then min (s.rd F.sysPowrej + 1) 65535 else s.rd F.sysPowrej) ∧
      ∀ d : Nat, 0 < d → d < 14 →
        (domWanted t d = false → t.domOn d = false ∧ bit t.pw.turning d = false) ∧
        (domWanted t d = true → bit s.pw.failed d = false → s.pw.pf = .none → t.domOn d = true ∨ bit t.pw.turning d = true)

/-- After 16 beats an evaluation keeps the smallest margin, and with the loop not frozen lowers the domain by 5 mV above 80 ps and raises it
by 5 mV below 60 ps, within 720 to 900 mV. A margin below 15 ps at less than 900 mV raises it by 20 mV, to 900 mV at most, frozen or not,
and counts in AVSnFAST. 64 beats at 900 mV with too little margin make AVS_LIMIT live. While the bandgap group is measured an evaluation
changes neither the margin nor the voltage. -/
def Obligations.AdaptiveVoltageScaling : Prop :=
  (∀ (l : Fin 2) (m : BitVec 16) (s : State), s.powered = true → s.domOn (l + 5) = true → 16 ≤ s.pw.avsBeats.getD l 0 →
    s.calItem = some 1 →
    ∃ t, exec (.avsStep l m) s = .next t ∧ t.pw = { s.pw with avsBeats := s.pw.avsBeats.set l 0 } ∧ Keeps [] [.pw] s t) ∧
  (∀ (l : Fin 2) (m : BitVec 16) (s : State), s.powered = true → s.domOn (l + 5) = true → 16 ≤ s.pw.avsBeats.getD l 0 →
    s.calItem ≠ some 1 → 720 ≤ s.rd (F.sysAvsv l) → s.rd (F.sysAvsv l) ≤ 900 →
    ∃ t, exec (.avsStep l m) s = .next t ∧ t.rd (F.sysAvsmarg l) = m.toNat ∧
      t.pw = { s.pw with avsBeats := s.pw.avsBeats.set l 0 } ∧
      t.rd (F.sysAvsv l) = (if s.rd (F.sysFreeze l) ≠ 0 then s.rd (F.sysAvsv l)
        else if 80 < m.toNat then max 720 (s.rd (F.sysAvsv l) - 5)
        else if m.toNat < 60 then min 900 (s.rd (F.sysAvsv l) + 5) else s.rd (F.sysAvsv l)) ∧
      Keeps [F.sysAvsmarg l, F.sysAvsv l] [.pw] s t) ∧
  (∀ (l : Fin 2) (m : BitVec 16) (s : State), s.powered = true → s.domOn (l + 5) = true → m.toNat < 15 →
    s.rd (F.sysAvsv l) < 900 →
    ∃ t, exec (.avsFastRaise l m) s = .next t ∧ t.rd (F.sysAvsv l) = min 900 (s.rd (F.sysAvsv l) + 20) ∧
      t.rd (F.sysAvsfast l) = min (s.rd (F.sysAvsfast l) + 1) 65535 ∧ Keeps [F.sysAvsv l, F.sysAvsfast l] [] s t) ∧
  (∀ (l : Fin 2) (dt : Dt) (s : State), s.powered = true → s.domOn (l + 5) = true → 64 ≤ s.pw.avsLow.getD l 0 →
    ∃ t, exec (.avsLimit l dt) s = .next t ∧ bit (t.frec .avsLimit).live l = true ∧
      (bit (s.frec .avsLimit).live l = false → Recorded .avsLimit l (l + 5) s t) ∧
      Keeps [F.fltCnt 0 5] [.flt, .br, .pr] s t)

/-- A powered unit whose carrier supply falls holds its carrier-facing pins released and drives no read data, ends every link frame in
progress, counts an abandoned host cycle in HBABANDON and has AUX_LOW live; when the supply returns the pins are driven again and the live
bit falls. -/
def Obligations.CarrierSupplyLowAndBack : Prop :=
  (∀ (cy : Bool) (dt : Dt) (s : State), s.powered = true → s.pw.auxLow = false → (∀ k, k < 5 → (s.link k).frame = false) →
    bit (s.frec .auxLow).live 0 = false →
    ∃ t, exec (.auxLow cy dt) s = .next t ∧ t.pw = { s.pw with auxLow := true } ∧ t.bus = { s.bus with rdata := none } ∧
      t.rd F.sysHbabandon = (if cy then min (s.rd F.sysHbabandon + 1) 65535 else s.rd F.sysHbabandon) ∧
      Recorded .auxLow 0 0 s t ∧ bit (t.frec .auxLow).live 0 = true ∧
      Keeps [F.sysHbabandon, F.fltCnt 0 6] [.pw, .bus, .flt, .br, .pr] s t) ∧
  (∀ (cy : Bool) (dt : Dt) (s : State), s.powered = true → s.pw.auxLow = false →
    ∃ t, exec (.auxLow cy dt) s = .next t ∧ t.pw.auxLow = true ∧ t.bus.rdata = none ∧ ∀ k, k < 5 → (t.link k).frame = false) ∧
  (∀ s : State, s.powered = true → s.pw.auxLow = true →
    ∃ t, exec .auxRestore s = .next t ∧ t.pw = { s.pw with auxLow := false } ∧ bit (t.frec .auxLow).live 0 = false ∧
      (∀ c, c ≠ .auxLow → t.frec c = s.frec c) ∧ Keeps [] [.pw, .flt] s t)

/-- With no sequence in progress a power fail, and an input stage that opens on an overvoltage, set SEQ, fire the power-fail producer, make
POWER_FAIL live, end a wake window and switch off D2 and D6 to D11 and no other domain; PFLIVE shows a low input and not an overvoltage; a
store runs afterwards where Stone is in service, unless the shed domains of the last sequence were still coming back. A fall of the input
inside a sequence that a low input began only shows in PFLIVE. At the recovery decision a good input ends the sequence with RESUMED
set and SEQ and PFLIVE clear, and a reset held meanwhile is made then; otherwise every domain but D0 is off and D0 keeps the seconds of
the time scale. -/
def Obligations.PowerFailSequence : Prop :=
  (∀ (c : Instr) (dt : Dt) (s : State), s.powered = true → s.pw.pf = .none →
    c = .powerFail dt ∨ (c = .overvoltageTimeout dt ∧ s.pw.over80 = true) →
    ∃ t, exec c s = .next t ∧ t.rd F.sysSeq = 1 ∧ t.rd F.sysPflive = (if c = .powerFail dt then 1 else 0) ∧
      t.pw.pf = (if s.pw.resuming then .noStore else .storing) ∧ bit t.br.due 41 = true ∧
      (s.pw.resuming = false → s.stoneIsol = false → t.st.store ≠ none) ∧
      bit (t.frec .powerFail).live 0 = true ∧ t.mo.win = none ∧ t.phase = s.phase ∧ t.mode = s.mode ∧ t.tm = s.tm ∧
      ∀ d : Nat, d < 14 → t.domOn d = (if d = 2 ∨ (6 ≤ d ∧ d ≤ 11) then false else s.domOn d)) ∧
  (∀ (dt : Dt) (s : State), s.powered = true → s.pw.pf ≠ .none →
    ∃ t, exec (.powerFail dt) s = .next t ∧ t.pw = { s.pw with below28 := true } ∧
      t.rd F.sysPflive = (if s.pw.ov then 0 else 1) ∧ Keeps [F.sysPflive] [.pw] s t) ∧
  (∀ s : State, s.powered = true → s.pw.pf ≠ .none → s.pw.coldStore = false →
    ∃ t, exec (.powerFailStoreDone true) s = .next t ∧ t.pw.pf = .none ∧ t.pw.opened = false ∧ t.rd F.sysSeq = 0 ∧
      t.rd F.sysPflive = 0 ∧ t.phase = s.phase ∧
      (s.rd F.sysRstlive = 0 → t.rd F.sysResumed = 1 ∧ bit (t.frec .powerFail).live 0 = false ∧ t.mode = s.mode) ∧
      (s.rd F.sysRstlive = 1 → s.rd F.sysRstdeaf = 0 → s.live = true → t.rd F.sysWarm = 1 ∧ t.en.restart = some 0) ∧
      (s.pw.pf = .storing → s.st.store ≠ none → t.pw.lastStoreOk = true)) ∧
  (∀ s : State, s.powered = true → s.pw.pf ≠ .none → s.pw.coldStore = false →
    ∃ t, exec (.powerFailStoreDone false) s = .next t ∧ t.phase = .off ∧ t.rd F.dPowstat = 1 ∧ t.pw.rtcSec = s.sec ∧
      t.pw.rtcLost = false ∧ t.tm.running = false ∧ t.pw.floor = s.pw.floor)

/-- With the unit out of BOOT, D13 on and the carrier powered, each of the seven request commands leaves its code as the request that waits
for the next strobe, replacing any other, shows it in MODEREQ and is noted for Press; in BOOT the write is only counted in HBBOOTWR, and with the carrier's
supply low only in HBABANDON. -/
def Obligations.ModeRequestsWaitForTheStrobe : Prop :=
  ∀ (c : Instr) (n : Nat) (s : State),
    (c = .modeReqProvision ∧ n = 1) ∨ (c = .modeReqRun ∧ n = 2) ∨ (c = .modeReqHold ∧ n = 3) ∨ (c = .modeReqDormant ∧ n = 5) ∨
      (c = .modeReqReplay ∧ n = 6) ∨ (c = .modeReqSafe ∧ n = 7) ∨ (c = .modeReqInvalid false ∧ n = 0) ∨
      (c = .modeReqInvalid true ∧ n = 4) →
    s.powered = true → s.domOn 13 = true →
    (s.live = true → s.pw.auxLow = false → ∃ t, exec c s = .next t ∧ t.md = { s.md with req := some n, reqAuto := false } ∧
      t.rd F.dModereqReq = n ∧ t.pr = { s.pr with notes := s.pr.notes ++ [(0x70, bytesBE 1 n)] } ∧
      Keeps [F.dModereqReq] [.md, .pr] s t) ∧
    (s.live = false → ∃ t, exec c s = .next t ∧ t.rd F.sysHbbootwr = min (s.rd F.sysHbbootwr + 1) 65535 ∧
      Keeps [F.sysHbbootwr] [] s t) ∧
    (s.live = true → s.pw.auxLow = true → ∃ t, exec c s = .next t ∧
      t.rd F.sysHbabandon = min (s.rd F.sysHbabandon + 1) 65535 ∧ Keeps [F.sysHbabandon] [] s t)

/-- At a mode evaluation after BOOT: with an L3 record since the last strobe a unit not in SAFE enters SAFE, and one in SAFE refuses a
request that waits. With no such record and no request, only automatic moves happen, and they are those of the table. With no such record,
a request where no automatic move comes first gives the mode that the table gives it; one that the table does not allow from the mode in
force leaves the mode and sets the reject flag with its reason. At the end of BOOT the unit enters SAFE with an uncleared L3 record, else
PROVISION. An entry into SAFE or DORMANT shows in MODE, PREVMODE and CAUSE. -/
def Obligations.ModeEvaluationFollowsTheTable : Prop :=
  let table (s : State) (r : Nat) : Mode := match r with
    | 1 => if s.mode = .safe ∧ l3Live s = true then .safe else .provision
    | 2 => if s.mode = .provision then runMode s else if s.mode = .dormant then exitMode s else s.mode
    | 3 => if s.mode = .replay ∨ s.mode = .safe then s.mode else .holdover
    | 5 => if s.mode = .track ∨ s.mode = .holdover then .dormant else s.mode
    | 6 => if s.mode = .provision ∨ (s.mode = .safe ∧ l3Live s = false) then .replay else s.mode
    | 7 => .safe
    | _ => s.mode
  (∀ s : State, s.phase = .run → s.tm.running = true → s.mode ≠ .boot → s.mode ≠ .safe → s.flt.l3 ≠ none →
    ∃ t, exec .modeEvaluation s = .next t ∧ t.mode = .safe ∧ t.rd F.sysCause = 10 ∧ t.rd F.sysPrevmode = s.mode.code ∧
      t.rd F.fltSafeblk = s.flt.safeRec.1 % 16 ∧ t.rd F.fltSafecls = s.flt.safeRec.2 % 16 ∧ t.md.req = none ∧
      (s.md.req ≠ none → t.rd F.sysRejreason = 5 ∧ t.rd F.dRej = 1)) ∧
  (∀ s : State, s.phase = .run → s.tm.running = true → s.mode = .safe → s.flt.l3 ≠ none →
    ∃ t, exec .modeEvaluation s = .next t ∧ t.mode = .safe ∧ t.flt.l3 = none ∧ t.md.req = none ∧
      (s.md.req ≠ none → t.rd F.sysRejreason = 5 ∧ t.rd F.dRej = 1) ∧
      Keeps [F.sysRejreason, F.dRej, F.sysModerej] [.flt, .md] s t) ∧
  (∀ s : State, s.phase = .run → s.tm.running = true → s.mode ≠ .boot → s.flt.l3 = none → s.md.req = none →
    ∃ t, exec .modeEvaluation s = .next t ∧
      (t.mode = s.mode ∨ (t.rd F.sysPrevmode = s.mode.code ∧
        ((s.mode = .track ∧ t.mode = lostMode s) ∨ (s.mode = .holdover ∧ (t.mode = .track ∨ t.mode = .ensemble)) ∨
          (s.mode = .ensemble ∧ (t.mode = .track ∨ t.mode = .holdover)) ∨ (s.mode = .dormant ∧ t.mode = exitMode s) ∨
          (s.mode = .safe ∧ t.mode = .provision))))) ∧
  (∀ (s : State) (r : Nat), s.phase = .run → s.tm.running = true → s.mode ≠ .boot → s.flt.l3 = none → s.md.req = some r →
    (autoMove s).mode = s.mode →
    ∃ t, exec .modeEvaluation s = .next t ∧ t.mode = table s r ∧ t.md.req = none) ∧
  (∀ (s : State) (r : Nat), s.phase = .run → s.tm.running = true → s.flt.l3 = none → s.md.req = some r →
    (s.mode = .provision ∧ r = 5) ∨ (s.mode = .track ∧ allLost s = false ∧ r = 6) ∨
      (s.mode = .replay ∧ (r = 2 ∨ r = 3 ∨ r = 5)) ∨ (s.mode = .safe ∧ safeExits s = false ∧ (r = 2 ∨ r = 3 ∨ r = 5)) →
    ∃ t, exec .modeEvaluation s = .next t ∧ t.mode = s.mode ∧ t.md.req = none ∧ t.rd F.dRej = 1 ∧ t.rd F.sysRejreason = 1 ∧
      t.rd F.sysModerej = min (s.rd F.sysModerej + 1) 65535) ∧
  (∀ s : State, s.phase = .run → s.tm.running = true → s.flt.l3 = none → s.md.req = some 5 → s.mode = .track → allLost s = false →
    ∃ t, exec .modeEvaluation s = .next t ∧ t.mode = .dormant ∧ t.rd F.sysPrevmode = 2 ∧ t.rd F.sysCause = 3 ∧
      t.rd F.dModeChg = 1) ∧
  (∀ s : State, s.phase = .run → s.tm.running = true → s.mode = .boot → s.md.bootEnded = true →
    ∃ t, exec .modeEvaluation s = .next t ∧ t.mode = if s.flt.anyL3Uncl then .safe else .provision)

/-- With no L3 record since the last strobe: in HOLDOVER without HOLDREQ, peers present for 1,024 beats move the unit to ENSEMBLE and queue
tally 8; in ENSEMBLE, peers absent for 1,024 beats move it to HOLDOVER and queue tally 7: MODE, PREVMODE and CAUSE 7 show it,
MODECHG fires, and the beats counted stand. -/
def Obligations.PeersRiseAndFall : Prop :=
  (∀ s : State, s.live = true → s.mode = .holdover → s.rd F.sysHoldreq = 0 → s.flt.l3 = none → 1024 ≤ s.md.rise →
    ∃ t, exec .peersRise s = .next t ∧ t.mode = .ensemble ∧ t.rd F.sysPrevmode = 3 ∧ t.rd F.sysCause = 7 ∧
      t.rd F.dModeChg = 1 ∧ bit t.br.due 36 = true ∧ (∃ k, (8, k) ∈ t.st.tallyQ) ∧ t.md.rise = s.md.rise) ∧
  (∀ s : State, s.live = true → s.mode = .ensemble → s.flt.l3 = none → 1024 ≤ s.md.fall →
    ∃ t, exec .peersFall s = .next t ∧ t.mode = .holdover ∧ t.rd F.sysPrevmode = 4 ∧ t.rd F.sysCause = 7 ∧
      t.rd F.dModeChg = 1 ∧ bit t.br.due 36 = true ∧ (∃ k, (7, k) ∈ t.st.tallyQ) ∧ t.md.fall = s.md.fall)

/-- Where RESET# acts: an assertion not yet seen makes a warm reset, which keeps the mode but for REPLAY, queues tally 2, sets WARM,
stops the engines until they resume, and returns every field whose Warm column says Reset to its Reset value (HBDISCARD then counts the
staged words lost); a release after 10 s to 30 s asks for the store before a cold reset, and after any other time only
clears RSTLIVE, as does any release while RESET# does not act. A pin low beyond 30 s is deaf: RESET_STUCK is live and tally 17 is queued; high for 1 s, it acts again. When the store
before a cold reset has ended the unit starts BOOT with COLD set, unless the input has failed meanwhile and is not back. -/
def Obligations.ResetsAndStuckPin : Prop :=
  (∀ s : State, resetActs s = true → s.rd F.sysRstlive = 0 → s.mode ≠ .replay →
    ∃ t, exec .warmReset s = .next t ∧ t.mode = s.mode ∧ t.rd F.sysWarm = 1 ∧ t.rd F.sysRstlive = 1 ∧
      t.en.restart = some 0 ∧ t.tm.now = s.tm.now ∧ (∃ k, (2, k) ∈ t.st.tallyQ) ∧
      ∀ f g : Fld, fldOfKey f.key = some g → g.kept = false → f.key ≠ F.sysHbdiscard.key → t.rd f = f.rst) ∧
  (∀ (ms : BitVec 16) (s : State), resetActs s = true → s.rd F.sysRstlive ≠ 0 →
    ∃ t, exec (.coldReset ms) s = .next t ∧ t.rd F.sysRstlive = 0 ∧
      t.pw.coldStore = decide (10000 ≤ ms.toNat ∧ ms.toNat ≤ 30000) ∧
      (¬ (10000 ≤ ms.toNat ∧ ms.toNat ≤ 30000) → Keeps [F.sysRstlive] [] s t)) ∧
  (∀ (ms : BitVec 16) (s : State), s.powered = true → resetActs s = false → s.rd F.sysRstlive ≠ 0 →
    ∃ t, exec (.coldReset ms) s = .next t ∧ t.rd F.sysRstlive = 0 ∧ Keeps [F.sysRstlive] [] s t) ∧
  (∀ (p : PowerIn) (g : Bool) (s : State), s.powered = true → s.pw.coldStore = true → powerStored s = true →
    ∃ t, exec (.coldResetStoreDone g p) s = .next t ∧
      (s.pw.pf = .none ∨ g = true → t.phase = .boot ∧ t.rd F.sysCold = 1 ∧ t.rd F.sysPwrup = 0 ∧ t.rd F.sysCause = 1 ∧
        t.tm.now = (s.sec + p.offSecs.toNat) * unitsPerSec) ∧
      (s.pw.pf ≠ .none → g = false → t.phase = .off ∧ t.rd F.dPowstat = 1)) ∧
  (∀ (dt : Dt) (s : State), resetActs s = true → s.rd F.sysRstlive ≠ 0 →
    ∃ t, exec (.resetStuck dt) s = .next t ∧ t.rd F.sysRstdeaf = 1 ∧
      t.st = { s.st with tallyQ := addTally s.st.tallyQ 17 1 } ∧ bit (t.frec .resetStuck).live 0 = true ∧
      Keeps [F.sysRstdeaf, F.fltCnt 0 8] [.st, .flt, .br, .pr] s t) ∧
  (∀ s : State, s.live = true → s.rd F.sysRstdeaf ≠ 0 →
    ∃ t, exec .resetPinRecover s = .next t ∧ t.rd F.sysRstdeaf = 0 ∧ t.rd F.sysRstlive = 0 ∧
      bit (t.frec .resetStuck).live 0 = false ∧ Keeps [F.sysRstdeaf, F.sysRstlive] [.flt] s t)

/-- Every WDATA read or write that completes leaves WSPACE as it was and adds one to the 24-bit window address where AINC is set, from
0xFF_FFFF to 0 with WRAP set; it leaves the address where AINC is clear. An access that is abandoned or times out leaves the host's window as
it was. -/
def Obligations.WindowAutoIncrement : Prop :=
  (∀ (c : Instr) (ext : BitVec 16) (ecc : List EccIn) (w : Word) (dt : Dt) (s : State),
    c = .wdataRead ext ecc dt ∨ c = .wdataWrite w ext dt → busUp s →
    ∃ t, exec c s = .next t ∧ (t.winOf 0).space = (s.winOf 0).space ∧ (t.winOf 0).ainc = (s.winOf 0).ainc ∧
      (t.winOf 0).addr = (if (s.winOf 0).ainc then ((s.winOf 0).addr + 1) % 2 ^ 24 else (s.winOf 0).addr) ∧
      ((s.winOf 0).ainc = true → ((s.winOf 0).addr + 1) % 2 ^ 24 = 0 → t.rd F.dWsWrap = 1)) ∧
  (∀ (c : Instr) (ext : BitVec 16) (b : Bool) (dt : Dt) (s : State),
    c = .hostAccessAbandon ext ∨ c = .busTimeout b ext dt → s.powered = true → s.domOn 13 = true →
    ∃ t, exec c s = .next t ∧ t.bus.win = s.bus.win)

/-- A WDATA read of the lowest word of a listed group that answers drives that word, holds a snapshot of the whole group where it has
several words, and returns an RC field that is alone in its group to its Reset value (heads of capture queues have their own statement); a read of a higher word while the snapshot is held
drives the snapshot's word and changes no register but HBEXTMAX and WRAP; without one it drives the live word, sets TORN and counts HBTORN.
RC_FIELD_READ clears the field in the same way. A corrected error that the access finds in Orchard is counted and recorded. -/
def Obligations.SnapshotsAndReadClears : Prop :=
  (∀ (c : Instr) (ext : BitVec 16) (dt : Dt) (s : State) (sp a : Nat) (w : WordGrp), busLive s →
    c = .wdataRead ext [] dt ∧ (s.winOf 0).space = sp ∧ (s.winOf 0).addr = a ∨
      c = .rcFieldRead (BitVec.ofNat 5 sp) (BitVec.ofNat 24 a) dt ∧ sp < 16 ∧ a < 2 ^ 24 →
    unavail s 0 sp a = none → grpAt sp a = some w → w.base = a → sp ≠ 0 →
    ¬ (sp = 4 ∧ 0x400 ≤ a ∧ a < 0x500) →
    ∃ t, exec c s = .next t ∧
      t.bus.rdata = some (BitVec.ofNat 16 (wordOf (grpVal s 0 (s.at dt.toNat) sp w) w.words 0)) ∧
      (t.winOf 0).snap = (if w.words = 1 then none else some ⟨sp, a, w.words, grpVal s 0 (s.at dt.toNat) sp w⟩) ∧
      ∀ f, w.flds = [f] → f.acc = .rc → t.rd f = f.rst % 2 ^ f.w) ∧
  (∀ (ext : BitVec 16) (dt : Dt) (s : State) (a : Nat) (w : WordGrp) (sn : Snap), busLive s →
    unavail s 0 (s.winOf 0).space a = none → (s.winOf 0).addr = a → grpAt (s.winOf 0).space a = some w → w.base < a →
    (s.winOf 0).snap = some sn → sn.sp = (s.winOf 0).space → sn.base = w.base →
    ∃ t, exec (.wdataRead ext [] dt) s = .next t ∧
      t.bus.rdata = some (BitVec.ofNat 16 (wordOf sn.value w.words (a - w.base))) ∧ (t.winOf 0).snap = some sn ∧
      ((s.winOf 0).space ≠ 14 → Keeps [F.sysHbextmax, F.dWsWrap] [.bus] s t)) ∧
  (∀ (ext : BitVec 16) (dt : Dt) (s : State) (a : Nat) (w : WordGrp), busLive s →
    unavail s 0 (s.winOf 0).space a = none → (s.winOf 0).addr = a → grpAt (s.winOf 0).space a = some w → w.base < a →
    (s.winOf 0).snap = none →
    ∃ t, exec (.wdataRead ext [] dt) s = .next t ∧ t.rd F.dWsTorn = 1 ∧
      t.rd F.sysHbtorn = min (s.rd F.sysHbtorn + 1) 65535 ∧ (t.winOf 0).snap = none) ∧
  (∀ (ext : BitVec 16) (e : EccIn) (dt : Dt) (s : State), busUp s → e.double = false → (s.winOf 0).space ≠ 12 →
    (s.winOf 0).space ≠ 15 →
    ∃ t, exec (.wdataRead ext [e] dt) s = .next t ∧ t.rd F.fabEccaddr = e.addr.toNat ∧
      t.rd F.fabEccce = min (s.rd F.fabEccce + 1) 65535 ∧ (t.frec .orchardCe).uncl = true ∧
      t.rd FC.orchardCe.cnt = min (s.rd FC.orchardCe.cnt + 1) 65535)

/-- A WDATA read that is unavailable drives 0x0000 and sets the one WSTAT flag that comes first in the order NOTREADY, DENIED, OFFDOM,
UNMAP; a WDATA write that is unavailable changes nothing but that flag, HBEXTMAX, HBBOOTWR in BOOT, WRAP and the window address. -/
def Obligations.UnavailableWindowAccesses : Prop :=
  (∀ (ext : BitVec 16) (dt : Dt) (s : State) (f : Fld), busUp s →
    (s.live = false ∧ f = F.dWsNotready) ∨ (s.live = true ∧ unavail s 0 (s.winOf 0).space (s.winOf 0).addr = some f) →
    ∃ t, exec (.wdataRead ext [] dt) s = .next t ∧ t.bus.rdata = some 0 ∧ t.rd f = 1 ∧
      Keeps [f, F.sysHbextmax, F.dWsWrap] [.bus] s t) ∧
  (∀ (w : Word) (ext : BitVec 16) (dt : Dt) (s : State) (f : Fld), busUp s →
    (s.live = false ∧ f = F.dWsNotready) ∨ (s.live = true ∧ unavail s 0 (s.winOf 0).space (s.winOf 0).addr = some f) →
    ∃ t, exec (.wdataWrite w ext dt) s = .next t ∧ t.rd f = 1 ∧
      (s.live = false → t.rd F.sysHbbootwr = min (s.rd F.sysHbbootwr + 1) 65535) ∧
      (s.live = true → t.rd F.sysHbbootwr = s.rd F.sysHbbootwr) ∧
      Keeps [f, F.sysHbextmax, F.sysHbbootwr, F.dWsWrap] [.bus] s t)

/-- A direct write to 0x30 or above changes nothing. WSPACE, WADDRH and WADDRL set their part of the host's window and discard its
snapshot; DROP discards the snapshot and the staged words uncounted, and so does WINDOW_DROP. A CMD write without the guard 0xA only counts
in HBGUARD; with the guard, while a command runs or a power-fail sequence refuses it, it only sets BUSYREJ; and otherwise it is accepted with
CODE and STATE 1 and noted for Press. A POWREQ write waits for the strobe. -/
def Obligations.DirectRegisterWrites : Prop :=
  (∀ (a : BitVec 7) (w : Word) (dt : Dt) (s : State), 0x30 ≤ a.toNat → ∃ t, exec (.registerWrite a w dt) s = .next t ∧ t = s) ∧
  (∀ (w : Word) (dt : Dt) (s : State), busLive s →
    (∃ t, exec (.registerWrite 8 w dt) s = .next t ∧
      t.winOf 0 = { s.winOf 0 with space := w.toNat % 16, snap := none } ∧ Keeps [] [.bus] s t) ∧
    (∃ t, exec (.registerWrite 9 w dt) s = .next t ∧
      t.winOf 0 = { s.winOf 0 with addr := w.toNat % 256 * 65536 + (s.winOf 0).addr % 65536, snap := none } ∧
      Keeps [] [.bus] s t) ∧
    (∃ t, exec (.registerWrite 10 w dt) s = .next t ∧
      t.winOf 0 = { s.winOf 0 with addr := (s.winOf 0).addr / 65536 * 65536 + w.toNat, snap := none } ∧ Keeps [] [.bus] s t) ∧
    (∃ t, exec (.registerWrite 12 w dt) s = .next t ∧
      t.winOf 0 = (if bit w.toNat 1 then { s.winOf 0 with ainc := bit w.toNat 0, snap := none, stg := none }
        else { s.winOf 0 with ainc := bit w.toNat 0 }) ∧ Keeps [] [.bus] s t) ∧
    (∃ t, exec (.registerWrite 0x2C w dt) s = .next t ∧
      t.bus.dstage = s.bus.dstage ++ [(F.dPowreq, w.toNat % 2 ^ 14)] ∧ Keeps [] [.bus] s t) ∧
    (∃ t, exec (.registerWrite 4 w dt) s = .next t ∧
      (w.toNat / 4096 ≠ 0xA → t.rd F.sysHbguard = min (s.rd F.sysHbguard + 1) 65535 ∧ Keeps [F.sysHbguard] [] s t) ∧
      (w.toNat / 4096 = 0xA → s.bus.cmd ≠ none ∨ s.pw.pf ≠ .none → t.rd F.dBusyrej = 1 ∧ Keeps [F.dBusyrej] [] s t) ∧
      (w.toNat / 4096 = 0xA → s.bus.cmd = none → s.pw.pf = .none →
        t.bus = { s.bus with cmd := some ⟨w.toNat % 256, w.toNat / 256 % 16, false⟩ } ∧
        t.rd F.dStatCode = w.toNat % 256 ∧ t.rd F.dStatState = 1 ∧ t.rd F.dStatErr = 0 ∧
        t.pr = { s.pr with notes := s.pr.notes ++ [(0x70, bytesBE 1 (w.toNat % 256) ++ bytesBE 1 (w.toNat / 256 % 16))] } ∧
        Keeps [F.dStatCode, F.dStatState, F.dStatErr] [.bus, .pr] s t))) ∧
  (∀ s : State, busLive s →
    ∃ t, exec .windowDrop s = .next t ∧ t.winOf 0 = { s.winOf 0 with snap := none, stg := none } ∧ Keeps [] [.bus] s t)

/-- RD# and WR# low together: BUS_PROTOCOL is recorded for the host bus and HBPROTO counts; a strobe that ends with RDY low counts in
HBABANDON; an access not done after 2.0 µs completes, a read with 0x0000, sets TMO, counts in HBTMO and records BUS_TIMEOUT, unless the
carrier's supply is low, where it is abandoned. HBEXTMAX keeps the longest extension. Nothing else changes. -/
def Obligations.HostBusAccessesGoneWrong : Prop :=
  (∀ (dt : Dt) (s : State), s.powered = true → s.domOn 13 = true →
    ∃ t, exec (.busProtocol dt) s = .next t ∧ t.rd F.sysHbproto = min (s.rd F.sysHbproto + 1) 65535 ∧
      Recorded .busProtocol 0 0 s t ∧ Keeps [F.sysHbproto, F.fltCnt 11 0] [.flt, .br, .pr] s t) ∧
  (∀ (ext : BitVec 16) (s : State), s.powered = true → s.domOn 13 = true →
    ∃ t, exec (.hostAccessAbandon ext) s = .next t ∧ t.rd F.sysHbabandon = min (s.rd F.sysHbabandon + 1) 65535 ∧
      t.rd F.sysHbextmax = max (s.rd F.sysHbextmax) ext.toNat % 65536 ∧ Keeps [F.sysHbabandon, F.sysHbextmax] [] s t) ∧
  (∀ (r : Bool) (ext : BitVec 16) (dt : Dt) (s : State), s.powered = true → s.domOn 13 = true → s.pw.auxLow = true →
    ∃ t, exec (.busTimeout r ext dt) s = .next t ∧ t.rd F.sysHbabandon = min (s.rd F.sysHbabandon + 1) 65535 ∧
      Keeps [F.sysHbabandon] [] s t) ∧
  (∀ (r : Bool) (ext : BitVec 16) (dt : Dt) (s : State), busUp s →
    ∃ t, exec (.busTimeout r ext dt) s = .next t ∧ t.rd F.dWsTmo = 1 ∧ t.rd F.sysHbtmo = min (s.rd F.sysHbtmo + 1) 65535 ∧
      t.rd F.sysHbextmax = max (s.rd F.sysHbextmax) ext.toNat % 65536 ∧
      t.bus = (if r then { s.bus with rdata := some 0 } else s.bus) ∧ Recorded .busTimeout 0 0 s t ∧
      Keeps [F.dWsTmo, F.sysHbtmo, F.sysHbextmax, F.fltCnt 11 1] [.bus, .flt, .br, .pr] s t)

/-- While the engines take commands, STAGED_WRITE_APPLY leaves no write of the host bus or the SVC port and no direct write but POWREQ's
waiting, and a staged write of SLEWLIM leaves that field at the value written, held in
its range from 1 to 1,500. TIME_LATCH freezes the reading of that instant and
sets HELD; TIME_RELEASE lets the time registers go on and clears it. -/
def Obligations.StagedWritesAndTimeLatch : Prop :=
  (∀ s : State, s.live = true → s.tm.running = true → s.en.restart = none →
    ∃ t, exec .stagedWriteApply s = .next t ∧
      t.bus.dstage = s.bus.dstage.filter (fun p => p.1.key == F.dPowreq.key) ∧
      t.bus.staging = s.bus.staging.filter (fun e => (tenantOf e.agent).isSome)) ∧
  (∀ (s : State) (v : Nat), s.live = true → s.tm.running = true → s.en.restart = none → s.bus.dstage = [] →
    s.bus.staging = [⟨0, [(F.servoSlewlim, v)]⟩] →
    ∃ t, exec .stagedWriteApply s = .next t ∧ t.rd F.servoSlewlim = clampNat 1 1500 (v % 2 ^ 11)) ∧
  (∀ (dt : Dt) (s : State), s.live = true →
    ∃ t, exec (.timeLatch dt) s = .next t ∧ t.tm = { s.tm with latch := some (s.at dt.toNat) } ∧ t.rd F.dHeld = 1 ∧
      Keeps [F.dHeld] [.tm] s t) ∧
  (∀ s : State, s.live = true →
    ∃ t, exec .timeRelease s = .next t ∧ t.tm = { s.tm with latch := none } ∧ t.rd F.dHeld = 0 ∧ Keeps [F.dHeld] [.tm] s t)

/-- While QC runs and the unit is not in REPLAY, a reference enters the state that the transition table gives, its timer at 0, with CHG
where its summary changes: DISABLED to INDETERMINATE (REF0 to REF3) or OBSERVING on ENABLE and back; OBSERVING to QUALIFIED after QUALTIME
clean seconds, which decides the setting step of an untraceable time scale (so there the reference needs an offset, log 85); to FAILED after
SUSPTIME, or at once for an absent source, with FAILCNT and REF_FAILED; SUSPECT to QUALIFIED after SUSPCLR; FAILED to OBSERVING after
FAILHOLD; INDETERMINATE to OBSERVING after sixteen clean transitions each way, and into INDETERMINATE where the model has marked it so. No
register changes but this reference's, those of a jump it held, and what selection shows. -/
def Obligations.ReferencesFollowTheTable : Prop :=
  let mv (n : Nat) : List Fld := [F.refState n, F.refTimer n, F.dRefChg, F.servoJrefmask, F.dJumpPend,
    F.refCandref, F.refWtrleft, F.dManbad]
  (∀ (n : Fin 10) (s : State), refJudged s n = true → s.refState n = 0 →
    ∃ t, exec (.refEnable n) s = .next t ∧ Entered n (if n.val < 4 then 1 else 2) s t ∧
      Keeps ([F.refRisecnt n, F.refFallcnt n, F.refSettled n] ++ mv n) [.rf] s t) ∧
  (∀ (n : Fin 10) (s : State), refsRun s = true → s.refState n ≠ 0 → s.is (F.refEnable n) = false →
    ∃ t, exec (.refDisable n) s = .next t ∧ Entered n 0 s t ∧ Keeps (mv n) [.rf, .flt] s t) ∧
  (∀ (n : Fin 10) (s : State), refJudged s n = true → s.refState n = 2 → s.rd (F.refQualtime n) * 1024 ≤ (s.ref n).clean →
    refAbsent s n = false → (n.val < 4 → paired s n = true → s.is F.dGnsstod = true) →
    (s.untraced = true → timeRef s n = true → hasOffset s n = true) →
    ∃ t, exec (.refQualify n) s = .next t ∧ Entered n 3 s t ∧
      t.tm = (if s.untraced && timeRef s n && s.tm.pend.isNone then { s.tm with pend := some ⟨refOffset s n, .setting⟩ } else s.tm) ∧
      Keeps (mv n) [.rf, .tm] s t) ∧
  (∀ (n : Fin 10) (s : State), refJudged s n = true → bit (s.frec .refFailed).live n = false →
    (s.refState n = 2 ∧ s.rd (F.refSusptime n) ≤ (s.ref n).violRun) ∨ (s.refState n = 4 ∧ s.rd (F.refSusptime n) ≤ (s.ref n).susp) →
    ∃ t, exec (.refFail n) s = .next t ∧ Entered n 5 s t ∧ t.rd (F.refFailcnt n) = min (s.rd (F.refFailcnt n) + 1) 65535 ∧
      Recorded .refFailed n n s t ∧
      Keeps ([F.refFailcnt n, FC.refFailed.cnt] ++ mv n) [.rf, .flt, .br, .pr] s t) ∧
  (∀ (n : Fin 10) (s : State), refJudged s n = true → bit (s.frec .refFailed).live n = false → s.refState n ≠ 0 → s.refState n ≠ 5 →
    refAbsent s n = true → refFrozen s n = false →
    ∃ t, exec (.refSourceAbsent n) s = .next t ∧ Entered n 5 s t ∧ t.rd (F.refReason n) = 8 ∧
      t.rd (F.refFailcnt n) = min (s.rd (F.refFailcnt n) + 1) 65535 ∧ Recorded .refFailed n n s t ∧
      Keeps ([F.refReason n, F.refFailcnt n, FC.refFailed.cnt] ++ mv n) [.rf, .flt, .br, .pr] s t) ∧
  (∀ (n : Fin 10) (s : State), refJudged s n = true → s.refState n = 4 → (s.ref n).jump = false →
    s.rd (F.refSuspclr n) ≤ (s.ref n).clean → (s.ref n).susp < s.rd (F.refSusptime n) →
    ∃ t, exec (.refSuspectClear n) s = .next t ∧ Entered n 3 s t ∧ Keeps (mv n) [.rf] s t) ∧
  (∀ (n : Fin 10) (s : State), refJudged s n = true → s.refState n = 5 → s.rd (F.refFailhold n) * 1024 ≤ (s.ref n).clean →
    refAbsent s n = false →
    ∃ t, exec (.refFailholdEnd n) s = .next t ∧ Entered n 2 s t ∧ bit (t.frec .refFailed).live n = false ∧
      (∀ c, c ≠ .refFailed → t.frec c = s.frec c) ∧ Keeps (mv n) [.rf, .flt] s t) ∧
  (∀ (n : Fin 4) (s : State), refJudged s n = true → s.refState n = 1 → 16 ≤ s.rd (F.refRisecnt n) → 16 ≤ s.rd (F.refFallcnt n) →
    ∃ t, exec (.rinTransitionsCounted n) s = .next t ∧ Entered n 2 s t ∧ Keeps (mv n) [.rf] s t) ∧
  (∀ (n : Fin 4) (s : State), s.powered = true → (s.live = true → refsRun s = true) → (s.ref n).ind = true → s.refState n ≠ 0 →
    ∃ t, exec (.rinIndeterminate n) s = .next t ∧ Entered n 1 s t ∧ t.rd (F.refRisecnt n) = 0 ∧ t.rd (F.refFallcnt n) = 0 ∧
      (t.ref n).ind = false ∧ t.rd (F.refSettled n) = (if s.is (F.refThrfrz n) then s.rd (F.refSettled n) else 0) ∧
      Keeps ([F.refRisecnt n, F.refFallcnt n, F.refSettled n] ++ mv n) [.rf, .flt] s t)

/-- A still threshold centre sets SETTLED once the input has been beyond both thresholds; a level beyond the band ends MIDBAND; one that
holds on the other side for the glitch filter's time counts a clean transition while the input is INDETERMINATE and settled, and one that
returns to the same side after a stay in the band longer than the filter sets both counts to 0; a level that does not hold so long counts
nothing; a level in the band for more than 2 s raises RIN_MIDBAND. A QUALIFIED reference above the selected one that has stayed so for
WTR, with REVERT set and MANUAL clear, makes selection choose that reference or one that ranks above it. -/
def Obligations.InputFrontEndAndRevertiveSwitch : Prop :=
  (∀ (n : Fin 4) (s : State), s.powered = true → s.domOn 11 = true → s.is (F.refThrfrz n) = false → (s.ref n).seenHi = true →
    (s.ref n).seenLo = true → threshStill (s.ref n) = true →
    ∃ t, exec (.thresholdSettled n) s = .next t ∧ t.rd (F.refSettled n) = 1 ∧ Keeps [F.refSettled n] [] s t) ∧
  (∀ (n : Fin 4) (h : BitVec 16) (s : State), s.powered = true → s.domOn 11 = true →
    ∃ t, exec (.rinLevelChange n 2 h) s = .next t ∧ t.rd (F.refLevel n) = 2 ∧
      (t.ref n).bandBeats = (if s.rd (F.refLevel n) = 2 then (s.ref n).bandBeats else 0) ∧
      (t.ref n).dwelt = ((s.ref n).dwelt || passesGlitch s n h.toNat) ∧ Keeps [F.refLevel n] [.rf] s t) ∧
  (∀ (n : Fin 4) (l : Fin 3) (h : BitVec 16) (s : State), s.powered = true → s.domOn 11 = true → l ≠ 2 →
    passesGlitch s n h.toNat = false →
    ∃ t, exec (.rinLevelChange n l h) s = .next t ∧ t.rd (F.refLevel n) = l ∧ t.rd (F.refMidband n) = 0 ∧
      (t.ref n).bandBeats = 0 ∧ bit (t.frec .rinMidband).live n = false ∧
      Keeps [F.refLevel n, F.refMidband n] [.rf, .flt] s t) ∧
  (∀ (n : Fin 4) (l : Fin 3) (h : BitVec 16) (s : State), s.powered = true → s.domOn 11 = true → l ≠ 2 →
    passesGlitch s n h.toNat = true → s.refState n = 1 →
    s.is (F.refSettled n) = true → bit s.rf.calStale n = false → (s.ref n).side = some (l != 1) →
    ∃ t, exec (.rinLevelChange n l h) s = .next t ∧ t.rd (F.refLevel n) = l ∧ t.rd (F.refMidband n) = 0 ∧
      t.rd (F.refRisecnt n) = (if l = 1 then min (s.rd (F.refRisecnt n) + 1) 31 else s.rd (F.refRisecnt n)) ∧
      t.rd (F.refFallcnt n) = (if l = 1 then s.rd (F.refFallcnt n) else min (s.rd (F.refFallcnt n) + 1) 31) ∧
      bit (t.frec .rinMidband).live n = false ∧
      Keeps [F.refLevel n, F.refMidband n, F.refRisecnt n, F.refFallcnt n] [.rf, .flt] s t) ∧
  (∀ (n : Fin 4) (l : Fin 3) (h : BitVec 16) (s : State), s.powered = true → s.domOn 11 = true → l ≠ 2 →
    passesGlitch s n h.toNat = true → s.refState n = 1 →
    s.is (F.refSettled n) = true → bit s.rf.calStale n = false → (s.ref n).side = some (l == 1) → (s.ref n).dwelt = true →
    ∃ t, exec (.rinLevelChange n l h) s = .next t ∧ t.rd (F.refRisecnt n) = 0 ∧ t.rd (F.refFallcnt n) = 0 ∧
      Keeps [F.refLevel n, F.refMidband n, F.refRisecnt n, F.refFallcnt n] [.rf, .flt] s t) ∧
  (∀ (n : Fin 4) (dt : Dt) (s : State), s.powered = true → s.domOn 11 = true → s.rd (F.refLevel n) = 2 →
    2048 < (s.ref n).bandBeats → bit (s.frec .rinMidband).live n = false →
    ∃ t, exec (.rinMidband n dt) s = .next t ∧ t.rd (F.refMidband n) = 1 ∧ Recorded .rinMidband n n s t ∧
      Keeps [F.refMidband n, FC.rinMidband.cnt] [.flt, .br, .pr] s t) ∧
  (∀ (n : Fin 10) (s : State), refsRun s = true → s.is F.dRevert = true → s.is F.dManual = false → selHeld s = true →
    s.refQual n = true → prio s n ≠ 0 → ranksAbove s n (s.rd F.dSelref) = true → s.rd (F.refWtr n) * 1024 ≤ (s.ref n).qualBeats →
    ∃ t, exec (.wtrExpiry n) s = .next t ∧ (t.ref n).wtrDone = true ∧
      (t.rf.choice = n ∨ ranksAbove s t.rf.choice n = true) ∧
      Keeps [F.refCandref, F.refWtrleft, F.dManbad] [.rf] s t)

/-- With QC running out of REPLAY, D11 on and GNSSEN set: an invalid sentence counts in NMEABAD and one of another type changes nothing.
With the input paired, a valid one that ends outside 10 ms to 990 ms of the last edge counts in NMEALATE; inside, the first of its window
gives LASTLABEL the second plus UTCOFF in force there; where it is the label before plus the seconds between the two edges nothing more
happens, but that GNSSTOD is set where it is the one before plus 1, and otherwise it is a violation that raises GNSS_TOD, unless 3 s have
passed without a label (log 97). Three seconds without a label clear GNSSTOD. Bytes beyond 256 are discarded and counted in UARTOVF;
GNSSTXGO sends the bytes of GNSSTX once, while the pin is driven. -/
def Obligations.GnssTimeOfDay : Prop :=
  (∀ (text : List (BitVec 8)) (dt : Dt) (s : State), refsRun s = true → s.domOn 11 = true → s.is F.refGnssen = true →
    (nmeaJudge text = .other → exec (.nmeaSentence text dt) s = .next s) ∧
    (nmeaJudge text = .bad → ∃ t, exec (.nmeaSentence text dt) s = .next t ∧
      t.rd F.refNmeabad = min (s.rd F.refNmeabad + 1) 65535 ∧ Keeps [F.refNmeabad] [] s t) ∧
    (∀ u : Nat, nmeaJudge text = .utc u → s.rd F.timeLeappend = 0 →
      nmeaLabel s (nmeaJudge text) = some ((u : Int) + s.rdS F.timeUtcoff).toNat) ∧
    (paired s (s.rd F.refGnssrin) = true → s.rf.gn.rin = some (s.rd F.refGnssrin) →
      ∀ lbl e : Nat, nmeaLabel s (nmeaJudge text) = some lbl → s.rf.gn.edge = some e →
      (¬ (e + 655360000000 ≤ s.at dt.toNat ∧ s.at dt.toNat ≤ e + 64880640000000) →
        ∃ t, exec (.nmeaSentence text dt) s = .next t ∧
          t.rd F.refNmealate = min (s.rd F.refNmealate + 1) 65535 ∧ Keeps [F.refNmealate] [] s t) ∧
      (s.rf.gn.named = none → e + 655360000000 ≤ s.at dt.toNat → s.at dt.toNat ≤ e + 64880640000000 →
        ∃ t, exec (.nmeaSentence text dt) s = .next t ∧ t.rd F.refLastlabel = lbl % 2 ^ 64 ∧ t.rf.gn.named = some lbl ∧
          t.rf.gn.since = 0 ∧
          (∀ p : Nat × Nat, s.rf.gn.last = some p → s.rf.gn.since < 3072 →
            labelDue s.rf.gn (if s.is F.refTodedge then e + unitsPerSec else e) = some lbl →
            t.rd F.dGnsstod = (if lbl = p.1 + 1 then 1 else s.rd F.dGnsstod) ∧ Keeps [F.refLastlabel, F.dGnsstod] [.rf] s t) ∧
          (∀ p : Nat × Nat, s.rf.gn.last = some p → s.rf.gn.since < 3072 →
            labelDue s.rf.gn (if s.is F.refTodedge then e + unitsPerSec else e) ≠ some lbl →
            (t.ref (s.rd F.refGnssrin)).todViol = true ∧ Recorded .gnssTod (s.rd F.refGnssrin) (s.rd F.refGnssrin) s t ∧
              Keeps [F.refLastlabel, FC.gnssTod.cnt] [.rf, .flt, .br, .pr] s t) ∧
          (s.rf.gn.last = none ∨ 3072 ≤ s.rf.gn.since → Keeps [F.refLastlabel] [.rf] s t)))) ∧
  (∀ s : State, refsRun s = true → s.is F.dGnsstod = true → 3072 ≤ s.rf.gn.since →
    ∃ t, exec .gnssTodTimeout s = .next t ∧ t.rd F.dGnsstod = 0 ∧ Keeps [F.dGnsstod] [] s t) ∧
  (∀ (l : List (BitVec 8)) (s : State), s.powered = true → s.domOn 11 = true →
    ∃ t, exec (.uartOverflow l) s = .next t ∧
      t.rf = { s.rf with gn := { s.rf.gn with uart := (s.rf.gn.uart ++ l).take 256 } } ∧
      t.rd F.refUartovf = min (s.rd F.refUartovf + (s.rf.gn.uart.length + l.length - 256)) 65535 ∧
      Keeps [F.refUartovf] [.rf] s t) ∧
  (∀ s : State, gnssTxOn s = true → s.rf.gn.txGo = true →
    ∃ t, exec .gnssTx s = .next t ∧
      t.rf = { s.rf with gn := { s.rf.gn with txGo := false, txd := gnssTxBytes s } } ∧ Keeps [] [.rf] s t)

/-- The reference n onto which a Graft may start (the one that selection has published, or one lifted at this strobe, log 98) is QUALIFIED
and is not SELREF, no refusal of it is due, and no Graft is in progress. Onto a frequency reference: SELREF and GRAFTREF take n, GRAFTING
is set, REFCHG is due, and BUILDOUT is the mean over 16 common beats within half a period, or 0 with no build-out until the first sample.
Onto a time reference, BUILDOUT is 0; where the time scale is not traceable or the refusal of n was lifted, no slew is started; else at
offset d: |d| at most GW slews d; up to THRESH it also raises GRAFT_WIDE; beyond THRESH SELREF stays, GSTATE is 3 and a GRAFT_NOW that runs
ends with ERR 5. A completed Graft returns GRAFTREF to 0xF and GSTATE to 0, counts in GRAFTCNT, queues tally 6 and its event is due. -/
def Obligations.GraftsBuildOutOrSlew : Prop :=
  let begun : List Fld := [F.dSelref, F.dRefChg, F.dGraftref, F.dGrafting, F.servoGstate, F.servoGtime, F.servoBuildout]
  let slews : List Fld := [F.servoSlewrem, F.dSlewing] ++ begun
  (∀ (n : Fin 10) (s : State), servoRuns s = true → graftMode s = true → graftTarget s = n → s.sv.exRun.getD n 0 < 4 →
    s.rd F.dSelref ≠ n → s.refQual n = true → s.is F.dGrafting = false →
    let took (t : State) : Prop := t.rd F.dSelref = n ∧ t.rd F.dGraftref = n ∧ t.rd F.dGrafting = 1 ∧ t.rd F.dRefChg = 1 ∧
      t.br = { s.br with due := s.br.due ||| 2 ^ 37 } ∧ t.rf = { s.rf with choice := n, shown := n }
    (timeRef s n = false →
      ∃ t, exec .graftStart s = .next t ∧ took t ∧ t.rd F.servoGstate = 1 ∧ t.rd F.servoGtime = 0 ∧
        ((s.sv.common.getD n []).length = 16 →
          t.rdS F.servoBuildout = satSgn 48 (wrapPhase (rdiv (sumInt (s.sv.common.getD n [])) 16) (nomPeriod s n))) ∧
        ((s.sv.common.getD n []).length ≠ 16 → t.rdS F.servoBuildout = 0 ∧ t.sv.builds = s.sv.builds.del n) ∧
        Keeps begun [.sv, .md, .br, .rf] s t) ∧
    (timeRef s n = true → s.untraced = true ∨ bit s.sv.lifted n = true →
      ∃ t, exec .graftStart s = .next t ∧ took t ∧ t.rd F.servoGstate = 2 ∧ t.rd F.servoGtime = 1 ∧ t.rdS F.servoBuildout = 0 ∧
        Keeps begun [.sv, .md, .br, .rf] s t) ∧
    (timeRef s n = true → hasOffset s n = true → s.untraced = false → bit s.sv.lifted n = false →
      ((refOffset s n).natAbs ≤ nsU (graftWindow s) →
        ∃ t, exec .graftStart s = .next t ∧ took t ∧ t.rd F.servoGstate = 2 ∧ t.rd F.servoGtime = 1 ∧ t.rdS F.servoBuildout = 0 ∧
          t.rdS F.servoSlewrem = satSgn 48 (refOffset s n) ∧ t.rd F.dSlewing = 1 ∧ t.sv.jslew = false ∧
          Keeps slews [.sv, .md, .br, .rf] s t) ∧
      (nsU (graftWindow s) < (refOffset s n).natAbs → (refOffset s n).natAbs ≤ nsU (s.rd F.dThresh) →
        ∃ t, exec .graftStart s = .next t ∧ t.rd F.dSelref = n ∧ t.rd F.dGraftref = n ∧ t.rd F.dGrafting = 1 ∧
          t.rd F.servoGstate = 2 ∧ t.rdS F.servoBuildout = 0 ∧ t.rdS F.servoSlewrem = satSgn 48 (refOffset s n) ∧
          t.rd F.dSlewing = 1 ∧ Logged .graftWide n n s t ∧
          Keeps (FC.graftWide.cnt :: slews) [.sv, .md, .br, .rf, .flt, .pr] s t) ∧
      (nsU (s.rd F.dThresh) < (refOffset s n).natAbs →
        ∃ t, exec .graftStart s = .next t ∧ t.rd F.dSelref = s.rd F.dSelref ∧ t.rd F.servoGstate = 3 ∧
          (∀ c, s.bus.cmd = some c → c.code = 0x30 → c.started = true → t.rd F.dStatErr = 5 ∧ t.bus.cmd = none) ∧
          Keeps [F.servoGstate, F.servoGtime, F.dStatState, F.dStatErr, F.dCmdDone] [.bus] s t))) ∧
  (∀ s : State, servoRuns s = true → graftDone s = true →
    ∃ t, exec .graftComplete s = .next t ∧ t.rd F.dGraftref = 15 ∧ t.rd F.dGrafting = 0 ∧ t.rd F.servoGstate = 0 ∧
      t.rd F.servoGraftcnt = min (s.rd F.servoGraftcnt + 1) 65535 ∧ t.sv = { s.sv with graft := none } ∧
      t.st = { s.st with tallyQ := addTally s.st.tallyQ 6 1 } ∧ t.br = { s.br with due := s.br.due ||| 2 ^ 38 } ∧
      Keeps [F.dGraftref, F.dGrafting, F.servoGstate, F.servoGraftcnt, F.dStatState, F.dStatErr, F.dCmdDone] [.sv, .st, .br, .bus] s t)

/-- A time reference that is QUALIFIED, or turned SUSPECT at this strobe by a violation, with four consecutive excess samples of one sign
is refused: SUSPECT with reason 7, its bit in JREFMASK, JREF, PEND, NEG, MAG, JOFFSEC and JOFFNS of its offset, tally 9, JUMP_REFUSED, its
event due, and PTP's JUMPREF where it is a port's. With AUTOCONF clear, or no other reference refused at this strobe that agrees within GW,
the refusal stands and nothing is slewed. With one, both return to QUALIFIED, CONF is set, CONFREF names the second, and the mean of the two
offsets is slewed at JSLEW (the mean is the model's choice, DEDUCED). Where ACCEPT_JUMP has applied a jump at this strobe, what is left of
the offset decides: within THRESH the reference returns to QUALIFIED, beyond it stays SUSPECT as JREF with what is left. -/
def Obligations.JumpRefusedOrConfirmed : Prop :=
  let flds (n : Nat) : List Fld := [F.refState n, F.refTimer n, F.refReason n, F.dRefChg, F.servoJrefmask, F.dJumpPend, F.dJref,
    F.dJumpNeg, F.dJumpMag, F.servoJoffsec, F.servoJoffns, F.ptpJumpref (n - 4), FC.jumpRefused.cnt, F.servoGstate, F.dStatState,
    F.dStatErr, F.dCmdDone, F.refCandref, F.refWtrleft, F.dManbad]
  let shown (d : Int) (t : State) : Prop := t.rd F.dJumpPend = 1 ∧ t.rd F.dJumpNeg = b2n (d < 0) ∧
    t.rd F.dJumpMag = min 127 (d.natAbs / 65536 / 256) ∧ t.rdS F.servoJoffsec = satSgn 32 (tdiv d unitsPerSec) ∧
    t.rdS F.servoJoffns = tdiv (d - tdiv d unitsPerSec * unitsPerSec) 65536
  ∀ (n : Fin 10) (s : State), servoRuns s = true → timeRef s n = true → s.refState n = 3 ∨ suspectNow s n = true →
    4 ≤ s.sv.exRun.getD n 0 →
    let d := refOffset s n
    let refused (t : State) : Prop := t.rd (F.refReason n) = 7 ∧ t.st = { s.st with tallyQ := addTally s.st.tallyQ 9 1 } ∧
      Logged .jumpRefused n n s t ∧ bit t.br.due 39 = true ∧
      (4 ≤ n.val → t.rd (F.ptpJumpref (n - 4)) = min (s.rd (F.ptpJumpref (n - 4)) + 1) 65535)
    ((∀ a, s.sv.accepted ≠ some (s.beatcnt, a)) → (s.is F.dAutoconf = false ∨ confirmer s n d = none) →
      ∃ t, exec (.jumpRefused n) s = .next t ∧ refused t ∧ t.refState n = 4 ∧ t.bitOf F.servoJrefmask n = true ∧
        t.rd F.dJref = n ∧ shown d t ∧ (t.ref n).jump = true ∧ Keeps (flds n) [.rf, .st, .flt, .br, .pr, .sv, .bus] s t) ∧
    (∀ m : Nat, (∀ a, s.sv.accepted ≠ some (s.beatcnt, a)) → s.is F.dAutoconf = true → confirmer s n d = some m → s.refState m = 4 →
      ∃ t, exec (.jumpRefused n) s = .next t ∧ refused t ∧ t.refState n = 3 ∧ t.refState m = 3 ∧
        t.bitOf F.servoJrefmask n = false ∧ t.bitOf F.servoJrefmask m = false ∧ t.rd F.dJumpConf = 1 ∧ t.rd F.servoConfref = n ∧
        t.rd F.dSlewing = 1 ∧ t.sv.jslew = true ∧ t.rdS F.servoSlewrem = satSgn 48 (rdiv (d + s.sv.joff.getD m 0) 2) ∧
        Keeps ([F.refState m, F.refTimer m, F.dJumpConf, F.servoConfref, F.servoSlewrem, F.dSlewing] ++ flds n)
          [.rf, .st, .flt, .br, .pr, .sv, .bus] s t) ∧
    (∀ a : Int, s.sv.accepted = some (s.beatcnt, a) →
      ∃ t, exec (.jumpRefused n) s = .next t ∧ refused t ∧
        ((d - a).natAbs ≤ nsU (s.rd F.dThresh) → t.refState n = 3 ∧ t.bitOf F.servoJrefmask n = false) ∧
        (nsU (s.rd F.dThresh) < (d - a).natAbs → t.refState n = 4 ∧ t.bitOf F.servoJrefmask n = true ∧ t.rd F.dJref = n ∧
          shown (d - a) t) ∧
        Keeps (flds n) [.rf, .st, .flt, .br, .pr, .sv, .bus] s t)

/-- While SC forms the servo's results: 64 samples below the threshold take ACQUIRE to LOCKED and 16 above four times it take LOCKED to
ACQUIRE, at the highest bandwidth unless it is frozen or manual, both with CHG; every 64 beats NIN and BWTGT are taken anew and BWCUR moves
toward BWTGT and never past it, holds under BWFRZ or takes BWMAN within its limits; 1,024 clamped beats raise SERVO_LIMIT. A slew ends when
SLEWREM and fslew are 0. A lost thermometer raises THERMO_LOST, holds MQ at 63 or less and clears READY with CHG; a lost C-mode raises
OSC_FAIL, at L3 where its record was clear, and its return ends the live condition. -/
def Obligations.ServoLockBandwidthAndLimits : Prop :=
  (∀ s : State, servoRuns s = true → s.rd F.dServoState = 1 → 64 ≤ s.sv.lockRun →
    ∃ t, exec .servoLock s = .next t ∧ t.rd F.dServoState = 2 ∧ t.rd F.dServoChg = 1 ∧
      t.sv = { s.sv with
        locked := true
        unlockRun := 0 } ∧ Keeps [F.dServoState, F.dServoChg] [.sv] s t) ∧
  (∀ s : State, servoRuns s = true → s.rd F.dServoState = 2 → 16 ≤ s.sv.unlockRun →
    ∃ t, exec .servoUnlock s = .next t ∧ t.rd F.dServoState = 1 ∧ t.rd F.dServoChg = 1 ∧
      t.sv = { s.sv with
        locked := false
        lockRun := 0 } ∧
      t.rd F.servoBwcur = (if s.is F.servoBwfrz || s.is F.servoBwmanual then s.rd F.servoBwcur else bwHi s (inputRef s)) ∧
      Keeps [F.dServoState, F.dServoChg, F.servoBwcur] [.sv] s t) ∧
  (∀ (s : State) (n : Nat), servoRuns s = true → s.sv.input = some n → 64 ≤ s.sv.bwBeats →
    s.rd F.servoBwcur < 2 ^ 32 →
    ∃ t, exec .bandwidthUpdate s = .next t ∧ t.rd F.servoNin = bwNoise s n % 2 ^ 16 ∧ t.rd F.servoBwtgt = bwTarget s n ∧
      t.sv = { s.sv with bwBeats := 0 } ∧
      (s.is F.servoBwmanual = true → t.rd F.servoBwcur = clampNat 100 (bwHi s n) (s.rd F.servoBwman * 100)) ∧
      (s.is F.servoBwmanual = false → s.is F.servoBwfrz = true → t.rd F.servoBwcur = s.rd F.servoBwcur) ∧
      (s.is F.servoBwmanual = false → s.is F.servoBwfrz = false → t.rd F.servoBwcur = bwMove (s.rd F.servoBwcur) (bwTarget s n) ∧
        (s.rd F.servoBwcur ≤ bwTarget s n → s.rd F.servoBwcur ≤ t.rd F.servoBwcur ∧ t.rd F.servoBwcur ≤ bwTarget s n) ∧
        (bwTarget s n ≤ s.rd F.servoBwcur → bwTarget s n ≤ t.rd F.servoBwcur ∧ t.rd F.servoBwcur ≤ s.rd F.servoBwcur)) ∧
      Keeps [F.servoNin, F.servoBwtgt, F.servoBwcur] [.sv] s t) ∧
  (∀ s : State, servoRuns s = true → 1024 ≤ s.sv.clampRun → bit (s.frec .servoLimit).live 0 = false →
    ∃ t, exec .servoLimit s = .next t ∧ Recorded .servoLimit 0 0 s t ∧ Keeps [FC.servoLimit.cnt] [.flt, .br, .pr] s t) ∧
  (∀ s : State, s.powered = true → s.is F.dSlewing = true → s.rd F.servoSlewrem = 0 → s.rd F.servoFslew = 0 →
    ∃ t, exec .slewEnd s = .next t ∧ t.rd F.dSlewing = 0 ∧
      t.sv = { s.sv with
        jslew := false
        lifted := 0 } ∧ Keeps [F.dSlewing] [.sv] s t) ∧
  (∀ (dt : Dt) (s : State), s.powered = true → s.mo.lost = true → bit (s.frec .thermoLost).live 0 = false →
    ∃ t, exec (.thermoLost dt) s = .next t ∧ Recorded .thermoLost 0 0 s t ∧ t.rd F.dMq = min 63 (s.rd F.dMq) ∧ t.rd F.dReady = 0 ∧
      (s.is F.dReady = true → t.rd F.dHoldChg = 1) ∧
      Keeps [FC.thermoLost.cnt, F.dMq, F.dReady, F.dHoldChg] [.flt, .br, .pr] s t) ∧
  (∀ (dt : Dt) (s : State), s.powered = true → s.domOn 1 = true → bit (s.frec .oscFail).live 0 = false →
    ∃ t, exec (.oscFail dt) s = .next t ∧ Recorded .oscFail 0 0 s t ∧
      ((s.frec .oscFail).uncl = false → (t.frec .oscFail).level = 3 ∧ t.flt.l3 ≠ none) ∧
      Keeps [FC.oscFail.cnt] [.flt, .br, .pr] s t) ∧
  (∀ s : State, s.powered = true →
    ∃ t, exec .cModeReturn s = .next t ∧ bit (t.frec .oscFail).live 0 = false ∧ (∀ c, c ≠ .oscFail → t.frec c = s.frec c) ∧
      Keeps [] [.flt] s t)

/-- A fitted second counts in LEARNS, moves every coefficient by its gain times what the target differs from the prediction (the gains and
AGESIG are free values, log 11; RETK only where R191 fits it), gives INNOV where RESID is not 0, and leaves AGET and TAUFIT. Ten high
innovations halve TAUFIT down to 21,600 s, 3,600 small ones multiply it by 2^(1/8) up to 2,592,000 s. MQ is the smaller score, at most 63
while the thermometer is lost; READY rises at 192 and falls below 184. The model copy enters the SRAM; 600 high innovations at the least
TAUFIT raise MODEL_DIVERGE and a HEST beyond HLIMIT raises HOLD_BOUND. A due window opens with WAKE, its event and the settings it keeps; at
its end, no alarm pending, WINCNT counts it, its event is due, HOLDT restarts, and 8 good samples of a qualified SELREF move SLEWREM by
their mean and clear EMPTYWIN; with nothing qualified EMPTYWIN counts, and the second such window makes the unit leave DORMANT. -/
def Obligations.ModelFitQualityAndWakeWindows : Prop :=
  let coeffs : List Fld := [F.servoA 0, F.servoA 1, F.servoA 2, F.servoA 3, F.servoA 4, F.servoA 5, F.servoAgea, F.servoAgeb]
  (∀ (s : State) (p : Int × Int), fitRuns s = true → s.mo.fit = some p →
    let r := rdiv p.2 1024
    let step (c : Fld × Nat) : Nat := fixF64 (f64Fix (s.rd c.1) +
      Config.fitGain (s.rd F.servoTaufit) c.2 (s.freeCount + 1) * r * 2 ^ 80) % 2 ^ 64
    ∃ t, exec .modelFitUpdate s = .next t ∧ t.rd F.servoLearns = min (s.rd F.servoLearns + 1) (2 ^ 32 - 1) ∧ t.mo.fit = none ∧
      t.mo.corr = (r :: s.mo.corr).take 64 ∧ (∀ c ∈ coeffs.zipIdx, t.rd c.1 = step c) ∧
      t.rd F.servoAgesig = (Config.ageSig (s.rd F.servoTaufit) (s.freeCount + 1)).toNat ∧
      t.rd F.servoRetk = (if retkFits s then step (F.servoRetk, 8) else s.rd F.servoRetk) ∧
      (s.rd F.servoResid ≠ 0 → t.rdS F.servoInnov = satSgn 16 (rdiv (256 * r) (s.rd F.servoResid))) ∧
      Keeps ([F.servoAgesig, F.servoRetk, F.servoLearns, F.servoInnov, F.servoResid, F.servoRetnow, F.dRetrace] ++ coeffs)
        [.mo, .freeCount] s t) ∧
  (∀ s : State, s.powered = true → s.is F.servoFitfrz = false →
    (10 ≤ s.mo.runHigh → ∃ t, exec .taufitAdjust s = .next t ∧
      t.rd F.servoTaufit = max 21600 (s.rd F.servoTaufit / 2) % 2 ^ 32 ∧
      t.mo = { s.mo with
        runHigh := 0
        innSq := [] } ∧ Keeps [F.servoTaufit] [.mo] s t) ∧
    (s.mo.runHigh < 10 → tauGrows s = true → ∃ t, exec .taufitAdjust s = .next t ∧
      t.rd F.servoTaufit = min 2592000 (rdiv (s.rd F.servoTaufit * 10905077326652577 : Nat) 10000000000000000).toNat ∧
      (s.rd F.servoTaufit ≤ 2592000 → s.rd F.servoTaufit ≤ t.rd F.servoTaufit) ∧ Keeps [F.servoTaufit] [.mo] s t)) ∧
  (∀ s : State, s.powered = true → 600 ≤ s.mo.runLong →
    ∃ t, exec .modelDiverge s = .next t ∧ Recorded .modelDiverge 0 0 s t ∧ t.mo = { s.mo with runLong := 0 } ∧
      Keeps [FC.modelDiverge.cnt] [.mo, .flt, .br, .pr] s t) ∧
  (∀ s : State, s.powered = true → s.mo.mqDue = true →
    let q := min (if thermoLive s then 63 else 255) (min (min 255 (s.rd F.servoLearns / 1350))
      (255 - min 255 (s.rd F.servoResid * 5000000000000 / 2 ^ 48)))
    ∃ t, exec .mqUpdate s = .next t ∧ t.rd F.dMq = q ∧ t.rd F.servoTscore = min 255 (s.rd F.servoLearns / 1350) ∧
      t.rd F.dReady = (if 192 ≤ q then 1 else if q < 184 then 0 else b2n (s.is F.dReady)) ∧
      t.mo = { s.mo with mqDue := false } ∧ Keeps [F.servoTscore, F.servoRscore, F.dMq, F.dReady, F.dHoldChg] [.mo] s t) ∧
  (∀ s : State, s.powered = true → s.scRuns = true → s.mode ≠ .replay → 3600 ≤ s.mo.copySecs → s.st.store = none →
    ∃ t, exec .modelCopy s = .next t ∧ t.st.shadow.model = some (modelRec s) ∧ t.mo = { s.mo with copySecs := 0 } ∧
      Keeps [] [.mo, .st] s t) ∧
  (∀ s : State, s.powered = true → holding s = true → s.rd F.servoHlimit < s.rd F.servoHest → bit (s.frec .holdBound).live 0 = false →
    ∃ t, exec .holdBound s = .next t ∧ Recorded .holdBound 0 0 s t ∧ Keeps [FC.holdBound.cnt] [.flt, .br, .pr] s t) ∧
  (∀ s : State, wakeDue s = true →
    ∃ u, exec .wakeWindowStart s = .next (domsFollow u) ∧ u.rd F.dWake = 1 ∧ u.br = { s.br with due := s.br.due ||| 2 ^ 34 } ∧
      u.mo.win = some ⟨0, s.rd F.servoWlen * 1024, s.rd F.servoWmeas * 1024, s.rd F.servoWakeset, s.rd F.servoWper, true⟩ ∧ s.sec < u.mo.nextWake ∧
      Keeps [F.dWake, F.servoNextwake] [.br, .mo, .pt] s u) ∧
  (∀ (s : State) (w : WakeWin), s.live = true → s.mode = .dormant → s.mo.win = some w → w.wlen ≤ w.elapsed →
    s.md.exit ≠ some .alarm →
    ∃ u, exec .wakeWindowEnd s = .next (domsFollow u) ∧ u.rd F.dWake = 0 ∧ u.mo.win = none ∧
      u.rd F.servoWincnt = min (s.rd F.servoWincnt + 1) 65535 ∧ u.rd F.servoHoldt = 0 ∧
      u.br = { s.br with due := s.br.due ||| 2 ^ 35 } ∧
      (s.refQual (s.rd F.dSelref) = true → 8 ≤ (goodOf s w).length →
        let delta := rdiv (sumInt (goodOf s w)) (goodOf s w).length
        u.rd F.servoEmptywin = 0 ∧ u.rdS F.servoSlewrem = satSgn 48 (s.rdS F.servoSlewrem + delta) ∧
          u.rdS F.servoLastdelta = satSgn 32 (rdiv delta 65536) ∧ u.md.exit = s.md.exit) ∧
      ((∀ n, s.refQual n = false) → u.rd F.servoEmptywin = min (s.rd F.servoEmptywin + 1) 3 ∧ u.rd F.servoLastdelta = 0 ∧
        (1 ≤ s.rd F.servoEmptywin → u.md.exit = some .empty)))

/-- CKEN set on a setting that passes R210 enables the channel, and where its mode, domain, source and core let it run it locks and its first
edge is due: on source B at the first whole second at least 1 ms away, which SEPOCH then records at that edge; a setting that fails gives
PLANERR its code and CKEN stays 0. A FREQSET commit, or in PROVISION an SRC commit of CK4 to CK7, that passes on a running output is a change,
or waits behind one; the change holds the output low and then resumes it, counted in RANGECNT with its new epoch; one that fails changes
PLANERR alone. An SRC commit on an output that does not run is not checked. Clearing CKEN stops the output and keeps its setting. FMT 3 is
applied as 0, and FMT is a field of CK0 to CK3 alone. -/
def Obligations.ChannelsStartStopAndChange : Prop :=
  (∀ (n : Fin 8) (dt : Dt) (s : State), s.live = true → s.is (F.synCken n) = false →
    let c := planCode n (s.rd (F.synSlew n)) (planNow s n)
    (c ≠ 0 → ∃ t, exec (.channelEnable n dt) s = .next t ∧ t.rd (F.synCken n) = 0 ∧ t.rd (F.synPlanerr n) = c ∧
      Keeps [F.synCken n, F.synPlanerr n] [] s t) ∧
    let ready := srcReady s n && !s.isolated .ckUnlock n && s.domOn 12 &&
      (s.mode.runs || ((s.mode == .provision || s.mode == .safe) && (s.chan n).faulted)) &&
      !chanRunning s n && (s.chan n).start.isNone
    (c = 0 → ready = true →
      ∃ t, exec (.channelEnable n dt) s = .next t ∧ t.rd (F.synCken n) = 1 ∧ t.rd (F.synPlanerr n) = 0 ∧ t.rd (F.synLocked n) = 1 ∧
        (t.chan n).start = some (if s.rd (F.synSrc n) = 0 then startSecond (s.at dt.toNat) else s.at dt.toNat) ∧
        Keeps [F.synCken n, F.synPlanerr n, F.synLocked n] [.sy] s t) ∧
    (c = 0 → ready = false →
      ∃ t, exec (.channelEnable n dt) s = .next t ∧ t.rd (F.synCken n) = 1 ∧ t.rd (F.synPlanerr n) = 0 ∧
        Keeps [F.synCken n, F.synPlanerr n] [] s t)) ∧
  (∀ (n : Fin 8) (s : State) (x : Nat), s.live = true → mayStart s n = true → (s.chan n).start = some x → x ≤ beatEnd s →
    ∃ t, exec (.channelFirstEdge n) s = .next t ∧ t.rd (F.synRunning n) = 1 ∧ (t.chan n).start = none ∧
      t.rd (F.synUnaligned n) = b2n (planNow s n).unaligned ∧
      t.rd (F.synSepoch n) = (if s.rd (F.synSrc n) = 0 then secOf x % 2 ^ 32 else s.rd (F.synSepoch n)) ∧
      Keeps [F.synRunning n, F.synUnaligned n, F.synSepoch n] [.sy] s t) ∧
  (∀ (n : Fin 8) (s : State), s.live = true → s.is (F.synCken n) = true →
    ∃ t, exec (.channelDisable n) s = .next t ∧ t.rd (F.synCken n) = 0 ∧ t.rd (F.synRunning n) = 0 ∧ t.rd (F.synHeld n) = 0 ∧
      t.rd (F.synLocked n) = 0 ∧ chanRunning t n = false ∧ planNow t n = planNow s n ∧ (t.chan n).start = none ∧
      (t.chan n).change = none ∧ Keeps [F.synCken n, F.synRunning n, F.synHeld n, F.synLocked n] [.sy] s t) ∧
  (∀ (n : Fin 8) (v : BitVec 112) (s : State), s.live = true →
    let p := planOf (s.rd (F.synSrc n)) v.toNat
    let c := planCode n (s.rd (F.synSlew n)) p
    (c ≠ 0 → ∃ t, exec (.freqsetCommit n v) s = .next t ∧ t.rd (F.synPlanerr n) = c ∧ Keeps [F.synPlanerr n] [] s t) ∧
    (c = 0 → s.rd (F.synSrc n) < 2 → ∃ t, exec (.freqsetCommit n v) s = .next t ∧ t.rd (F.synPlanerr n) = 0 ∧ planNow t n = p ∧
      (chanRunning s n = true → (s.chan n).change = none → (t.chan n).change = some p) ∧
      (chanRunning s n = true → (s.chan n).change ≠ none →
        (t.chan n).change = (s.chan n).change ∧ (t.chan n).wait = some p) ∧
      (chanRunning s n = false → t.chan n = s.chan n) ∧
      Keeps [F.synPlanerr n, F.synSrc n, F.synInt n, F.synNum n, F.synDen n, F.synOdiv n, F.synFact n] [.sy] s t)) ∧
  (∀ (n : Fin 8) (a : Bool) (s : State), s.live = true →
    let p : Plan := { planNow s n with src := b2n a }
    let c := planCode n (s.rd (F.synSlew n)) p
    (n.val < 4 ∨ b2n a = s.rd (F.synSrc n) ∨ s.mode ≠ .provision → exec (.srcCommit n a) s = .next s) ∧
    (4 ≤ n.val → b2n a ≠ s.rd (F.synSrc n) → s.mode = .provision → chanRunning s n = false →
      ∃ t, exec (.srcCommit n a) s = .next t ∧ t.rd (F.synSrc n) = b2n a ∧ t.rd (F.synPlanerr n) = s.rd (F.synPlanerr n) ∧
        Keeps [F.synSrc n, F.synInt n, F.synNum n, F.synDen n, F.synOdiv n, F.synFact n] [] s t) ∧
    (4 ≤ n.val → b2n a ≠ s.rd (F.synSrc n) → s.mode = .provision → chanRunning s n = true →
      (c = 0 → ∃ t, exec (.srcCommit n a) s = .next t ∧ t.rd (F.synSrc n) = b2n a ∧ t.rd (F.synPlanerr n) = 0 ∧
        ((s.chan n).change = none → (t.chan n).change = some p) ∧
        ((s.chan n).change ≠ none → (t.chan n).change = (s.chan n).change ∧ (t.chan n).wait = some p) ∧
        Keeps [F.synPlanerr n, F.synSrc n, F.synInt n, F.synNum n, F.synDen n, F.synOdiv n, F.synFact n] [.sy] s t) ∧
      (c ≠ 0 → ∃ t, exec (.srcCommit n a) s = .next t ∧ t.rd (F.synPlanerr n) = c ∧ Keeps [F.synPlanerr n] [] s t))) ∧
  (∀ (n : Fin 8) (fmt : BitVec 2) (s : State), s.live = true →
    (n.val < 4 → ∃ t, exec (.fmtChange n fmt) s = .next t ∧ t.rd (F.synFmt n) = (if fmt = 3 then 0 else fmt.toNat) ∧
      Keeps [F.synFmt n] [] s t) ∧
    (4 ≤ n.val → exec (.fmtChange n fmt) s = .next s)) ∧
  (∀ (n : Fin 8) (dt : Dt) (s : State), s.live = true → s.is (F.synRunning n) = true → (s.chan n).change ≠ none →
    ∃ t, exec (.rangeChangeHold n dt) s = .next t ∧ t.rd (F.synRunning n) = 0 ∧ t.rd (F.synHeld n) = 1 ∧
      (t.chan n).hold = some (s.at dt.toNat) ∧ Keeps [F.synRunning n, F.synHeld n] [.sy] s t) ∧
  (∀ (n : Fin 8) (s : State) (p : Plan) (h : Nat), s.live = true → s.is (F.synHeld n) = true → (s.chan n).hold = some h →
    (s.chan n).change = some p → resumeAt p h ≤ beatEnd s →
    ∃ t, exec (.rangeChangeResume n) s = .next t ∧ t.rd (F.synRunning n) = 1 ∧ t.rd (F.synHeld n) = 0 ∧
      t.rd (F.synRangecnt n) = min (s.rd (F.synRangecnt n) + 1) 65535 ∧ (t.chan n).change = (s.chan n).wait ∧
      (t.chan n).hold = none ∧ (p.src = 0 → t.rd (F.synSepoch n) = anchorSec p h % 2 ^ 32) ∧
      Keeps [F.synRunning n, F.synHeld n, F.synRangecnt n, F.synUnaligned n, F.synSepoch n] [.sy] s t)

/-- Loss of A's lock raises SYNA_UNLOCK, sets FALLBACK, squelches each output from A and stops the ramp with ROFF, RDEPTH and the swing at
0; loss of B's raises SYNB_UNLOCK and squelches each output from B, whose relock makes the first edge of the enabled ones due. A channel core
out of lock is squelched and raises CK_UNLOCK, whose return ends it; a word beyond 300 ppm sets BCLAMP, and a ramp beyond its limits RCLAMP,
each with its fault. RAMPLOAD copies SHADOW into ACTIVE and restarts a running profile at its first segment; RAMPEN set makes the start due
unless the unit has fallen back, cleared it begins the return to 0, and after its 1,024 beats the profile stops. -/
def Obligations.ClockFaultsAndRamp : Prop :=
  let outs : List Fld := (List.range 8).flatMap (fun n => [F.synRunning n, F.synHeld n])
  (∀ (dt : Dt) (s : State), s.powered = true → bit (s.frec .synaUnlock).live 0 = false →
    ∃ t, exec (.synaUnlock dt) s = .next t ∧ t.rd F.synAlock = 0 ∧ t.rd F.synFallback = 1 ∧ t.rd F.synRampRunning = 0 ∧
      t.rd F.synRoff = 0 ∧ t.rd F.synRdepth = 0 ∧ t.sy.swing = (0, 0) ∧
      (∀ n, n < 8 → s.rd (F.synSrc n) = 1 → chanRunning t n = false) ∧
      (∀ n, n < 8 → s.rd (F.synSrc n) ≠ 1 → chanRunning t n = chanRunning s n ∧ t.chan n = s.chan n) ∧
      Recorded .synaUnlock 0 0 s t ∧
      Keeps ([F.synAlock, F.synFallback, F.synRampRunning, F.synRoff, F.synRdepth, FC.synaUnlock.cnt] ++ outs) [.sy, .flt, .br, .pr] s t) ∧
  (∀ (dt : Dt) (s : State), s.powered = true → bit (s.frec .synbUnlock).live 0 = false →
    ∃ t, exec (.synbUnlock dt) s = .next t ∧ t.rd F.synBlock = 0 ∧
      (∀ n, n < 8 → s.rd (F.synSrc n) = 0 → chanRunning t n = false) ∧
      (∀ n, n < 8 → s.rd (F.synSrc n) ≠ 0 → chanRunning t n = chanRunning s n ∧ t.chan n = s.chan n) ∧
      Recorded .synbUnlock 0 0 s t ∧ Keeps ([F.synBlock, FC.synbUnlock.cnt] ++ outs) [.sy, .flt, .br, .pr] s t) ∧
  (∀ s : State, s.powered = true → s.domOn 4 = true → s.is F.synBlock = false →
    ∃ t, exec .synbRelock s = .next t ∧ t.rd F.synBlock = 1 ∧ bit (t.frec .synbUnlock).live 0 = false ∧
      (∀ n, n < 8 → s.rd (F.synSrc n) = 0 → s.is (F.synCken n) = true → s.isolated .ckUnlock n = false → s.domOn 12 = true →
        s.mode.runs = true → chanRunning s n = false → (s.chan n).start = none → (t.chan n).start = some (startSecond s.tm.now)) ∧
      Keeps ([F.synBlock] ++ (List.range 8).map F.synLocked) [.sy, .flt] s t) ∧
  (∀ (n : Fin 8) (dt : Dt) (s : State), s.live = true → s.is (F.synCken n) = true → s.is (F.synLocked n) = true →
    bit (s.frec .ckUnlock).live n = false →
    ∃ t, exec (.ckUnlock n dt) s = .next t ∧ t.rd (F.synLocked n) = 0 ∧ chanRunning t n = false ∧ Recorded .ckUnlock n n s t ∧
      Keeps [F.synLocked n, F.synRunning n, F.synHeld n, FC.ckUnlock.cnt] [.sy, .flt, .br, .pr] s t) ∧
  (∀ (n : Fin 8) (s : State), s.live = true → bit (s.frec .ckUnlock).live n = true →
    ∃ t, exec (.ckRelock n) s = .next t ∧ t.rd (F.synLocked n) = 1 ∧ bit (t.frec .ckUnlock).live n = false ∧
      (∀ c, c ≠ .ckUnlock → t.frec c = s.frec c) ∧ Keeps [F.synLocked n] [.flt] s t) ∧
  (∀ (dt : Dt) (s : State), s.live = true → 84442493013 < (s.rdS F.servoFword).natAbs → bit (s.frec .synbRange).live 0 = false →
    ∃ t, exec (.synbRange dt) s = .next t ∧ t.rd F.synBclamp = 1 ∧ Recorded .synbRange 0 0 s t ∧
      Keeps [F.synBclamp, FC.synbRange.cnt] [.flt, .br, .pr] s t) ∧
  (∀ (dt : Dt) (s : State), s.live = true → rampOver s = true → bit (s.frec .rampClamp).live 0 = false →
    ∃ t, exec (.rampClamp dt) s = .next t ∧ t.rd F.synRclamp = 1 ∧ Recorded .rampClamp 0 0 s t ∧
      Keeps [F.synRclamp, FC.rampClamp.cnt] [.flt, .br, .pr] s t) ∧
  (∀ s : State, s.live = true → s.sy.load = true →
    ∃ t, exec .rampLoad s = .next t ∧ t.sy.load = false ∧
      (∀ i, i < 128 → t.rd (F.synActive i) = s.rd (F.synShadow i) % 65536) ∧
      (s.is F.synRampRunning = true → s.sy.stop = none → s.rd (F.synShadow 0) % 4 ≠ 2 →
        t.rd F.synSegnow = 0 ∧ t.rd F.synSegbeats = 0 ∧ t.rd F.synLooppass = 0) ∧
      Keeps ([F.synRampRunning, F.synSegnow, F.synSegbeats, F.synLooppass] ++ (List.range 128).map F.synActive) [.sy] s t) ∧
  (∀ s : State, s.live = true → s.is F.synRampen = false →
    ∃ t, exec .rampEnable s = .next t ∧ t.rd F.synRampen = 1 ∧
      t.sy = (if s.is F.synFallback then s.sy else { s.sy with startPend := true }) ∧ Keeps [F.synRampen] [.sy] s t) ∧
  (∀ s : State, s.live = true → s.is F.synRampen = true →
    ∃ t, exec .rampDisable s = .next t ∧ t.rd F.synRampen = 0 ∧ t.sy.startPend = false ∧
      (s.is F.synRampRunning = true → t.sy.stop = some 0 ∧ t.sy.off0 = s.rdS F.synRoff ∧ t.sy.dep0 = s.rd F.synRdepth) ∧
      (s.is F.synRampRunning = false → t.sy.stop = s.sy.stop) ∧ Keeps [F.synRampen] [.sy] s t) ∧
  (∀ s : State, s.live = true → s.sy.stop = some 1024 →
    ∃ t, exec .rampStop s = .next t ∧ t.rd F.synRampRunning = 0 ∧ t.sy = { s.sy with stop := none } ∧
      Keeps [F.synRampRunning] [.sy] s t)

/-- A Pip newly enabled outside BOOT, PROVISION and SAFE takes the first code of R233 in ARMERR; with none its pin goes to the Pip's idle level
(low in REPLAY) and it is armed for the first edge at or after the strobe that follows, or MISSED where its one START is past. The edge due in
a beat asserts the pin for WIDTH, sets the Pip's bit in PIPSTAT (in its owner's PIPFIRED for a tenant's Pip), fires producer n where BRAMEN
says so outside REPLAY, and a periodic Pip's next edge lies PERIOD later; how late the edge is placed is 0, or up to 8 ns where R438 lets it. A
pulse ends by returning the pin to idle, and a once Pip then disarms; disarming stops the edges and no pulse, and with none in progress the pin
rests at idle. At the start of second LEAPAT with LEAPPEND, UTCOFF moves by 1, LEAPPEND clears, and the offset before is kept. -/
def Obligations.PipsArmFireAndEnd : Prop :=
  (∀ (n : Fin 16) (s : State), s.live = true → pipEn s n = true → bit s.tm.pipPrev n = false → armingWaits s.mode = false →
    ∃ t, exec (.pipArm n) s = .next t ∧ t.rd (F.timePipArmerr n) = armErr s n ∧ bit t.tm.pipPrev n = true ∧
      (armErr s n ≠ 0 → t.rd (F.timePipArmed n) = 0 ∧ t.rd (F.timePipMissed n) = s.rd (F.timePipMissed n)) ∧
      (armErr s n = 0 → pipDrives s n = true →
        (t.tio (pipPin s n)).drive = (s.is (F.timePipPol n) && s.mode != .replay)) ∧
      (armErr s n = 0 → pipPeriodic s n = true → t.rd (F.timePipArmed n) = 1 ∧
        (t.pip n).due = some (firstEdge (pipStart s n) (pipPeriod s n) (nextStrobe s))) ∧
      (armErr s n = 0 → pipPeriodic s n = false → nextStrobe s ≤ pipStart s n →
        t.rd (F.timePipArmed n) = 1 ∧ (t.pip n).due = some (pipStart s n)) ∧
      (armErr s n = 0 → pipPeriodic s n = false → pipStart s n < nextStrobe s →
        t.rd (F.timePipArmed n) = 0 ∧ t.rd (F.timePipMissed n) = 1 ∧ (t.pip n).due = none) ∧
      Keeps [F.timePipArmerr n, F.timePipArmed n, F.timePipMissed n] [.tm] s t) ∧
  (∀ (n : Fin 16) (s : State), s.live = true → pipEn s n = false → bit s.tm.pipPrev n = true →
    ∃ t, exec (.pipDisarm n) s = .next t ∧ t.rd (F.timePipArmed n) = 0 ∧ (t.pip n).due = none ∧ (t.pip n).pulse = (s.pip n).pulse ∧
      (∀ p pol, (s.pip n).out = some (p, pol) → (s.pip n).pulse = none → (t.tio p).drive = pol) ∧
      Keeps [F.timePipArmed n] [.tm] s t) ∧
  (∀ (n : Fin 16) (late : BitVec 20) (s : State) (x : Nat), s.live = true → (s.pip n).due = some x → s.is (F.timePipArmed n) = true →
    s.tm.now ≤ x → x < nextStrobe s →
    ∃ t, exec (.pipEdge n late) s = .next t ∧ (t.pip n).due = (if pipPeriodic s n then some (x + pipPeriod s n) else none) ∧
      (t.pip n).pulse = some (x + edgeLate s n x late.toNat + pipWidth s n) ∧
      (t.pip n).placed = some (place125 (x + edgeLate s n x late.toNat)) ∧
      (∀ p pol, (s.pip n).out = some (p, pol) → (t.tio p).drive = (!pol && s.mode != .replay)) ∧
      t.br = (if s.is (F.timePipBramen n) && s.mode != .replay then { s.br with due := s.br.due ||| 2 ^ n.val } else s.br) ∧
      (s.owner 0 n = 0 → t.bitOf F.dPipstat n = true ∧ Keeps [F.dPipstat] [.tm, .br] s t) ∧
      (∀ k, k < 4 → s.owner 0 n = k + 1 → t.bitOf (F.tvPipfired k) n = true ∧
        Keeps [F.tvPipfired k] [.tm, .br, .en, .tn, .freeCount] s t)) ∧
  (∀ (n : Fin 16) (s : State) (x : Nat), s.live = true → (s.pip n).pulse = some x → x < nextStrobe s →
    ∃ t, exec (.pipPulseEnd n) s = .next t ∧ (t.pip n).pulse = none ∧
      (∀ p pol, (s.pip n).out = some (p, pol) →
        (t.tio p).drive = (pol && !(s.mode == .replay && t.is (F.timePipArmed n)))) ∧
      t.rd (F.timePipArmed n) = (if (s.pip n).due.isNone then 0 else s.rd (F.timePipArmed n)) ∧
      Keeps (F.timePipArmed n :: (s.pip n).out.toList.map (fun o => F.timeTioSlew o.1)) [.tm] s t) ∧
  (∀ s : State, s.powered = true → s.tm.running = true → leapDue s = true → -30000 < s.rdS F.timeUtcoff → s.rdS F.timeUtcoff < 30000 →
    ∃ t, exec .leapSecond s = .next t ∧ t.rdS F.timeUtcoff = s.rdS F.timeUtcoff + (if s.is F.timeLeapdir then -1 else 1) ∧
      t.rd F.timeLeappend = 0 ∧ t.tm = { s.tm with leapOld := some (s.rd F.timeLeapat, s.rdS F.timeUtcoff) } ∧
      Keeps [F.timeUtcoff, F.timeLeappend] [.tm] s t)

/-- An edge whose level holds long enough for the pin's filter, and that a capture of the custodian takes, is queued with its flags where
the queue has room; a full queue sets OVF and counts in LOSTCNT, and an edge within 8 ns of the last only counts there. A head read by its
owner removes the oldest entry and snaps it, entry 0 of an empty queue; an edge handled in the read's own cycle is accepted after it, so it
is not lost to a full queue. While the carrier's pins are released the read is abandoned, the host's with its count. A pin's word sets DIR,
OUTSRC, SLEW and GLITCH within its limits, a change of DIR or OUTSRC with the drive low, but on a pin that an armed Pip drives DIR and OUTSRC
stay, WRBUSY shows the attempt and SLEW waits. TIO_SHORT is raised for a driven pin and ends; a consumer's pulse ends low. -/
def Obligations.CapturesAndTioPins : Prop :=
  (∀ (n : Fin 16) (fall : Bool) (hold : BitVec 16) (dt : Dt) (sub : BitVec 17) (s : State), s.live = true → capsRun s.mode = true →
    s.rd (F.timeCapSrc n) < 16 → tioInput s (s.rd (F.timeCapSrc n)) = true → capSrcErr s n = false →
    edgeSel (s.rd (F.timeCapEdge n)) fall = true → s.owner 1 n = 0 →
    let x := s.at dt.toNat + sub.toNat % unitsPerEdge
    let near := ∃ p, (s.cap n).lastEdge = some p ∧ x - p < 8 * 65536 ∧ p - x < 8 * 65536
    let coarse := !s.domOn 2 || s.calItem == some (0x26 + n.val) || s.tdcOut (6 + n)
    let passes := tioPasses s (s.rd (F.timeCapSrc n)) hold.toNat
    (passes = false → exec (.captureEdge n fall dt sub hold) s = .next s) ∧
    (passes = true → near → ∃ t, exec (.captureEdge n fall dt sub hold) s = .next t ∧
      t.rd (F.timeCapLostcnt n) = min (s.rd (F.timeCapLostcnt n) + 1) 65535 ∧ t.cap n = s.cap n ∧
      Keeps [F.timeCapLostcnt n] [.tm] s t) ∧
    (passes = true → ¬ near → (s.cap n).queue.length < 16 →
      ∃ t, exec (.captureEdge n fall dt sub hold) s = .next t ∧
        (t.cap n).queue = (s.cap n).queue ++ [capEntry (if coarse then coarsen s x else x) fall coarse s.untraced (s.cap n).after] ∧
        (t.cap n).lastEdge = some x ∧ Keeps [] [.tm] s t) ∧
    (passes = true → ¬ near → 16 ≤ (s.cap n).queue.length →
      ∃ t, exec (.captureEdge n fall dt sub hold) s = .next t ∧ t.rd (F.timeCapOvf n) = 1 ∧
        t.rd (F.timeCapLostcnt n) = min (s.rd (F.timeCapLostcnt n) + 1) 65535 ∧ (t.cap n).queue = (s.cap n).queue ∧
        Keeps [F.timeCapOvf n, F.timeCapLostcnt n] [.tm] s t)) ∧
  (∀ (n : Fin 16) (k : Fin 5) (dt : Dt) (s : State), s.live = true → s.owner 1 n = k.val →
    let same := capSame s n (s.at dt.toNat)
    let before := (same.map (fun r => r.2.1)).getD (s.cap n).queue
    (s.pw.auxLow = false →
      ∃ t, exec (.captureHeadRead n k dt) s = .next t ∧
        (t.cap n).queue = before.tail ++ (same.map (fun r => r.1)).toList ∧
        (t.bus.win.getD (agentOf k) {}).snap = some ⟨4, 0x408 + 0x10 * n.val, 8, before.headD 0⟩ ∧
        (k.val = 0 → t.bus.rdata = some (BitVec.ofNat 16 (before.headD 0 / 2 ^ 112))) ∧
        (same = none → Keeps [] [.tm, .bus] s t) ∧
        (∀ r, same = some r → 16 ≤ before.length →
          t.rd (F.timeCapOvf n) = r.2.2.1 % 2 ∧ t.rd (F.timeCapLostcnt n) = r.2.2.2 % 65536) ∧
        Keeps [F.timeCapOvf n, F.timeCapLostcnt n] [.tm, .bus, .en, .tn] s t) ∧
    (s.pw.auxLow = true → k.val = 0 →
      ∃ t, exec (.captureHeadRead n k dt) s = .next t ∧ t.rd F.sysHbabandon = min (s.rd F.sysHbabandon + 1) 65535 ∧
        Keeps [F.sysHbabandon] [] s t) ∧
    (s.pw.auxLow = true → k.val ≠ 0 → exec (.captureHeadRead n k dt) s = .next s)) ∧
  (∀ (n : Fin 16) (w : Word) (s : State), s.live = true →
    let dir := if w.toNat % 4 = 3 then 0 else w.toNat % 4
    let src := bits w.toNat 13 1
    (armedOn s n = none →
      ∃ t, exec (.tioConfig n w) s = .next t ∧ t.rd (F.timeTioDir n) = dir ∧ t.rd (F.timeTioOutsrc n) = src ∧
        t.rd (F.timeTioSlew n) = bits w.toNat 2 2 ∧ t.rd (F.timeTioGlitch n) = clampNat 1 500 (bits w.toNat 4 9) ∧
        (dir ≠ s.rd (F.timeTioDir n) ∨ src ≠ s.rd (F.timeTioOutsrc n) → (t.tio n).drive = false) ∧
        Keeps [F.timeTioDir n, F.timeTioOutsrc n, F.timeTioSlew n, F.timeTioGlitch n] [.tm] s t) ∧
    (∀ m, armedOn s n = some m →
      ∃ t, exec (.tioConfig n w) s = .next t ∧ t.rd (F.timeTioGlitch n) = clampNat 1 500 (bits w.toNat 4 9) ∧
        (dir ≠ s.rd (F.timeTioDir n) ∨ src ≠ s.rd (F.timeTioOutsrc n) → t.rd (F.timePipWrbusy m) = 1) ∧
        (bits w.toNat 2 2 ≠ s.rd (F.timeTioSlew n) → (t.tio n).slewNext = some (bits w.toNat 2 2)) ∧
        Keeps [F.timeTioGlitch n, F.timePipWrbusy m] [.tm] s t)) ∧
  (∀ (n : Fin 16) (dt : Dt) (s : State), s.live = true → tioDriven s n = true → bit (s.frec .tioShort).live n = false →
    ∃ t, exec (.tioShort n dt) s = .next t ∧ Recorded .tioShort n n s t ∧ Keeps [FC.tioShort.cnt] [.flt, .br, .pr] s t) ∧
  (∀ (n : Fin 16) (s : State), s.live = true →
    ∃ t, exec (.tioShortEnd n) s = .next t ∧ bit (t.frec .tioShort).live n = false ∧ (∀ c, c ≠ .tioShort → t.frec c = s.frec c) ∧
      Keeps [] [.flt] s t) ∧
  (∀ (n : Fin 16) (s : State), s.live = true → (s.tio n).pulse ≠ none →
    ∃ t, exec (.tioPulseEnd n) s = .next t ∧ (t.tio n).drive = false ∧ (t.tio n).pulse = none ∧ (t.tio n).slewNext = none ∧
      t.rd (F.timeTioSlew n) = ((s.tio n).slewNext.map (· % 4)).getD (s.rd (F.timeTioSlew n)) ∧
      Keeps [F.timeTioSlew n] [.tm] s t)

/-- An inserted transceiver sets SFPPRES; an unsupported one leaves SFPOK 0 and raises SFP_UNSUPPORTED, a supported one sets SFPOK and a
recognised one gives its latencies. A diagnostics read gives its five readings, alarms and warnings, and stalls an up link for the beat. A link
that comes up shows its speed; one that is lost empties its queues, removes its learned addresses and raises LINK_DOWN, which PEN and a
domain's turn-off do not. TX_FAULT and a PHY that does not answer take the port out of service; a retrain drops the spur's link; the
common-mode hold is shown and counted once. -/
def Obligations.PortsLinksAndTransceivers : Prop :=
  let lost (n : Nat) : List Fld := [F.portLink n, F.portSpeed n, F.portFlushdrop n, F.portAtcount, F.portTxabort n, F.portCterr (1 - n),
    F.portPirqstat n, F.portLinkdowns n, F.portEqstate 2]
  let diag (n : Nat) : List Fld := [F.portDtemp n, F.portDvcc n, F.portDbias n, F.portDtxpwr n, F.portDrxpwr n, F.portDalarm n,
    F.portDwarn n, F.portPirqstat n, FC.sfpAlarm.cnt]
  (∀ (n : Fin 2) (a0 a2 : List (BitVec 8)) (dt : Dt) (s : State), s.live = true → s.domOn (portDom n) = true →
    (sfpLayer (s.rd (F.portPmode n)) a0 = 0 → bit (s.frec .sfpUnsupported).live n = false →
      ∃ t, exec (.sfpInsert n a0 a2 dt) s = .next t ∧ t.rd (F.portSfppres n) = 1 ∧ t.rd (F.portSfpok n) = 0 ∧
        bit (t.rd (F.portPirqstat n)) 1 = true ∧ Recorded .sfpUnsupported n n s t ∧
        Keeps [F.portSfppres n, F.portSfpok n, F.portPirqstat n, FC.sfpUnsupported.cnt] [.po, .flt, .br, .pr] s t) ∧
    (sfpLayer (s.rd (F.portPmode n)) a0 ≠ 0 →
      ∃ t, exec (.sfpInsert n a0 a2 dt) s = .next t ∧ t.rd (F.portSfppres n) = 1 ∧ t.rd (F.portSfpok n) = 1 ∧
        bit (t.frec .sfpUnsupported).live n = false ∧ (t.port n).layer = sfpLayer (s.rd (F.portPmode n)) a0 ∧
        (∀ x r, sfpLat a0 = some (x, r) → t.rd (F.portTxlat n) = x ∧ t.rd (F.portRxlat n) = r ∧ t.rd (F.portLatauto n) = 1) ∧
        (sfpLat a0 = none → t.rd (F.portLatauto n) = 0 ∧ t.rd (F.portTxlat n) = s.rd (F.portTxlat n)) ∧
        Keeps ([F.portSfppres n, F.portSfpok n, F.portTxlat n, F.portRxlat n, F.portLatauto n] ++ diag n) [.po, .flt, .br, .pr] s t)) ∧
  (∀ (n : Fin 2) (inTx : Bool) (dt : Dt) (s : State), s.live = true → s.is (F.portSfppres n) = true →
    ∃ t, exec (.sfpRemove n inTx dt) s = .next t ∧ t.rd (F.portSfppres n) = 0 ∧ t.rd (F.portSfpok n) = 0 ∧ t.rd (F.portLatauto n) = 0 ∧
      t.rd (F.portLos n) = 1 ∧ t.rd (F.portTxfault n) = 0 ∧ t.is (F.portLink n) = false ∧ bit (t.frec .sfpTxfault).live n = false ∧
      Keeps ([F.portSfppres n, F.portSfpok n, F.portLatauto n, F.portLos n, F.portTxfault n, FC.linkDown.cnt] ++ lost n)
        [.po, .flt, .br, .pr] s t) ∧
  (∀ (n : Fin 2) (dt : Dt) (s : State), s.live = true → s.domOn (portDom n) = true → s.is (F.portSfppres n) = true →
    bit (s.frec .sfpTxfault).live n = false → (s.frec .sfpTxfault).uncl = false →
    ∃ t, exec (.sfpTxfault n dt) s = .next t ∧ t.rd (F.portTxfault n) = 1 ∧ t.is (F.portLink n) = false ∧ portIsol t n = true ∧
      bit (t.frec .sfpTxfault).live n = true ∧
      Keeps ([F.portTxfault n, FC.sfpTxfault.cnt, FC.linkDown.cnt] ++ lost n) [.po, .flt, .br, .pr] s t) ∧
  (∀ (n : Fin 2) (s : State), s.live = true → s.is (F.portTxfault n) = true →
    ∃ t, exec (.sfpTxfaultClear n) s = .next t ∧ t.rd (F.portTxfault n) = 0 ∧ bit (t.frec .sfpTxfault).live n = false ∧
      Keeps [F.portTxfault n] [.flt] s t) ∧
  (∀ (n : Fin 2) (a2 : List (BitVec 8)) (dt : Dt) (s : State), s.live = true → s.domOn (portDom n) = true →
    s.is (F.portSfppres n) = true → hasDiag (s.port n).a0 = true → s.po.diagBeat ≠ some s.beatcnt → (s.port n).diagNow = true →
    ∃ t, exec (.sfpDiagRead n a2 dt) s = .next t ∧ t.rd (F.portDalarm n) = pw16 a2 112 % 65536 ∧
      t.rd (F.portDwarn n) = pw16 a2 116 % 65536 ∧
      (let v := diagVals (s.port n).a0 a2
       t.rdS (F.portDtemp n) = satSgn 16 (v.getD 0 0) ∧ t.rd (F.portDvcc n) = satNat 16 (v.getD 1 0) ∧
        t.rd (F.portDbias n) = satNat 16 (v.getD 2 0) ∧ t.rd (F.portDtxpwr n) = satNat 16 (v.getD 3 0) ∧
        t.rd (F.portDrxpwr n) = satNat 16 (v.getD 4 0)) ∧ (t.port n).diagNow = false ∧
      (t.port n).stalled = s.is (F.portLink n) ∧
      t.rd (F.portTsstall n) = (if s.is (F.portLink n) then min (s.rd (F.portTsstall n) + 1) 65535 else s.rd (F.portTsstall n)) ∧
      bit (t.frec .sfpAlarm).live n = decide (pw16 a2 112 ≠ 0) ∧ Keeps ([F.portTsstall n] ++ diag n) [.po, .flt, .br, .pr] s t) ∧
  (∀ (n : Fin 2) (s : State), s.live = true → s.po.diagBeat ≠ some s.beatcnt →
    ∃ t, exec (.diagnow n) s = .next t ∧ t.port n = { s.port n with diagNow := true } ∧ Keeps [] [.po] s t) ∧
  (∀ (n : Fin 4) (s : State), s.live = true → portReady s n = true → s.is (F.portLink n) = false →
    ∃ t, exec (.linkUp n) s = .next t ∧ t.rd (F.portLink n) = 1 ∧ t.rd (F.portSpeed n) = speedOf s n ∧ t.rd (F.portLos n) = 0 ∧
      bit (t.rd (F.portPirqstat n)) 0 = true ∧ bit (t.frec .linkDown).live n = false ∧ t.br = { s.br with due := s.br.due ||| 2 ^ 44 } ∧
      Keeps [F.portLink n, F.portSpeed n, F.portLos n, F.portPirqstat n, F.portEqstate 2] [.po, .flt, .br] s t) ∧
  (∀ (n : Fin 4) (inTx cut : Bool) (dt : Dt) (s : State), s.live = true → s.is (F.portLink n) = true →
    bit (s.frec .linkDown).live n = false →
    ∃ t, exec (.linkDown n inTx cut dt) s = .next t ∧ t.rd (F.portLink n) = 0 ∧ t.rd (F.portSpeed n) = 0 ∧ t.rd (F.portLos n) = 1 ∧
      (t.port n).queues = [] ∧ t.po.addrs = s.po.addrs.filter (fun a => a.port != n.val) ∧
      t.rd (F.portTxabort n) = (if inTx then min (s.rd (F.portTxabort n) + 1) 65535 else s.rd (F.portTxabort n)) ∧
      t.rd (F.portLinkdowns n) = min (s.rd (F.portLinkdowns n) + 1) 65535 ∧ Logged .linkDown n n s t ∧
      Keeps ([F.portLos n, FC.linkDown.cnt] ++ lost n) [.po, .flt, .br, .pr] s t) ∧
  (∀ (n : Fin 4) (s : State), s.powered = true → s.is (F.portPen n) = false ∨ s.domOn (portDom n) = false → s.is (F.portLink n) = true →
    ∃ t, exec (.portDisable n) s = .next t ∧ t.rd (F.portLink n) = 0 ∧ (t.port n).queues = [] ∧ bit (t.frec .linkDown).live n = false ∧
      (∀ c, c ≠ .linkDown → t.frec c = s.frec c) ∧ Keeps (lost n) [.po, .flt, .br] s t) ∧
  (∀ (v : BitVec 16) (s : State), s.live = true → s.domOn 9 = true → 50 < v.toNat →
    ∃ t, exec (.cmholdStart v) s = .next t ∧ t.is (F.portCmhold 2) = true ∧
      t.rd (F.portCmpeak 2) = max (s.rd (F.portCmpeak 2)) v.toNat % 65536 ∧
      (s.is (F.portCmhold 2) = false → t.rd (F.portCmholdcnt 2) = min (s.rd (F.portCmholdcnt 2) + 1) 65535) ∧
      (s.is (F.portCmhold 2) = true → t.rd (F.portCmholdcnt 2) = s.rd (F.portCmholdcnt 2)) ∧
      (s.is (F.portLink 2) = true → t.rd (F.portEqstate 2) = if s.is (F.portEqfrz 2) then 4 else 3) ∧
      Keeps [F.portCmhold 2, F.portCmpeak 2, F.portCmholdcnt 2, F.portEqstate 2] [] s t) ∧
  (∀ s : State, s.live = true → s.is (F.portCmhold 2) = true →
    ∃ t, exec .cmholdEnd s = .next t ∧ t.rd (F.portCmhold 2) = 0 ∧
      (s.is (F.portLink 2) = true → t.rd (F.portEqstate 2) = if s.is (F.portEqfrz 2) then 4 else 2) ∧
      Keeps [F.portCmhold 2, F.portEqstate 2] [] s t) ∧
  (∀ (inTx : Bool) (dt : Dt) (s : State), s.live = true → s.is (F.portLink 2) = true → 4 < (s.port 2).bad →
    ∃ t, exec (.t1lRetrain inTx dt) s = .next t ∧ t.rd (F.portLink 2) = 0 ∧ t.rd (F.portEqstate 2) = 1 ∧ (t.port 2).training = true ∧
      t.rd (F.portRetrains 2) = min (s.rd (F.portRetrains 2) + 1) 65535 ∧ (t.frec .t1lRetrain).uncl = true ∧
      Keeps ([F.portRetrains 2, FC.linkDown.cnt, FC.t1lRetrain.cnt] ++ lost 2) [.po, .flt, .br, .pr] s t) ∧
  (∀ (n : Fin 4) (inTx : Bool) (dt : Dt) (s : State), s.live = true → s.domOn (portDom n) = true →
    bit (s.frec .phyFail).live n = false → (s.frec .phyFail).uncl = false →
    ∃ t, exec (.phyFail n inTx dt) s = .next t ∧ t.is (F.portLink n) = false ∧ portIsol t n = true ∧
      Keeps ([FC.phyFail.cnt, FC.linkDown.cnt] ++ lost n) [.po, .flt, .br, .pr] s t) ∧
  (∀ (n : Fin 4) (s : State), s.powered = true →
    ∃ t, exec (.phyManagementReturn n) s = .next t ∧ bit (t.frec .phyFail).live n = false ∧ (∀ c, c ≠ .phyFail → t.frec c = s.frec c) ∧
      Keeps [] [.flt] s t)

/-- A frame with a bad FCS counts in RXFCS, one of wrong size in RXSIZE, a PAUSE frame in PAUSEDROP, one outside every VLAN in VLANDROP, and
none of them is queued or learned; one that the packet memory has spoilt raises FMEM_UE. Whatever frame is received, a queue gains only frames of a VLAN that has its port as a
member, and never on the port of arrival. The transmitter takes TQ first, then TC3 to TC0. Ageing and FLUSH remove just the addresses they name;
a VLAN entry is written whole, or refused with VLANERR where it would mix owners. -/
def Obligations.BridgeForwardsInsideVlans : Prop :=
  (∀ (n : Fin 4) (f : FrameIn) (dt : Dt) (s : State), s.live = true → s.domOn 6 = true → s.is (F.portLink n) = true →
    let p := parseFrame (f.bytes.take (f.bytes.length - 4))
    let size := 64 ≤ f.bytes.length ∧ f.bytes.length ≤ 1536
    (f.fcsOk = false → s.is (F.portCutthru 0) = false →
      ∃ t, exec (.frameReceive n f dt) s = .next t ∧ t.rd (F.portRxfcs n) = min (s.rd (F.portRxfcs n) + 1) 65535 ∧ t.po = s.po ∧
        Keeps [F.portRxfcs n, F.portFmemce] [] s t) ∧
    (f.fcsOk = false → s.is (F.portCutthru 0) = true →
      ∃ t, exec (.frameReceive n f dt) s = .next t ∧ t.rd (F.portRxfcs n) = min (s.rd (F.portRxfcs n) + 1) 65535 ∧
        (t.port n).queues = (s.port n).queues ∧ t.po.addrs = s.po.addrs ∧ Keeps [F.portRxfcs n, F.portFmemce, F.portCterr n] [.po] s t) ∧
    (f.fcsOk = true → ¬ size →
      ∃ t, exec (.frameReceive n f dt) s = .next t ∧ t.rd (F.portRxsize n) = min (s.rd (F.portRxsize n) + 1) 65535 ∧
        Keeps [F.portRxsize n, F.portFmemce] [] s t) ∧
    (f.fcsOk = true → size → f.ue = true →
      ∃ t, exec (.frameReceive n f dt) s = .next t ∧ Recorded .fmemUe 0 0 s t ∧
        Keeps [F.portRxok n, F.portFmemce, FC.fmemUe.cnt] [.flt, .br, .pr] s t) ∧
    (f.fcsOk = true → size → f.ue = false → isPause p = true →
      ∃ t, exec (.frameReceive n f dt) s = .next t ∧ t.rd (F.portPausedrop n) = min (s.rd (F.portPausedrop n) + 1) 65535 ∧
        Keeps [F.portRxok n, F.portPausedrop n, F.portFmemce] [] s t) ∧
    (f.fcsOk = true → size → f.ue = false → isPause p = false → reserved p.dst = false → isPtp p = false →
      vlanOf s (frameVid s n p.tag).1 = none →
      ∃ t, exec (.frameReceive n f dt) s = .next t ∧ t.rd (F.portVlandrop n) = min (s.rd (F.portVlandrop n) + 1) 65535 ∧
        t.rd (F.portRxok n) = min (s.rd (F.portRxok n) + 1) (2 ^ 32 - 1) ∧
        Keeps [F.portRxok n, F.portVlandrop n, F.portFmemce] [] s t) ∧
    (∃ t, exec (.frameReceive n f dt) s = .next t ∧
      ∀ (q c : Nat) (g : Frame), q < 4 → g ∈ t.queue q c → g ∉ s.queue q c →
        q ≠ n.val ∧ bit (s.rd (F.portMember g.entry)) q = true ∧ s.is (F.portValid g.entry) = true)) ∧
  (∀ (n : Fin 4) (q : Nat) (f : Frame) (l : List Frame) (s : State), s.live = true → s.domOn 6 = true → s.is (F.portLink n) = true →
    q < 5 → s.queue n q = f :: l → (∀ r, q < r → r < 5 → s.queue n r = []) →
    ∃ t, exec (.frameTransmitStart n) s = .next t ∧ t.queue n q = l ∧ (∀ r, r ≠ q → t.queue n r = s.queue n r) ∧
      (q < 4 → (t.port n).tx = egressBytes s n f) ∧ t.rd (F.portTxok n) = min (s.rd (F.portTxok n) + 1) (2 ^ 32 - 1) ∧
      Keeps [F.portTxok n] [.po] s t) ∧
  (∀ (mac : BitVec 48) (v : Fin 64) (a : Addr) (s : State), s.live = true → s.domOn 6 = true → addrOf s mac.toNat v = some a →
    s.rd F.portAgetime ≠ 0 → a.seen + 1024 * s.rd F.portAgetime ≤ s.beatcnt →
    ∃ t, exec (.addressAgeOut mac v) s = .next t ∧ addrOf t mac.toNat v = none ∧
      (∀ m u, ¬ (m = mac.toNat ∧ u = v.val) → addrOf t m u = addrOf s m u) ∧ Keeps [F.portAtcount] [.po] s t) ∧
  (∀ (mask : BitVec 4) (s : State), s.live = true →
    ∃ t, exec (.flushAddresses mask) s = .next t ∧
      t.po.addrs = s.po.addrs.filter (fun a => !(decide (a.port < 4) && bit mask.toNat a.port)) ∧
      Keeps [F.portAtcount] [.po] s t) ∧
  (∀ (v : Fin 64) (w : BitVec 64) (s : State), s.live = true →
    (vlanMixes s v w.toNat = true →
      ∃ t, exec (.vlanCommit v w) s = .next t ∧ t.rd F.tenVlanerr = 1 ∧ Keeps [F.tenVlanerr] [] s t) ∧
    (vlanMixes s v w.toNat = false →
      ∃ t, exec (.vlanCommit v w) s = .next t ∧ t.rd (F.portVid v) = bits w.toNat 48 12 ∧ t.rd (F.portValid v) = bits w.toNat 63 1 ∧
        t.rd (F.portMember v) = bits w.toNat 32 4 ∧ t.rd (F.portUntag v) = bits w.toNat 16 4 ∧
        t.rd (F.portVowner v) = min 4 (w.toNat % 8) ∧
        Keeps [F.portVid v, F.portValid v, F.portMember v, F.portUntag v, F.portVowner v] [] s t))

/-- A message of the unit's domain that R281 does not admit, or that arrives while the packet core is stopped for a reload (log 103), counts
in the drop counter of its class with the DROP bit of PTPIRQSTAT, and nothing else happens. An admitted one-step Sync from the parent of a
following port gives the offset t2 − t1 − delay − corrections, with ASYM, and so does a two-step Sync that meets its held Follow_Up or a
Follow_Up that meets its held Sync; another two-step Sync waits, and a Sync of another sender is only counted. A Delay_Resp, a one-step
Pdelay_Resp and a Pdelay_Resp_Follow_Up to the unit's own request give MPD. An admitted Announce of another clock joins the foreign masters
before the BMCA runs; a Follow_Up held for more than a beat goes. -/
def Obligations.BudgetAndOffsetSamples : Prop :=
  let cnt (s t : State) : Prop := t.pt.admE = s.pt.admE + 1 ∧ t.pt.admG = s.pt.admG
  let out (s : State) (event : Bool) (c n : Nat) : Prop := s.pcRuns = false ∨ admits s event c n = false
  let drop (n c : Nat) (s t : State) : Prop := t.rd (F.ptpDrop n (c - 1)) = min (s.rd (F.ptpDrop n (c - 1)) + 1) 65535 ∧
    bit (t.rd (F.ptpIrqstat n)) 2 = true ∧ t.pt = { s.pt with dropPort := t.pt.dropPort } ∧
    Keeps [F.ptpDrop n (c - 1), F.ptpIrqstat n] [.pt] s t
  (∀ (n : Fin 4) (m : PtpMsg) (dt : Dt) (sub : BitVec 17) (s : State), ptpMine s n m = true → clkType s ≠ 3 →
    (out s true (syncClass s n m) n → ∃ t, exec (.ptpSyncRx n m dt sub) s = .next t ∧ drop n (syncClass s n m) s t) ∧
    (s.pcRuns = true → syncClass s n m = 4 → admits s true 4 n = true →
      ∃ t, exec (.ptpSyncRx n m dt sub) s = .next t ∧ cnt s t ∧ Keeps [] [.pt] s t) ∧
    (s.pcRuns = true → admits s true 1 n = true → following s n = true → fromParent s n m = true → (s.port n).stalled = false →
      (m.twoStep = false → ∀ d, pathDelay s n = some d →
        let off := (rxInstant s n dt sub : Int) - originOf m - d - m.corr.toInt - asymU s n
        ∃ t, exec (.ptpSyncRx n m dt sub) s = .next t ∧ t.rdS (F.ptpOffset n) = satSgn 48 off ∧ cnt s t ∧
          (t.ptp n).nsamp = (s.ptp n).nsamp + 1 ∧
          (s.is (F.refEnable (n.val + 4)) = true → s.mode ≠ .replay →
            (t.ref (n.val + 4)).samp = some (-off) ∧ (t.ref (n.val + 4)).fresh = true) ∧
          Keeps [F.ptpOffset n, F.refFoff (n.val + 4)] [.pt, .rf] s t) ∧
      (∀ h d, m.twoStep = true → (s.ptp n).fup = some h → h.seq = m.seq.toNat → pathDelay s n = some d →
        ∃ t, exec (.ptpSyncRx n m dt sub) s = .next t ∧ cnt s t ∧ (t.ptp n).fup = none ∧
          t.rdS (F.ptpOffset n) =
            satSgn 48 ((rxInstant s n dt sub : Int) - h.t - d - (h.corr + m.corr.toInt) - asymU s n) ∧
          Keeps [F.ptpOffset n, F.refFoff (n.val + 4)] [.pt, .rf] s t) ∧
      (m.twoStep = true → (∀ h, (s.ptp n).fup = some h → h.seq ≠ m.seq.toNat) →
        ∃ t, exec (.ptpSyncRx n m dt sub) s = .next t ∧ cnt s t ∧
          (t.ptp n).sync = some ⟨m.seq.toNat, rxInstant s n dt sub, m.corr.toInt, s.beatcnt⟩ ∧ Keeps [] [.pt, .rf] s t))) ∧
  (∀ (n : Fin 4) (m : PtpMsg) (s : State), ptpMine s n m = true → clkType s ≠ 3 →
    (out s false (syncClass s n m) n → ∃ t, exec (.ptpFollowUpRx n m) s = .next t ∧ drop n (syncClass s n m) s t) ∧
    (∀ h d, s.pcRuns = true → admits s false 1 n = true → following s n = true → fromParent s n m = true →
      (s.ptp n).sync = some h → h.seq = m.seq.toNat → pathDelay s n = some d →
      ∃ t, exec (.ptpFollowUpRx n m) s = .next t ∧
        t.rdS (F.ptpOffset n) = satSgn 48 (h.t - originOf m - d - (h.corr + m.corr.toInt) - asymU s n) ∧
        (t.ptp n).sync = none ∧ t.pt.admG = s.pt.admG + 1 ∧
        Keeps [F.ptpOffset n, F.refFoff (n.val + 4)] [.pt, .rf] s t)) ∧
  (∀ (n : Fin 4) (m : PtpMsg) (s : State), ptpMine s n m = true → clkType s ≠ 3 →
    let c := if s.rd (F.ptpMech n) == 0 && answersUs s n m then 2 else 4
    (out s false c n → ∃ t, exec (.ptpDelayRespRx n m) s = .next t ∧ drop n c s t) ∧
    (∀ q t1 t2 k, c = 2 → s.pcRuns = true → admits s false 2 n = true → (s.ptp n).req = some q → (s.ptp n).last = some (t1, t2, k) →
      ∃ t, exec (.ptpDelayRespRx n m) s = .next t ∧
        t.rdS (F.ptpMpd n) = satSgn 48 (rdiv ((t2 - q.t) + (originOf m - t1) - k - m.corr.toInt) 2) ∧ (t.ptp n).req = none ∧
        Keeps [F.ptpMpd n] [.pt] s t)) ∧
  (∀ (n : Fin 4) (m : PtpMsg) (dt : Dt) (sub : BitVec 17) (s : State), ptpMine s n m = true → clkType s ≠ 3 →
    let c := if s.rd (F.ptpMech n) == 1 && answersUs s n m then 2 else 4
    (out s true c n → ∃ t, exec (.ptpPdelayRespRx n m dt sub) s = .next t ∧ drop n c s t) ∧
    (∀ q, c = 2 → s.pcRuns = true → admits s true 2 n = true → (s.port n).stalled = false → (s.ptp n).req = some q →
      (m.twoStep = false → ∃ t, exec (.ptpPdelayRespRx n m dt sub) s = .next t ∧
        t.rdS (F.ptpMpd n) = satSgn 48 (rdiv ((rxInstant s n dt sub : Int) - q.t - m.corr.toInt) 2) ∧
        (t.ptp n).link = some (rdiv ((rxInstant s n dt sub : Int) - q.t - m.corr.toInt) 2) ∧ Keeps [F.ptpMpd n] [.pt] s t) ∧
      (m.twoStep = true → ∃ t, exec (.ptpPdelayRespRx n m dt sub) s = .next t ∧
        (t.ptp n).resp = some ⟨m.seq.toNat, originOf m, rxInstant s n dt sub, m.corr.toInt⟩ ∧ Keeps [] [.pt] s t))) ∧
  (∀ (n : Fin 4) (m : PtpMsg) (s : State), ptpMine s n m = true → clkType s ≠ 3 →
    let c := if s.rd (F.ptpMech n) == 1 && answersUs s n m then 2 else 4
    (out s false c n → ∃ t, exec (.ptpPdelayRespFupRx n m) s = .next t ∧ drop n c s t) ∧
    (∀ q r, c = 2 → s.pcRuns = true → admits s false 2 n = true → (s.ptp n).req = some q → (s.ptp n).resp = some r →
      r.seq = m.seq.toNat →
      let d := rdiv ((r.t4 - q.t) - (originOf m - r.t2) - r.corr - m.corr.toInt) 2
      ∃ t, exec (.ptpPdelayRespFupRx n m) s = .next t ∧ t.rdS (F.ptpMpd n) = satSgn 48 d ∧ (t.ptp n).link = some d ∧
        (t.ptp n).resp = none ∧ Keeps [F.ptpMpd n] [.pt] s t)) ∧
  (∀ (n : Fin 4) (m : PtpMsg) (s : State), ptpMine s n m = true → clkType s ≠ 3 →
    (out s false 4 n → ∃ t, exec (.ptpAnnounceRx n m) s = .next t ∧ drop n 4 s t) ∧
    (s.pcRuns = true → admits s false 4 n = true → m.clk.toNat ≠ Config.clkid.toNat →
      ∃ u, exec (.ptpAnnounceRx n m) s = .next (bmcaRun u) ∧ u.pt.admG = s.pt.admG + 1 ∧
        ((u.ptp n).foreign.head?).map (fun f => (f.gm, f.cls, f.snd, f.steps, f.at1)) =
          some (m.gm.toNat, m.cls.toNat, m.clk.toNat, m.steps.toNat, s.beatcnt) ∧
        (fromParent s n m = true → (u.ptp n).annAge = 0) ∧ Keeps [] [.pt] s u)) ∧
  (∀ (n : Fin 4) (s : State) (h : Half), s.live = true → (s.ptp n).fup = some h → h.beat < s.beatcnt →
    ∃ t, exec (.followUpHoldExpire n) s = .next t ∧ t.ptp n = { s.ptp n with fup := none } ∧ Keeps [] [.pt] s t)

/-- With room in the time queue: a MASTER port answers an admitted Delay_Req with its receive timestamp, a P2P port a Pdelay_Req with the
turnaround, in one frame or two; due Sync, Announce and request messages leave with the port's next sequence number, a one-step Sync carrying
its departure time and a Sync of a stalled beat waiting for the next. A TC adds the residence to a Sync, a Delay_Req and a matched Follow_Up
and holds a Follow_Up that waits, 1 s at most; in a stalled beat, or while the packet core is stopped, it drops and counts in TCDROP. With no
room the frame is refused and counted in TQREFUSE. A Management message is forwarded by a TC; elsewhere an admitted one of the unit's domain,
and a message of an unsupported kind, count in MGMTDROP. -/
def Obligations.PtpSendsAndCorrects : Prop :=
  (∀ (n : Fin 4) (m : PtpMsg) (dt : Dt) (sub : BitVec 17) (s : State), ptpMine s n m = true → clkType s ≠ 3 → s.pcRuns = true →
    pstate s n = 6 → admits s true 3 n = true → s.rd (F.ptpMech n) = 0 → ptpSends s = true → (s.port n).stalled = false →
    (tqRoom s n = true → ∃ t, exec (.ptpDelayReqRx n m dt sub) s = .next t ∧
      TqGot n (ptpDst (s.rd (F.ptpTransport n)) false) (ptpWrap s n false false (delayRespBytes s n m (rxInstant s n dt sub))) s t ∧
      t.pt.admE = s.pt.admE + 1 ∧ Keeps [] [.po, .pt] s t) ∧
    (tqRoom s n = false → ∃ t, exec (.ptpDelayReqRx n m dt sub) s = .next t ∧
      t.rd (F.ptpTqrefuse n) = min (s.rd (F.ptpTqrefuse n) + 1) 65535 ∧ t.po = s.po ∧ Keeps [F.ptpTqrefuse n] [.pt] s t)) ∧
  (∀ (n : Fin 4) (m : PtpMsg) (dt : Dt) (sub : BitVec 17) (turn : BitVec 48) (two : Bool) (s : State), ptpMine s n m = true →
    clkType s ≠ 3 → s.pcRuns = true → s.rd (F.ptpMech n) = 1 → admits s true 3 n = true → (s.port n).stalled = false →
    (oneStepNow s n two = true → tqRoom s n = true →
      ∃ t, exec (.ptpPdelayReqRx n m dt sub turn two) s = .next t ∧
        TqGot n (ptpDst (s.rd (F.ptpTransport n)) true)
          (ptpWrap s n true true (pdelayRespBytes s n m (rxInstant s n dt sub) turn.toNat true)) s t ∧ Keeps [] [.po, .pt] s t) ∧
    (oneStepNow s n two = false → (s.queue n 4).length < 31 →
      ∃ t, exec (.ptpPdelayReqRx n m dt sub turn two) s = .next t ∧ (t.queue n 4).length = (s.queue n 4).length + 2 ∧
        Keeps [F.ptpOnestepfb n] [.po, .pt] s t)) ∧
  (∀ (n : Fin 4) (dt : Dt) (sub : BitVec 17) (two : Bool) (s : State), ptpUp s n = true → clkType s < 3 → pstate s n = 6 →
    ptpSends s = true → (sendDue s n 0 (s.rdS (F.ptpLogsync n)) || (s.ptp n).syncPend) = true →
    let q := ((s.ptp n).seqSync + 1) % 65536
    ((s.port n).stalled = true → ∃ t, exec (.ptpSyncTx n dt sub two) s = .next t ∧
      t.ptp n = { s.ptp n with
        syncPend := true
        sent := 0 :: (s.ptp n).sent } ∧ Keeps [] [.pt] s t) ∧
    ((s.port n).stalled = false → oneStepNow s n two = true → tqRoom s n = true →
      ∃ t, exec (.ptpSyncTx n dt sub two) s = .next t ∧ (t.ptp n).seqSync = q ∧ (t.ptp n).syncPend = false ∧
        TqGot n (ptpDst (s.rd (F.ptpTransport n)) false)
          (ptpWrap s n true false (syncBytes s n q (txInstant s n dt sub) true)) s t ∧ Keeps [] [.po, .pt] s t) ∧
    ((s.port n).stalled = false → oneStepNow s n two = false → (s.queue n 4).length < 31 →
      ∃ t, exec (.ptpSyncTx n dt sub two) s = .next t ∧ (t.ptp n).seqSync = q ∧ (t.queue n 4).length = (s.queue n 4).length + 2 ∧
        (s.is (F.ptpOnestep n) = true → t.rd (F.ptpOnestepfb n) = min (s.rd (F.ptpOnestepfb n) + 1) 65535) ∧
        Keeps [F.ptpOnestepfb n] [.po, .pt] s t)) ∧
  (∀ (n : Fin 4) (s : State), ptpUp s n = true → clkType s < 3 → pstate s n = 6 → ptpSends s = true →
    sendDue s n 11 (s.rdS (F.ptpLogann n)) = true → tqRoom s n = true →
    let q := ((s.ptp n).seqAnn + 1) % 65536
    ∃ t, exec (.ptpAnnounceTx n) s = .next t ∧ (t.ptp n).seqAnn = q ∧
      TqGot n (ptpDst (s.rd (F.ptpTransport n)) false)
        (ptpWrap s n false false (ptpBytes s n 11 (annFlags s) 0 q 5 (s.rd (F.ptpLogann n)) (annBody s))) s t ∧
      Keeps [] [.po, .pt] s t) ∧
  (∀ (n : Fin 4) (dt : Dt) (sub : BitVec 17) (s : State), ptpUp s n = true → sendDue s n 1 (s.rdS (F.ptpLogdreq n)) = true →
    (s.port n).stalled = false → tqRoom s n = true →
    (s.rd (F.ptpMech n) = 0 ∧ following s n = true) ∨ (s.rd (F.ptpMech n) = 1 ∧ clkType s ≠ 3) →
    let q := ((s.ptp n).seqReq + 1) % 65536
    ∃ t, exec (.ptpDelayReqTx n dt sub) s = .next t ∧ (t.ptp n).seqReq = q ∧
      (t.ptp n).req = some ⟨q, txInstant s n dt sub, 0, s.beatcnt⟩ ∧ (t.queue n 4).length = (s.queue n 4).length + 1 ∧
      Keeps [] [.po, .pt] s t) ∧
  (∀ (n e : Fin 4) (b : List (BitVec 8)) (r : BitVec 48) (s : State), 3 ≤ clkType s → ptpHears s n = true → ptpHears s e = true →
    n ≠ e → s.pcRuns = false → (clkType s = 4 → peerKind (msgKind b) = false) →
    ∃ t, exec (.tcForward n e b r) s = .next t ∧ t.rd (F.ptpTcdrop e) = min (s.rd (F.ptpTcdrop e) + 1) 65535 ∧
      Keeps [F.ptpTcdrop e] [] s t) ∧
  (∀ (n e : Fin 4) (b : List (BitVec 8)) (r : BitVec 48) (s : State), 3 ≤ clkType s → ptpUp s n = true → ptpUp s e = true → n ≠ e →
    (clkType s = 4 → peerKind (msgKind b) = false) →
    ((s.port n).stalled = true ∨ (s.port e).stalled = true → ∃ t, exec (.tcForward n e b r) s = .next t ∧
      t.rd (F.ptpTcdrop e) = min (s.rd (F.ptpTcdrop e) + 1) 65535 ∧ Keeps [F.ptpTcdrop e] [] s t) ∧
    ((s.port n).stalled = false → (s.port e).stalled = false → tqRoom s e = true →
      ((msgKind b = 0 ∧ msgTwoStep b = false) ∨ msgKind b = 1 → tcValue s n (msgKind b) r.toInt ≠ 0 →
        ∃ t, exec (.tcForward n e b r) s = .next t ∧
          TqGot e (ptpDst (s.rd (F.ptpTransport e)) false) (ptpWrap s e true false (tcBytes b (tcValue s n (msgKind b) r.toInt))) s t ∧
          Keeps [] [.po] s t) ∧
      (msgKind b = 0 → msgTwoStep b = true → (s.ptp e).tcHold = [] →
        ∃ t, exec (.tcForward n e b r) s = .next t ∧
          TqGot e (ptpDst (s.rd (F.ptpTransport e)) false) (ptpWrap s e true false b) s t ∧
          (t.ptp e).tcTab = (⟨msgSrc b, msgSeq b, tcValue s n 0 r.toInt, s.beatcnt⟩ :: (s.ptp e).tcTab).take 32 ∧
          Keeps [] [.po, .pt] s t) ∧
      (∀ x l, msgKind b = 8 → (s.ptp e).tcTab = x :: l → x.src = msgSrc b → x.seq = msgSeq b → x.val ≠ 0 →
        ∃ t, exec (.tcForward n e b r) s = .next t ∧
          TqGot e (ptpDst (s.rd (F.ptpTransport e)) false) (ptpWrap s e false false (tcBytes b x.val)) s t ∧
          Keeps [] [.po, .pt] s t) ∧
      (msgKind b = 8 → (s.ptp e).tcTab = [] →
        ∃ t, exec (.tcForward n e b r) s = .next t ∧ (t.ptp e).tcHold = (b, s.beatcnt) :: (s.ptp e).tcHold ∧ Keeps [] [.pt] s t) ∧
      (1 < msgKind b → msgKind b ≠ 8 →
        ∃ t, exec (.tcForward n e b r) s = .next t ∧ (t.queue e 4).length = (s.queue e 4).length + 1 ∧ Keeps [] [.po] s t))) ∧
  (∀ (e : Fin 4) (s : State), s.live = true → (s.ptp e).tcHold.any (fun r => r.2 + 1024 ≤ s.beatcnt) = true →
    ∃ t, exec (.tcFollowUpTimeout e) s = .next t ∧
      (t.ptp e).tcHold = (s.ptp e).tcHold.filter (fun r => s.beatcnt < r.2 + 1024) ∧
      t.rd (F.ptpTcdrop e) = min (s.rd (F.ptpTcdrop e) + ((s.ptp e).tcHold.length - (t.ptp e).tcHold.length)) 65535 ∧
      Keeps [F.ptpTcdrop e] [.pt] s t) ∧
  (∀ (n : Fin 4) (f : FrameIn) (s : State), let p := parseFrame (f.bytes.take (f.bytes.length - 4))
    ptpHears s n = true → ptpTakes s n p = true →
    (clkType s < 3 → s.pcRuns = true → admits s false 4 n = true → ∃ t, exec (.ptpManagementRx n f) s = .next t ∧
      t.rd (F.ptpMgmtdrop n) = min (s.rd (F.ptpMgmtdrop n) + 1) 65535 ∧ t.pt.admG = s.pt.admG + 1 ∧
      Keeps [F.ptpMgmtdrop n] [.pt] s t) ∧
    (3 ≤ clkType s → exec (.ptpManagementRx n f) s = .next (forward n p f.bytes.length f.fcsOk s))) ∧
  (∀ (n : Fin 4) (s : State), s.live = true → s.domOn 6 = true → s.is (F.portLink n) = true → ptpPort s n = true →
    ∃ t, exec (.ptpUnsupportedRx n) s = .next t ∧ t.rd (F.ptpMgmtdrop n) = min (s.rd (F.ptpMgmtdrop n) + 1) 65535 ∧
      Keeps [F.ptpMgmtdrop n] [] s t)

/-- Sixteen offset samples take a port from UNCALIBRATED to SLAVE. No Announce from the parent within the timeout counts once in ANNTMO, puts
the reference in violation, and the BMCA runs without that parent's data. The ninth consecutive second with a drop raises PTP_OVERLOAD with OVLIVE and
tally 16, and a second without one ends it. ESMC sends its information PDU each second and an event PDU after a change, takes QLRX from a
received code (any that is none of option 1 as DNU), and falls back to 0xF after 5 s. -/
def Obligations.PtpStatesOverloadAndEsmc : Prop :=
  (∀ (n : Fin 4) (s : State), s.live = true → pstate s n = 8 → 16 ≤ (s.ptp n).nsamp →
    ∃ t, exec (.portSlave n) s = .next t ∧ pstate t n = 9 ∧ bit (t.rd (F.ptpIrqstat n)) 0 = true ∧
      Keeps [F.ptpPstate n, F.ptpIrqstat n, F.ptpClass, F.ptpAccuracy, F.ptpParentport, F.ptpGmid, F.ptpGmclass, F.ptpSteps] [] s t) ∧
  (∀ (n : Fin 4) (s : State), ptpUp s n = true → following s n = true → (s.ptp n).annOut = false →
    annTimeout s n ≤ (s.ptp n).annAge →
    ∃ u, exec (.announceReceiptTimeout n) s = .next (bmcaRun u) ∧ u.rd (F.ptpAnntmo n) = min (s.rd (F.ptpAnntmo n) + 1) 65535 ∧
      bit (u.rd (F.ptpIrqstat n)) 1 = true ∧ (u.ref (n.val + 4)).todViol = true ∧ (u.ptp n).annOut = true ∧
      (∀ f ∈ (u.ptp n).foreign, (s.ptp n).parent ≠ some (f.snd, f.sport)) ∧
      Keeps [F.ptpAnntmo n, F.ptpIrqstat n] [.rf, .pt] s u) ∧
  (∀ (dt : Dt) (s : State) (p : Nat), s.live = true → s.pt.dropPort = some p → 8 ≤ s.pt.ovRun → s.is F.ptpOvlive = false →
    bit (s.frec .ptpOverload).live 0 = false →
    ∃ t, exec (.ptpOverload dt) s = .next t ∧ t.rd F.ptpOvlive = 1 ∧ t.st = { s.st with tallyQ := addTally s.st.tallyQ 16 1 } ∧
      Logged .ptpOverload 0 p s t ∧ bit t.br.due 46 = true ∧ Keeps [F.ptpOvlive, FC.ptpOverload.cnt] [.st, .flt, .br, .pr] s t) ∧
  (∀ s : State, s.live = true → s.is F.ptpOvlive = true → s.pt.clean = true →
    ∃ t, exec .overloadClear s = .next t ∧ t.rd F.ptpOvlive = 0 ∧ bit (t.frec .ptpOverload).live 0 = false ∧
      Keeps [F.ptpOvlive] [.flt] s t) ∧
  (∀ (n : Fin 2) (s : State), esmcUp s n = true → tqRoom s n = true →
    ((s.ptp n).esmcDue = true → ∃ t, exec (.esmcInfoTx n) s = .next t ∧ (t.ptp n).esmcDue = false ∧
      TqGot n 0x0180C2000002 (esmcBytes false (s.rd (F.ptpQltx n))) s t ∧ Keeps [] [.po, .pt] s t) ∧
    ((s.ptp n).qlEvent = true → ∃ t, exec (.esmcEventTx n) s = .next t ∧ (t.ptp n).qlEvent = false ∧
      TqGot n 0x0180C2000002 (esmcBytes true (s.rd (F.ptpQltx n))) s t ∧ Keeps [] [.po, .pt] s t)) ∧
  (∀ (n : Fin 2) (ql : BitVec 4) (s : State), s.live = true → s.is (F.portLink n) = true → s.pcRuns = true →
    ∃ t, exec (.esmcRx n ql) s = .next t ∧
      t.rd (F.refQlrx (n.val + 8)) = (if ql = 2 ∨ ql = 4 ∨ ql = 8 ∨ ql = 11 then ql.toNat else 15) ∧
      (t.ref (n.val + 8)).esmcTmo = false ∧ (t.ptp n).qlAge = 0 ∧ Keeps [F.refQlrx (n.val + 8)] [.rf, .pt] s t) ∧
  (∀ (n : Fin 2) (s : State), s.live = true → 5120 ≤ (s.ptp n).qlAge →
    ∃ t, exec (.esmcTimeout n) s = .next t ∧ t.rd (F.refQlrx (n.val + 8)) = 15 ∧ (t.ref (n.val + 8)).esmcTmo = true ∧
      Keeps [F.refQlrx (n.val + 8)] [.rf] s t)

/-- A beacon or LEAVE that is due leaves a port with room under the next sequence number, and a beacon's departure is kept. A frame of the
unit's own counts in LOOPBACK. With RELAY clear a received beacon that the budget admits waits for the strobe and a LEAVE is noted; a beacon of
another major version counts and raises LEP_VERSION; while the packet core is stopped a frame is dropped and counted. With RELAY set the copy
leaves on the other port, or counts as beyond HOPMAX or as a duplicate. Peers qualify, go STALE with no weight, are lost and freed. A sample
that follows the peers is c, slewed off beyond GW, and beyond THRESH raises ENS_WIDE. -/
def Obligations.EnsemblePeersAndSamples : Prop :=
  let frame (s : State) (n kind t : Nat) (r : List LepReport) : List Byte :=
    bytesBE 2 0x88F7 ++ lepBytes kind (ownBeacon s n ((s.es.seq + 1) % 65536) t r)
  (∀ (n : Fin 2) (dt : Dt) (sub : BitVec 17) (s : State), lepPort s (1 - n.val) = false → tqRoom s n = true →
    (s.live = true → s.es.due = true → ptpSends s = true → lepPort s n = true → gossipRuns s = true →
      ∃ t, exec (.lepBeaconTx dt sub) s = .next t ∧ t.es.seq = (s.es.seq + 1) % 65536 ∧ t.es.due = false ∧ t.es.sent = true ∧
        t.es.t1.getD n [] = (((s.es.seq + 1) % 65536, (txInstant s n dt sub : Int)) :: s.es.t1.getD n []).take 2 ∧
        TqGot n 0x011B19000000 (frame s n 1 (txInstant s n dt sub) (lepReports s)) s t ∧ Keeps [] [.po, .es] s t) ∧
    (s.powered = true → s.es.leave = 2 ^ n.val → s.is (F.portLink n) = true → portIsol s n = false → s.pcRuns = true →
      ∃ t, exec (.lepLeaveTx dt sub) s = .next t ∧ t.es.leave = 0 ∧
        TqGot n 0x011B19000000 (frame s n 2 (txInstant s n dt sub) []) s t ∧ Keeps [] [.po, .es] s t)) ∧
  (∀ (n : Fin 2) (b : BeaconIn) (r : BitVec 48) (dt : Dt) (sub : BitVec 17) (s : State), lepRxOn s n = true → s.pcRuns = false →
    lepOwn b = false →
    let dropped (t : State) : Prop := t.rd (F.ptpDrop n 3) = min (s.rd (F.ptpDrop n 3) + 1) 65535 ∧
      Keeps [F.ptpDrop n 3, F.ptpIrqstat n] [] s t
    (∃ t, exec (.lepBeaconRx n b r dt sub) s = .next t ∧ dropped t) ∧ ∃ t, exec (.lepLeaveRx n b r dt) s = .next t ∧ dropped t) ∧
  (∀ (n : Fin 2) (b : BeaconIn) (r : BitVec 48) (dt : Dt) (sub : BitVec 17) (s : State), lepRxOn s n = true → s.pcRuns = true →
    (lepOwn b = true →
      (∃ t, exec (.lepBeaconRx n b r dt sub) s = .next t ∧
        t.rd F.ensLoopback = min (s.rd F.ensLoopback + 1) 65535 ∧ Keeps [F.ensLoopback] [] s t) ∧
      (∃ t, exec (.lepLeaveRx n b r dt) s = .next t ∧
        t.rd F.ensLoopback = min (s.rd F.ensLoopback + 1) 65535 ∧ Keeps [F.ensLoopback] [] s t)) ∧
    (lepOwn b = false → s.is F.ensRelay = false → admits s false 4 n = true →
      (b.version.toNat / 16 = 1 →
        (∃ t, exec (.lepBeaconRx n b r dt sub) s = .next t ∧
          t.es.rx = s.es.rx ++ [⟨n.val, b, (rxInstant s n dt sub : Int) - b.resacc.toInt, !(s.port n).stalled⟩] ∧
          t.pt.admG = s.pt.admG + 1 ∧ Keeps [] [.pt, .es] s t) ∧
        (∃ t, exec (.lepLeaveRx n b r dt) s = .next t ∧ t.es.lefts = b.clk.toNat :: s.es.lefts ∧ Keeps [] [.pt, .es] s t)) ∧
      (b.version.toNat / 16 ≠ 1 → ∃ t, exec (.lepBeaconRx n b r dt sub) s = .next t ∧
        t.rd F.ensVerdrop = min (s.rd F.ensVerdrop + 1) 65535 ∧ bit (t.rd F.ensIrqstat) 4 = true ∧
        Logged .lepVersion n n s t ∧ Keeps [F.ensVerdrop, F.ensIrqstat, FC.lepVersion.cnt] [.pt, .flt, .br, .pr] s t)) ∧
    (lepOwn b = false → s.is F.ensRelay = true → admits s false 4 n = false →
      (s.rd F.ensHopmax < b.hops.toNat + 1 → ∃ t, exec (.lepLeaveRx n b r dt) s = .next t ∧
        t.rd F.ensHopdrop = min (s.rd F.ensHopdrop + 1) 65535 ∧ Keeps [F.ensHopdrop, F.ptpDrop n 3, F.ptpIrqstat n] [.pt] s t) ∧
      (b.hops.toNat + 1 ≤ s.rd F.ensHopmax → lepDup s b = true → ∃ t, exec (.lepLeaveRx n b r dt) s = .next t ∧
        t.rd F.ensDupdrop = min (s.rd F.ensDupdrop + 1) 65535 ∧ Keeps [F.ensDupdrop, F.ptpDrop n 3, F.ptpIrqstat n] [.pt] s t) ∧
      (b.hops.toNat + 1 ≤ s.rd F.ensHopmax → lepDup s b = false → s.is (F.ensLepen (1 - n.val)) = true →
        s.is (F.portLink (1 - n.val)) = true → (s.port n).stalled = false → (s.port (1 - n.val)).stalled = false →
        tqRoom s (1 - n.val) = true →
        ∃ t, exec (.lepBeaconRx n b r dt sub) s = .next t ∧ t.rd F.ensRelayed = min (s.rd F.ensRelayed + 1) 65535 ∧
          TqGot (1 - n.val) 0x011B19000000 (bytesBE 2 0x88F7 ++ lepBytes 1 (lepCopy b r.toInt)) s t ∧ lepDup t b = true ∧
          Keeps [F.ensRelayed, F.ptpDrop n 3, F.ptpIrqstat n] [.po, .es, .pt] s t))) ∧
  (∀ (k : Fin 16) (s : State), ensRuns s = true →
    let flds := [F.ensPstate k, F.ensPstale k, F.ensExcl k, F.ensSplit k, F.ensIrqstat]
    (peerState s k = 1 → s.rd F.ensPqual ≤ (s.peer k).run →
      ∃ t, exec (.peerQualify k) s = .next t ∧ peerState t k = 2 ∧ bit (t.rd F.ensIrqstat) 0 = true ∧ bit t.br.due 45 = true ∧
        Keeps flds [.br] s t) ∧
    (peerState s k = 2 → 2 ≤ (s.peer k).bad →
      ∃ t, exec (.peerStale k) s = .next t ∧ t.rd (F.ensPstale k) = 1 ∧ peerWeight t k = 0 ∧ Keeps [F.ensPstale k] [] s t) ∧
    (peerState s k = 1 ∨ peerState s k = 2 → s.rd F.ensPlost ≤ s.rd (F.ensAge k) →
      ∃ t, exec (.peerLost k) s = .next t ∧ peerState t k = 4 ∧ bit (t.rd F.ensIrqstat) 1 = true ∧
        (peerState s k = 2 → bit t.br.due 45 = true) ∧ Keeps flds [.br] s t) ∧
    (peerState s k = 3 ∨ peerState s k = 4 → 3686400 ≤ (s.peer k).quiet →
      ∃ t, exec (.peerFree k) s = .next t ∧ peerState t k = 0 ∧ t.rd (F.ensClockid k) = 0 ∧
        (peerState s k = 3 → bit (t.frec .digestMismatch).live k = false) ∧ Keeps (flds ++ peerFlds k) [.es, .flt] s t)) ∧
  (∀ s : State, servoRuns s = true → follows s = true → s.es.newIv = true → inputRef s = 10 → s.is F.dGrafting = false →
    let c := s.rdS F.ensConsoff
    let wide := nsU (graftWindow s) < (c - s.rdS F.servoSlewrem).natAbs
    ((s.rdS F.ensConsoff).natAbs ≤ nsU (s.rd F.dThresh) →
      (¬ wide → ∃ t, exec .ensSample s = .next t ∧ t.sv.ensSamp = some c ∧
        t.es = { s.es with newIv := false } ∧ bit (t.frec .ensWide).live 0 = false ∧ Keeps [] [.es, .sv, .flt] s t) ∧
      (wide → ∃ t, exec .ensSample s = .next t ∧ t.sv.ensSamp = some c ∧ bit (t.frec .ensWide).live 0 = false ∧
        t.rdS F.servoSlewrem = c ∧ t.rd F.dSlewing = 1 ∧ t.sv.jslew = false ∧
        Keeps [F.servoSlewrem, F.dSlewing] [.es, .sv, .flt] s t)) ∧
    (nsU (s.rd F.dThresh) < (s.rdS F.ensConsoff).natAbs → bit (s.frec .ensWide).live 0 = false →
      ∃ t, exec .ensSample s = .next t ∧ t.sv.ensSamp = some c ∧ Logged .ensWide 0 0 s t ∧
        t.rdS F.servoSlewrem = (if wide then c else s.rdS F.servoSlewrem) ∧
        Keeps [F.servoSlewrem, F.dSlewing, FC.ensWide.cnt] [.es, .sv, .flt, .br, .pr] s t))

/-- An internal producer enabled on one clocked channel of the custodian that reaches HOSTIRQ alone, or a fire of that channel, counts in
EVTCNT and puts one entry in the host FIFO; a full FIFO refuses it with OVF and BRAM_OVF. A channel that already carried an event in that
cycle only coalesces. In DORMANT an event that reaches DORMEXIT asks for the exit, and Press records it. A fire by another owner sets DENY.
Reading HEAD snaps and removes the oldest entry, and is abandoned while the carrier's pins are released. Clearing ALARMOK clears DORMEXIT on
that tenant's channels. -/
def Obligations.BrambleCarriesEvents : Prop :=
  (∀ (c : Fin 32) (cyc : BitVec 19) (dt : Dt) (s : State) (x : Instr), s.live = true → s.domOn 5 = true → s.owner 2 c = 0 →
    (x = .brambleFire 0 c cyc dt ∧ s.br.lastDel.get? c.val ≠ some (cyc.toNat + 1)) ∨
      (∃ p : Fin 48, 32 ≤ p.val ∧ x = .brambleEvent (BitVec.twoPow 48 p) cyc dt ∧ bit s.br.due p = true ∧
        s.br.lastDel.get? c.val ≠ some cyc.toNat ∧ s.rd (F.bramPath c) = 0 ∧
        ∀ d : Fin 32, bit (s.rd (F.bramPen d)) p = decide (d = c)) →
    let cnt (t : State) : Prop := t.rd (F.bramEvtcnt c) = min (s.rd (F.bramEvtcnt c) + 1) 65535
    (cenView s c = 2 ^ 32 → (s.fifo 0).length < 16 → ∃ t, exec x s = .next t ∧ cnt t ∧
      t.fifo 0 = s.fifo 0 ++ [fifoEntry (2 ^ c.val) s.beatcnt] ∧ t.rd F.dBramEvt = 1 ∧ t.rd F.dLastch = c.val ∧
      Keeps [F.bramEvtcnt c, F.dBramEvt, F.dLastch] [.br] s t) ∧
    (cenView s c = 2 ^ 32 → 16 ≤ (s.fifo 0).length → ∃ t, exec x s = .next t ∧ cnt t ∧ t.fifo 0 = s.fifo 0 ∧
      t.rd F.dBramOvf = 1 ∧ t.rd (F.bramOvf 0) = 1 ∧ t.rd F.bramFifoovf = min (s.rd F.bramFifoovf + 1) 65535 ∧
      Logged .bramOvf 0 0 s t ∧
      Keeps [F.bramEvtcnt c, F.dBramOvf, F.bramOvf 0, F.bramFifoovf, FC.bramOvf.cnt] [.br, .flt, .pr] s t) ∧
    (cenView s c = 2 ^ 38 → s.mode = .dormant → ∃ t, exec x s = .next t ∧ cnt t ∧ t.md = { s.md with exit := some .alarm } ∧
      t.pr = { s.pr with notes := s.pr.notes ++ [(0xA0, bytesBE 1 1)] } ∧ Keeps [F.bramEvtcnt c] [.br, .md, .pr] s t) ∧
    (cenView s c = 0 → ∃ t, exec x s = .next t ∧ cnt t ∧ Keeps [F.bramEvtcnt c] [.br] s t)) ∧
  (∀ (k : Fin 5) (c : Fin 32) (cyc : BitVec 19) (dt : Dt) (s : State), s.live = true → s.domOn 5 = true →
    (s.owner 2 c = k → s.br.lastDel.get? c.val = some (cyc.toNat + 1) → ∃ t, exec (.brambleFire k c cyc dt) s = .next t ∧
      t.rd (F.bramCoalcnt c) = min (s.rd (F.bramCoalcnt c) + 1) 65535 ∧
      t.rd (if k = 0 then F.dBramCoal else F.tvBramCoal (k - 1)) = 1 ∧
      Keeps [F.bramCoalcnt c, if k = 0 then F.dBramCoal else F.tvBramCoal (k - 1)] [] s t) ∧
    (s.owner 2 c ≠ k → ∃ t, exec (.brambleFire k c cyc dt) s = .next t ∧
      t.rd (if k = 0 then F.dBramDeny else F.tvBramDeny (k - 1)) = 1 ∧
      Keeps [if k = 0 then F.dBramDeny else F.tvBramDeny (k - 1)] [] s t)) ∧
  (∀ (k : Fin 5) (s : State), s.live = true → s.pw.auxLow = true → ∃ t, exec (.brambleFifoHeadRead k) s = .next t ∧
    t.rd F.sysHbabandon = (if k = 0 then min (s.rd F.sysHbabandon + 1) 65535 else s.rd F.sysHbabandon) ∧
    Keeps [F.sysHbabandon] [] s t) ∧
  (∀ (k : Fin 5) (s : State), s.live = true → s.pw.auxLow = false →
    ∃ t, exec (.brambleFifoHeadRead k) s = .next t ∧ t.fifo k = (s.fifo k).tail ∧
    ((t.bus.win.getD (agentOf k) {}).snap = some ⟨8, 0x601 + 0x10 * k, 4, (s.fifo k).headD 0⟩) ∧
    (k = 0 → t.bus.rdata = some (BitVec.ofNat 16 ((s.fifo 0).headD 0 / 2 ^ 48))) ∧ Keeps [] [.br, .bus] s t) ∧
  (∀ (k : Fin 4) (s : State), s.live = true → ∃ t, exec (.alarmokClear k) s = .next t ∧ bit (t.rd F.bramAlarmok) k = false ∧
    (∀ c : Fin 32, s.owner 2 c = k + 1 → bit (t.rd (F.bramCen c)) 38 = false) ∧
    (∀ c : Fin 32, s.owner 2 c ≠ k + 1 → t.rd (F.bramCen c) = s.rd (F.bramCen c)) ∧
    Keeps (F.bramAlarmok :: (List.range 32).map F.bramCen) [] s t)

/-- On a served link: SS# falling pops the oldest response, or gives a STATUS with VALID 0; while SDO is released and until BOOT has ended it
pops none and gives nothing. An accepted READ or WRITE is carried out word by word through the link's window, behind the Orchard errors its
accesses find, and leaves one response to come; a read of TID gives the tenant's number. A NOP pushes nothing. A frame that R336 discards counts
in the counter of its row, sets its sticky flag and does nothing else; the sixteenth of a tenant's link within 1 s raises TL_ERRBURST, at L0 where
its record was clear. A response enters the queue, or a full queue loses it with a sticky flag. -/
def Obligations.LinkFrames : Prop :=
  let ended (s : State) (k n : Nat) : Link := (frameEnd k n s).link k
  (∀ (k : Fin 5) (s : State), linkServed s k = true → (s.link k).frame = false → linkWiping s k = false →
    s.pw.auxLow = true ∨ s.live = false →
    ∃ t, exec (.tlFrameStart k) s = .next t ∧ (t.link k).frame = true ∧ (t.link k).out = [] ∧ (t.link k).queue = (s.link k).queue ∧
      (∀ j, j ≠ k.val → t.link j = s.link j) ∧ Keeps [] [.tn] s t) ∧
  (∀ (k : Fin 5) (s : State), linkServed s k = true → (s.link k).frame = false → linkWiping s k = false → s.pw.auxLow = false →
    s.live = true →
    ∃ t, exec (.tlFrameStart k) s = .next t ∧ (t.link k).frame = true ∧ Keeps [] [.tn] s t ∧
      (∀ j, j ≠ k.val → t.link j = s.link j) ∧
      ((s.link k).queue = [] → (t.link k).out = [statusByte s k 0 (s.link k).sticky] ∧ (t.link k).queue = []) ∧
      (∀ r q, (s.link k).queue = r :: q →
        let b := statusByte s k r.status (s.link k).sticky :: r.bytes
        (t.link k).out = b ++ [BitVec.ofNat 8 (crc8 b)] ∧ (t.link k).queue = q)) ∧
  (∀ (k : Fin 5) (bs : List (BitVec 8)) (ecc : List EccIn) (dt : Dt) (s : State), frameOpen s k = true →
    let at_ := s.at dt.toNat
    let e := ecc.foldl (fun s e => eccWord (linkAgent k) dt.toNat e s) (frameEnd k bs.length s)
    let u := linkTouch k at_ (frameEnd k bs.length s)
    (∀ sp a n, judgeFrame bs 0 = .read sp a n → let r := linkRead (linkAgent k) sp at_ n a (linkTouch k at_ e)
      exec (.tlRead k bs dt ecc) s = .next (respond k (1 + 2 * b2n r.2.1) (bs.take 5 ++ r.1) r.2.2)) ∧
    (∀ sp a d, judgeFrame bs 0 = .write sp a d → let r := linkPut (linkAgent k) sp at_ d a u
      exec (.tlWrite k bs dt) s = .next (respond k (1 + 2 * b2n r.1 + 4 * b2n r.2.1) (bs.take 5) r.2.2)) ∧
    (judgeFrame bs 0 = .nop → exec (.tlNop k bs dt) s = .next u) ∧
    (judgeFrame bs 0 = .nop → k ≠ 4 → ∃ t, exec (.tlNop k bs dt) s = .next t ∧ t.link k = ended s k bs.length ∧
      Keeps [] [.tn] s t)) ∧
  (∀ (k : Fin 4) (bs : List (BitVec 8)) (dt : Dt) (s : State), frameOpen s k = true → s.live = true →
    judgeFrame bs 0 = .read 9 0x100 1 → ∃ t, exec (.tlRead (k.castSucc) bs dt []) s = .next t ∧
      (t.link k).due = (s.link k).due ++ [⟨1, bs.take 5 ++ [0, BitVec.ofNat 8 (k + 1)]⟩] ∧ Keeps [] [.tn, .bus] s t) ∧
  (∀ (k : Fin 5) (bs : List (BitVec 8)) (x : Fin 8) (dt : Dt) (s : State) (f : Fld) (bit_ : Nat), frameOpen s k = true →
    (judgeFrame bs x = .framing ∧ f = linkFramecnt k ∧ bit_ = 3) ∨ (judgeFrame bs x = .abort ∧ f = linkAbortcnt k ∧ bit_ = 4) ∨
      (judgeFrame bs x = .crc ∧ f = linkCrccnt k ∧ bit_ = 5) →
    let now := s.beatcnt * unitsPerBeat + dt.toNat * unitsPerEdge
    let l := now :: (s.link k).bursts.filter (fun a => now < a + unitsPerSec)
    ∃ t, exec (.tlFrameDiscard k bs x dt) s = .next t ∧ t.rd f = min (s.rd f + 1) 65535 ∧ bit (t.link k).sticky bit_ = true ∧
      (t.link k).due = (s.link k).due ∧ (t.link k).queue = (s.link k).queue ∧ (t.link k).frame = false ∧
      (k = 4 ∨ l.length < 16 → Keeps [f] [.tn] s t) ∧
      (k ≠ 4 → 16 ≤ l.length → (t.link k).bursts = [] ∧ Logged .tlErrburst k k s t (k.val + 4) ∧ ((s.frec .tlErrburst).uncl = false → (t.frec .tlErrburst).level = 0) ∧
        Keeps [f, FC.tlErrburst.cnt] [.tn, .flt, .br, .pr] s t)) ∧
  (∀ (k : Fin 5) (r : Rsp) (q : List Rsp) (s : State), linkServed s k = true → (s.link k).due = r :: q →
    ((s.link k).queue.length < 4 → ∃ t, exec (.tlResponsePush k) s = .next t ∧
      t.link k = { s.link k with due := q, queue := (s.link k).queue ++ [r] } ∧ Keeps [] [.tn] s t) ∧
    (4 ≤ (s.link k).queue.length → ∃ t, exec (.tlResponsePush k) s = .next t ∧
      t.rd (linkRsplost k) = min (s.rd (linkRsplost k) + 1) 65535 ∧ (t.link k).due = q ∧ (t.link k).queue = (s.link k).queue ∧
      bit (t.link k).sticky 6 = true ∧ Keeps [linkRsplost k] [.tn] s t))

/-- After ALLOCATION_APPLY with no link write staged: a resource of TN1 to TN4 is owned by a tenant exactly where that tenant's allocation
word has its bit, so a refused bit is cleared; a resource taken from a tenant is DIRTY from it; and no unowned resource that is DIRTY, or
that is taken in this strobe, has an owner afterwards. While the engines restart nothing is applied. A TNEN write sets TNEN, empties the
response queue of each link it closes, and leaves an open link as it was. -/
def Obligations.AllocationFollowsTheWords : Prop :=
  (∀ s : State, s.live = true → s.tm.running = true → s.en.restart = none → s.bus.staging = [] →
    ∃ t, exec .allocationApply s = .next t ∧
      ∀ kind i k, kind < 5 → i < resCount kind → k < 4 →
        (t.owner kind i = k + 1 ↔ t.bitOf (resMask kind k) i = true) ∧
        (s.owner kind i = k + 1 → s.bitOf (resMask kind k) i = false → t.bitOf (resDirty kind k) i = true ∧ t.owner kind i = 0) ∧
        (s.bitOf (resDirty kind k) i = true → s.owner kind i = 0 → t.owner kind i = 0)) ∧
  (∀ s : State, s.en.restart ≠ none → exec .allocationApply s = .next s) ∧
  (∀ (v : BitVec 4) (s : State), s.live = true → ∃ t, exec (.tnenChange v) s = .next t ∧ t.rd F.tenTnen = v.toNat ∧
    (∀ k, k < 4 → v.toNat.testBit k = false → (t.link k).queue = [] ∧ (t.link k).due = [] ∧ (t.link k).frame = false) ∧
    (∀ k, 4 ≤ k ∨ v.toNat.testBit k = true → t.link k = s.link k) ∧ t.tn.own = s.tn.own ∧ Keeps [F.tenTnen] [.tn] s t)

/-- On an open link: BEGIN opens an empty transaction, ABORT drops it, and each fails with its REASON where it does not apply. COMMIT closes
the transaction, writes an unsealed journal entry under the next serial and sets RUNNING; a refused one reports its REASON too, at the ninth
strobe, when TXNSTAT shows DONE or FAIL. In a power-fail sequence BEGIN and COMMIT are refused with REASON 5 and the transaction stays (log 94). A commit's end seals the entry and applies it, or while a store has the lock holds it, with
COMMITDONE and tally 4 for the host alone; a failed one leaves the SRAM and raises STONE_PROG. LOGPUSH stores a word and advances LOGHEAD. -/
def Obligations.TransactionsAndCommits : Prop :=
  (∀ (k : Fin 4) (s : State), linkOpen s k = true → s.pw.pf ≠ .none →
    (∃ t, exec (.tlTxnBegin k) s = .next t ∧ t.rd (F.tvStFail k) = 1 ∧ t.rd (F.tvStReason k) = 5 ∧
      Keeps [F.tvStFail k, F.tvStReason k] [] s t) ∧
    (∃ t, exec (.tlTxnCommit k) s = .next t ∧ t.rd (F.tvStRunning k) = 1 ∧ t.txn (k + 1) = s.txn (k + 1) ∧
      t.st.tcom.getD (k + 1) [] = s.st.tcom.getD (k + 1) [] ++ [⟨0, 5⟩] ∧ Keeps [F.tvStRunning k] [.st] s t)) ∧
  (∀ (k : Fin 4) (s : State), linkOpen s k = true → s.pw.pf = .none →
    (s.txn (k + 1) = none →
      (∃ t, exec (.tlTxnBegin k) s = .next t ∧ t.txn (k + 1) = some [] ∧ (∀ j, j ≠ k.val + 1 → t.txn j = s.txn j) ∧ Keeps [] [.st] s t) ∧
      (∃ t, exec (.tlTxnAbort k) s = .next t ∧ t.rd (F.tvStFail k) = 1 ∧ t.rd (F.tvStReason k) = 1 ∧
        Keeps [F.tvStFail k, F.tvStReason k] [] s t) ∧
      (∃ t, exec (.tlTxnCommit k) s = .next t ∧ t.rd (F.tvStRunning k) = 1 ∧
        t.st.tcom.getD (k + 1) [] = s.st.tcom.getD (k + 1) [] ++ [⟨0, 1⟩] ∧ Keeps [F.tvStRunning k] [.st] s t)) ∧
    (∀ m, s.txn (k + 1) = some m →
      (∃ t, exec (.tlTxnBegin k) s = .next t ∧ t.rd (F.tvStFail k) = 1 ∧ t.rd (F.tvStReason k) = 2 ∧
        Keeps [F.tvStFail k, F.tvStReason k] [] s t) ∧
      (∃ t, exec (.tlTxnAbort k) s = .next t ∧ t.txn (k + 1) = none ∧ t.st.shadow = s.st.shadow ∧ Keeps [] [.st] s t) ∧
      (∃ t, exec (.tlTxnCommit k) s = .next t ∧ t.rd (F.tvStRunning k) = 1 ∧ t.st.shadow = s.st.shadow ∧
        Keeps [F.tvStRunning k] [.st] s t ∧
        (tenantMay s k = false → t.st.tcom.getD (k + 1) [] = s.st.tcom.getD (k + 1) [] ++ [⟨0, 3⟩] ∧ t.txn (k + 1) = some m) ∧
        (∀ i, tenantMay s k = true → s.stoneIsol = false → freeSlot s (k + 1) = some i → m ≠ [] →
          t.txn (k + 1) = none ∧ t.st.serial = s.st.serial + 1 ∧
          t.st.journal.get? (64 * (k + 1) + i) = some ⟨s.st.serial + 1, false, m⟩ ∧ tenantMay t k = false ∧
          t.st.commits.get? (k.val + 1) = some ⟨64 * (k + 1) + i, s.st.serial + 1⟩)))) ∧
  (∀ (k : Fin 4) (c : TCommit) (l : List TCommit) (s : State), s.powered = true → s.st.tcom.getD (k + 1) [] = c :: l → 9 ≤ c.beats →
    ∃ t, exec (.txnstatReport k) s = .next t ∧ t.rd (F.tvStRunning k) = b2n (!l.isEmpty) ∧ t.rd (F.tvStReason k) = c.reason % 8 ∧
      (c.reason = 0 → t.rd (F.tvStDone k) = 1) ∧ (c.reason ≠ 0 → t.rd (F.tvStFail k) = 1) ∧
      Keeps [F.tvStRunning k, F.tvStReason k, if c.reason = 0 then F.tvStDone k else F.tvStFail k] [.st] s t) ∧
  (∀ (k : Fin 5) (dt : Dt) (c : Commit) (e : JEntry) (s : State), s.powered = true → s.st.commits.get? k = some c →
    s.st.journal.get? c.slot = some e →
    (s.st.store = none → ∃ t, exec (.commitDone k true dt) s = .next t ∧ t.st.shadow = (Held.entry e).apply s.st.shadow ∧
      t.st.journal.get? c.slot = some { e with isSealed := true } ∧ t.st.commits.get? k = none ∧
      (k ≠ 0 → t.st.tallyQ = s.st.tallyQ ∧ Keeps [] [.st] s t) ∧
      (k = 0 → t.rd F.dCommitdone = 1 ∧ t.st.tallyQ = addTally s.st.tallyQ 4 1 ∧
        (s.bus.cmd = none → Keeps [F.dCommitdone] [.st] s t))) ∧
    (s.st.store ≠ none → s.st.hold = [] → e.words.length ≤ 1000 →
      ∃ t, exec (.commitDone k true dt) s = .next t ∧ t.st.shadow = s.st.shadow ∧
        t.st.hold = [.entry { e with isSealed := true }]) ∧
    (∃ t, exec (.commitDone k false dt) s = .next t ∧ t.st.shadow = s.st.shadow ∧ t.st.journal.get? c.slot = none ∧
      Logged .stoneProg 0 0 s t ∧
      (k ≠ 0 ∨ s.bus.cmd = none → Keeps [FC.stoneProg.cnt] [.st, .flt, .br, .pr] s t))) ∧
  (∀ (k : Fin 4) (w : Word) (s : State), linkOpen s k = true →
    (logOf s k = [] → exec (.logpush k w) s = .next s) ∧
    (∀ a, s.st.store = none → blockWord (logOf s k) (s.rd (F.tvStLoghead k)) = some a →
      let last := decide (s.rd (F.tvStLoghead k) + 1 = 2048 * (logOf s k).length)
      ∃ t, exec (.logpush k w) s = .next t ∧ t.st.shadow.mem = s.st.shadow.mem.writeW (2 * a) w.toNat ∧
        t.rd (F.tvStLoghead k) = (if last then 0 else s.rd (F.tvStLoghead k) + 1) % 8192 ∧
        t.rd (F.tvStLogwraps k) = (if last then min (s.rd (F.tvStLogwraps k) + 1) 65535 else s.rd (F.tvStLogwraps k)) ∧
        Keeps [F.tvStLoghead k, F.tvStLogwraps k] [.st] s t))

/-- A store that ends, or one resumed at power-up that seals, makes its bank the newest under the next sequence, frees the absorbed journal
slots, applies what was held, and sets STOREDONE with tally 3. A failed verification counts in STOREFAIL and repeats the store; the second
releases the lock with the bank empty and raises STONE_PROG. A scheduled store starts at its second unless a store runs. TALLYINC queues
counters 18 to 31 and counts any other number. A queued increment programs one cell; a worn one raises TALLY_WEAR. -/
def Obligations.StoresAndTallies : Prop :=
  let sealed (r : StoreRun) (s t : State) : Prop :=
    t.st.store = none ∧ t.bank r.bankB = { isSealed := true, seq := s.st.seq + 1, jser := r.jser, img := r.img } ∧
    t.bank (!r.bankB) = s.bank (!r.bankB) ∧ t.st.seq = s.st.seq + 1 ∧ t.st.newestB = r.bankB ∧ t.st.hold = [] ∧
    t.st.shadow = (s.st.hold ++ s.st.defer).foldl (fun i h => h.apply i) s.st.shadow ∧
    (∀ k e, (k, e) ∈ t.st.journal ↔ (k, e) ∈ s.st.journal ∧ ¬(e.isSealed = true ∧ e.serial ≤ r.jser)) ∧
    t.rd F.dStoredone = 1 ∧ t.rd F.dStBank = b2n r.bankB ∧ t.st.tallyQ = addTally s.st.tallyQ 3 1 ∧ bit t.br.due 43 = true
  (∀ (r : StoreRun) (s : State), s.powered = true → s.st.store = some r →
    (r.why = .sched → ∃ t, exec .storeDone s = .next t ∧ sealed r s t ∧ Keeps [F.dStoredone, F.dStBank] [.st, .br] s t) ∧
    (r.why = .cmd → s.bus.cmd = some ⟨1, 0, true⟩ → ∃ t, exec .storeDone s = .next t ∧ sealed r s t ∧ t.bus.cmd = none ∧
      t.rd F.dStatState = 2 ∧ t.rd F.dStatErr = 0 ∧ t.rd F.dCmdDone = 1 ∧
      Keeps [F.dStoredone, F.dStBank, F.dStatState, F.dStatErr, F.dCmdDone] [.st, .br, .bus] s t) ∧
    (r.why = .resumed → ∃ t, exec .resumedStoreSeal s = .next t ∧ sealed r s t ∧ Keeps [F.dStoredone, F.dStBank] [.st, .br] s t)) ∧
  (∀ (r : StoreRun) (dt : Dt) (s : State), s.powered = true → s.st.store = some r →
    (r.again = false → ∃ t, exec (.storeVerifyFail dt) s = .next t ∧ t.st.store = some { r with again := true } ∧
      t.rd F.stoStorefail = min (s.rd F.stoStorefail + 1) 65535 ∧
      (if r.bankB then t.st.eraseB = s.st.eraseB + 1 else t.st.eraseA = s.st.eraseA + 1) ∧ Keeps [F.stoStorefail] [.st] s t) ∧
    (r.again = true → s.bus.cmd = none → s.tn.wipe = none → ∃ t, exec (.storeVerifyFail dt) s = .next t ∧ t.st.store = none ∧
      t.bank r.bankB = {} ∧ t.bank (!r.bankB) = s.bank (!r.bankB) ∧ t.st.storeQ = [] ∧ Logged .stoneProg 0 0 s t ∧
      ((s.frec .stoneProg).uncl = false → t.stoneIsol = true) ∧
      Keeps [F.stoStorefail, FC.stoneProg.cnt] [.st, .flt, .br, .pr] s t)) ∧
  (∀ s : State, s.live = true → s.tm.running = true → s.sec % 21600 = 10800 → s.st.sched ≠ some s.sec → s.stoneIsol = false →
    ∃ t, exec .scheduledStore s = .next t ∧ t.st.sched = some s.sec ∧ Keeps [] [.st] s t ∧
      (∀ r, s.st.store = some r → t.st.store = some r) ∧
      (s.st.store = none → ∃ r, t.st.store = some r ∧ r.why = .sched ∧ r.bankB = olderBank s ∧ r.jser = s.st.applied ∧
        r.img.cfg = some (cfgRecord s) ∧ r.img.mem = s.st.shadow.mem ∧ (t.bank r.bankB).isSealed = false)) ∧
  (∀ (n : BitVec 5) (s : State), s.live = true →
    (18 ≤ n.toNat → ∃ t, exec (.tallyinc n) s = .next t ∧ t.st = { s.st with tallyQ := addTally s.st.tallyQ n.toNat 1 } ∧
      Keeps [] [.st] s t) ∧
    (n.toNat < 18 → ∃ t, exec (.tallyinc n) s = .next t ∧ t.rd F.stoTincrej = min (s.rd F.stoTincrej + 1) 65535 ∧
      Keeps [F.stoTincrej] [] s t)) ∧
  (∀ (n c : Nat) (q : List (Nat × Nat)) (dt : Dt) (s : State), s.powered = true → s.stoneIsol = false → s.st.tallyQ = (n, c) :: q →
    (∃ t, exec (.tallyIncrement false dt) s = .next t ∧ (t.tallyC n).value = min 4294967295 ((s.tallyC n).value + 1) ∧
      (∀ m, m ≠ n → t.tallyC m = s.tallyC m) ∧ t.st.tallyQ = (if c ≤ 1 then q else (n, c - 1) :: q) ∧ Keeps [] [.st] s t) ∧
    (∃ t, exec (.tallyIncrement true dt) s = .next t ∧ (t.tallyC n).value = min 4294967295 ((s.tallyC n).value + 1) ∧
      Logged .tallyWear n n s t ∧ Keeps [FC.tallyWear.cnt] [.st, .flt, .br, .pr] s t))

/-- A scheduled run starts with BUSY, LASTKIND 5, CALCNT and tally 12, or is skipped while one runs. A RIN or CK skew value within its limits
takes effect at the item's end with ORIGIN 1, any other is the first rejection with REASON 2; each value of the bandgap group is judged on its
own; two passes that do not agree are a rejection with REASON 1. The end of a run records the time, fires CALDONE and sets DONE, or FAIL with tally 13 and CAL_REJECT. A host write is refused while
its item is measured, counted where implausible, else applied with ORIGIN 2. FACLOAD restores factory values unless a run is in progress. -/
def Obligations.CalibrationRunsAndWrites : Prop :=
  (∀ s : State, s.ca.due = true → calMay s = true →
    (s.ca.run = none → ∃ t, exec .scheduledCal s = .next t ∧ t.rd F.dCalBusy = 1 ∧ t.rd F.dLastkind = 5 ∧
      t.rd F.dCalcnt = min (s.rd F.dCalcnt + 1) 65535 ∧ t.st.tallyQ = addTally s.st.tallyQ 12 1 ∧ t.ca.due = false ∧
      (∃ r, t.ca.run = some r ∧ r.kind = 5 ∧ r.cmd = 0 ∧ r.rej = none ∧ r.items = calSkip s (calItems 5 0)) ∧
      t.rd F.calAuxstale = 16 ∧ t.rd F.dCalStale = 1 ∧
      Keeps [F.dCalBusy, F.dLastkind, F.dCalcnt, F.calTdcstale, F.calAuxstale, F.dCalStale] [.ca, .rf, .st] s t) ∧
    (∀ r, s.ca.run = some r → ∃ t, exec .scheduledCal s = .next t ∧ t.rd F.calSkipcnt = min (s.rd F.calSkipcnt + 1) 65535 ∧
      t.ca = { s.ca with due := false } ∧ Keeps [F.calSkipcnt] [.ca] s t)) ∧
  (∀ (r : CalRun) (i : Nat) (l : List Nat) (s : State), s.powered = true → s.ca.run = some r → r.items = i :: l →
    itemBeats i ≤ r.beats →
    let shown := [F.calTdcstale, F.calAuxstale, F.dCalStale]
    let nxt (s t : State) : Prop := ∃ q, t.ca.run = some q ∧ q.items = calSkip s l ∧ q.beats = 0 ∧ q.kind = r.kind ∧ q.cmd = r.cmd
    (∀ (v : BitVec 16) (n : Nat) (f g : Fld) (ok : Bool),
      (n < 4 ∧ i = 0x10 + n ∧ f = F.calThroff n ∧ g = F.calOriginThr ∧ ok = okThr (s.rdS (F.calThroff n)) v.toInt) ∨
        (n < 8 ∧ i = 0x40 + n ∧ f = F.calSkew n ∧ g = F.calOriginSkew ∧ ok = okSkew (s.rd (F.calSkew n)) v.toInt) →
      ∃ t, exec (.calItemEnd (.value v)) s = .next t ∧
        (ok = true → t.rd f = uns f.w v.toInt ∧ t.rd g = 1 ∧ (∃ q, t.ca.run = some q ∧ q.rej = r.rej) ∧ nxt s t ∧
          Keeps (f :: g :: shown) [.ca, .rf] s t) ∧
        (ok = false → r.rej = none → t.rd F.dCalReason = 2 ∧ t.rd F.calRejitem = i ∧
          (∃ q, t.ca.run = some q ∧ q.rej = some (2, i)) ∧ nxt s t ∧
          Keeps (F.dCalReason :: F.calRejitem :: shown) [.ca, .rf] s t)) ∧
    (∀ (a b : List (BitVec 24)) (c : Nat), c < 22 → i = 0x20 + c →
      (passesAgree (s.rd F.calTdctol) (hitsOf a) (hitsOf b) = false → r.rej = none →
        ∃ t, exec (.calItemEnd (.tdc a b)) s = .next t ∧ t.rd F.dCalReason = 1 ∧ t.rd F.calRejitem = i ∧ nxt s t ∧
          Keeps (F.dCalReason :: F.calRejitem :: shown) [.ca, .rf] s t) ∧
      (passesAgree (s.rd F.calTdctol) (hitsOf a) (hitsOf b) = true → meanOk (hitsOf a) (hitsOf b) = true →
        ∃ t, exec (.calItemEnd (.tdc a b)) s = .next t ∧ t.rd (F.calTdcw c) = ofTaps (meanTaps (hitsOf a) (hitsOf b)) % 2 ^ 2048 ∧
          t.rd F.calOriginTdc = 1 ∧ bit (t.frec .tdcFail).live c = false ∧ nxt s t ∧
          Keeps (F.calTdcw c :: F.calOriginTdc :: shown) [.ca, .rf, .flt] s t)) ∧
    (∀ (g o c a5 a6 : BitVec 16) (sw : List (BitVec 16)), i = 1 →
      let okS := okGain g.toInt && okOff o.toInt
      ∃ t, exec (.calItemEnd (.bandgap g o c a5 a6 sw)) s = .next t ∧ nxt s t ∧
        t.rdS F.calSupgain = (if okS then g.toInt else s.rdS F.calSupgain) ∧ t.rdS F.calSupoff = (if okS then o.toInt else s.rdS F.calSupoff) ∧
        t.rdS F.calTempoff = (if okTemp c.toInt then c.toInt else s.rdS F.calTempoff) ∧
        t.rdS (F.calAvsref 0) = (if okAvs 0 a5.toInt then a5.toInt else s.rdS (F.calAvsref 0)) ∧
        t.rdS (F.calAvsref 1) = (if okAvs 1 a6.toInt then a6.toInt else s.rdS (F.calAvsref 1)) ∧
        (∀ n : Fin 4, t.rdS (F.calSwing n) =
          (if okSwing (s.rdS (F.calSwing n)) (sw.getD n 0).toInt then (sw.getD n 0).toInt else s.rdS (F.calSwing n))) ∧
        Keeps ([F.calSupgain, F.calSupoff, F.calTempoff, F.calAvsref 0, F.calAvsref 1, F.calSwing 0, F.calSwing 1, F.calSwing 2, F.calSwing 3,
          F.calOriginBg, F.dCalReason, F.calRejitem] ++ shown) [.ca, .rf] s t)) ∧
  (∀ (r : CalRun) (s : State), s.powered = true → s.ca.run = some r → r.items = [] → r.cmd = 0 → s.ca.queued = none →
    let told := [F.dCalBusy, F.calTdcstale, F.calAuxstale, F.dCalStale, F.calLastsec, F.calLastns, F.calLastuntr]
    ∃ t, exec .calRunEnd s = .next t ∧ t.ca.run = none ∧ t.rd F.dCalBusy = 0 ∧ t.rd F.dCalStale = 0 ∧ t.rd F.calLastsec = s.sec ∧
      t.rd F.calLastns = nsOf s.tm.now ∧ t.rd F.calLastuntr = b2n s.untraced ∧ bit t.br.due 42 = true ∧
      (r.rej = none → t.rd F.dCalDone = 1 ∧ Keeps (F.dCalDone :: told) [.ca, .rf, .br] s t) ∧
      (∀ p, r.rej = some p → t.rd F.dCalFail = 1 ∧ t.st.tallyQ = addTally s.st.tallyQ 13 1 ∧ Logged .calReject 0 p.2 s t ∧
        Keeps (F.dCalFail :: FC.calReject.cnt :: told) [.ca, .rf, .br, .st, .flt, .pr] s t)) ∧
  (∀ (addr : BitVec 12) (v : BitVec 2048) (s : State), s.live = true →
    (∀ (f : Fld) (item : Nat) (ok : Bool), (grpAt 11 addr.toNat).bind (fun g => g.flds.head?) = some f →
      calField f (v.toNat % 2 ^ f.w) = some (item, ok) →
      (measuring s item = true →
        ∃ t, exec (.calHostWrite addr v) s = .next t ∧ t.rd F.calWrbusy = 1 ∧ Keeps [F.calWrbusy] [] s t) ∧
      (measuring s item = false → ok = false →
        ∃ t, exec (.calHostWrite addr v) s = .next t ∧ t.rd F.calWrrej = min (s.rd F.calWrrej + 1) 65535 ∧ Keeps [F.calWrrej] [] s t) ∧
      (measuring s item = false → ok = true →
        ∃ t, exec (.calHostWrite addr v) s = .next t ∧ t.rd f = v.toNat % 2 ^ f.w ∧ t.rd (originOf_ item) = 2 ∧
          Keeps [f, originOf_ item] [] s t)) ∧
    ((∀ f, (grpAt 11 addr.toNat).bind (fun g => g.flds.head?) = some f → calField f (v.toNat % 2 ^ f.w) = none) →
      exec (.calHostWrite addr v) s = .next s)) ∧
  (∀ (n : Fin 8) (v : BitVec 2048) (s : State), s.live = true →
    let x := v.toNat % 256
    let go := exec (.calHostWrite (BitVec.ofNat 12 (0x18 + n)) v) s
    (measuring s (0x40 + n.val) = true → ∃ t, go = .next t ∧ t.rd F.calWrbusy = 1 ∧ Keeps [F.calWrbusy] [] s t) ∧
    (measuring s (0x40 + n.val) = false → okSkew (Config.facSkew n).toNat x = false →
      ∃ t, go = .next t ∧ t.rd F.calWrrej = min (s.rd F.calWrrej + 1) 65535 ∧ Keeps [F.calWrrej] [] s t) ∧
    (measuring s (0x40 + n.val) = false → okSkew (Config.facSkew n).toNat x = true →
      ∃ t, go = .next t ∧ t.rd (F.calSkew n) = x ∧ t.rd F.calOriginSkew = 2 ∧ Keeps [F.calSkew n, F.calOriginSkew] [] s t)) ∧
  (∀ s : State, s.live = true →
    (s.ca.run ≠ none → ∃ t, exec .facload s = .next t ∧ t.rd F.calWrbusy = 1 ∧ Keeps [F.calWrbusy] [] s t) ∧
    (s.ca.run = none → ∃ t, exec .facload s = .next t ∧ t.rd F.calOriginBg = 0 ∧ t.rd F.calOriginThr = 0 ∧ t.rd F.calOriginTdc = 0 ∧
      t.rd F.calOriginSkew = 0 ∧ (∀ n : Fin 8, t.rd (F.calSkew n) = (Config.facSkew n).toNat) ∧
      (∀ n : Fin 4, t.rdS (F.calThroff n) = (Config.facThroff n).toInt) ∧ t.rdS F.calTempoff = Config.facTempoff.toInt ∧
      (∀ f : Fld, f.key / 128 / 16777216 ≠ 11 → t.rd f = s.rd f) ∧ (∀ p : Part, p.same s t)))

/-- A FAULTACK write acknowledges every uncleared record of each block whose bit is 1, and an ACK word the records of the classes whose bits
are 1 in its block: UNCLR clears, ACKED is set, no field of the register file changes (so not RECOVCNT) nor any tally, and no other record
changes. A record that is not uncleared does not recover. A condition whose live bit stays set makes no occurrence until the bit falls and
rises again, which makes one. After an L3 record is acknowledged, SAFE is not left without a request. -/
def Obligations.AcknowledgementClearsRecords : Prop :=
  let acked (r : FRec) : FRec := { r with uncl := false, acked := true, ret := r.isol != 0 }
  (∀ (w : Word) (s : State), s.live = true → ∃ t, exec (.faultAck w) s = .next t ∧ Keeps [] [.flt] s t ∧
    ∀ c : FC, t.frec c = if w.toNat.testBit c.blk && (s.frec c).uncl then acked (s.frec c) else s.frec c) ∧
  (∀ (b : Fin 14) (w : Word) (s : State), s.live = true → ∃ t, exec (.faultAckClass b w) s = .next t ∧ Keeps [] [.flt] s t ∧
    ∀ c : FC, t.frec c = if c.blk == b && w.toNat.testBit c.bit && (s.frec c).uncl then acked (s.frec c) else s.frec c) ∧
  (∀ (b : Fin 14) (n : Fin 16) (s : State), (∀ c, FC.at? b n = some c → (s.frec c).uncl = false) →
    exec (.faultRecover b n) s = .next s) ∧
  (∀ (c : FC) (i info m dt : Nat) (s : State), bit (s.frec c).live i = true → s.liveSet c i info m dt = s ∧
    Recorded c i info (s.liveClr c i) ((s.liveClr c i).liveSet c i info m dt) m) ∧
  (∀ (w : Word) (c : FC) (s t : State), s.live = true → w.toNat.testBit c.blk = true → (s.frec c).uncl = true →
    (s.frec c).level = 3 → exec (.faultAck w) s = .next t → t.flt.l3acked = true) ∧
  (∀ s : State, s.phase = .run → s.tm.running = true → s.mode = .safe → s.flt.l3acked = true → s.md.req = none →
    ∃ t, exec .modeEvaluation s = .next t ∧ t.mode = .safe ∧ t.flt.l3acked = true)

/-- An uncleared record quiet beyond QUIET with its live bit clear recovers: UNCLR clears, RECOVERED is set, the level stays, RECOVCNT and
tally 5 count. A QUIET write is clamped to 1 s to 86,400 s, and with no record of the block due it changes QUIET alone. A force of one class
makes one occurrence with master 15 and INFO from FORCEINFO at the class's lower default, leaving its live bit, unless a real one of the class
stands in that cycle; a resource it isolates goes out of service at once; a force of none does nothing.
A resource whose return is due is in service again where its live bit is clear, a domain, port or output restarting with it, and else a new occurrence is recorded. -/
def Obligations.RecoveryForceAndReturn : Prop :=
  (∀ (b : Fin 14) (n : Fin 16) (c : FC) (s : State), FC.at? b n = some c → s.powered = true → s.qcRuns = true → canRecover s c = true →
    ∃ t, exec (.faultRecover b n) s = .next t ∧
      t.frec c = { s.frec c with uncl := false, recovered := true, ret := (s.frec c).isol != 0 } ∧
      (∀ d, d ≠ c → t.frec d = s.frec d) ∧ t.rd F.dRecovcnt = min (s.rd F.dRecovcnt + 1) 65535 ∧
      t.st = { s.st with tallyQ := addTally s.st.tallyQ 5 1 } ∧ Keeps [F.dRecovcnt] [.flt, .st] s t) ∧
  (∀ (b : Fin 14) (v : BitVec 32) (s : State), s.live = true →
    (∀ c : FC, c.blk = b → clampNat 1 86400 v.toNat * 1024 < (s.frec c).quiet →
      (s.frec c).uncl = false ∨ (s.frec c).isLive = true) →
    ∃ t, exec (.quietWrite b v) s = .next t ∧ t.rd (F.fltQuiet b) = clampNat 1 86400 v.toNat ∧ Keeps [F.fltQuiet b] [] s t) ∧
  (∀ (c : FC) (b : Fin 14) (v : BitVec 32) (s : State), s.live = true → c.blk = b → (s.frec c).uncl = true → (s.frec c).isLive = false →
    clampNat 1 86400 v.toNat * 1024 < (s.frec c).quiet →
    ∃ t, exec (.quietWrite b v) s = .next t ∧ (t.frec c).uncl = false ∧ (t.frec c).recovered = true ∧
      (t.frec c).level = (s.frec c).level ∧ Keeps [F.fltQuiet b, F.dRecovcnt] [.flt, .st] s t) ∧
  (∀ (b : Fin 14) (dt : Dt) (s : State), s.live = true → exec (.faultForce b 0 dt) s = .next s) ∧
  (∀ (c : FC) (b : Fin 14) (dt : Dt) (s : State), s.live = true → c.blk = b →
    let info := s.rd (F.fltForceinfo b)
    let now := s.cycleOf (s.at (2 * (dt.toNat / 2 + 1)))
    let note := { s.pr with notes := s.pr.notes ++ [(0xB0 + b.val, bytesBE 2 (2 ^ c.bit))] }
    let own := c = .domainFail ∨ c = .sfpTxfault ∨ c = .phyFail ∨ c = .ckUnlock
    let go := exec (.faultForce b (BitVec.ofNat 16 (2 ^ c.bit)) dt) s
    (((s.frec c).real.isSome && (s.frec c).real == now) = true → go = .next { s with pr := note }) ∧
    (((s.frec c).real.isSome && (s.frec c).real == now) = false → ∃ t : State,
      go = .next (isolate s dt.toNat t) ∧ (¬own → go = .next t) ∧
      t.rd c.cnt = min (s.rd c.cnt + 1) 65535 ∧ (t.frec c).uncl = true ∧
      (t.frec c).level = ((s.frec c).occur c.byInst (s.mode == .safe) c.lowDflt c.lowCeil).level ∧
      (t.frec c).live = (s.frec c).live ∧ (t.frec c).evLive = (s.frec c).evLive ∧ (∀ d, d ≠ c → t.frec d = s.frec d) ∧
      (∃ p, t.flt.last.get? b = some (Capt.better (s.flt.last.get? b) p) ∧ p.cls = c.bit ∧ p.master = 15 ∧ p.info = info ∧ p.valid = true) ∧
      (c.names info = false → (t.frec c).isol = (s.frec c).isol) ∧ t.st.tallyQ = s.st.tallyQ ∧
      t.pr = { note with trigFault := t.pr.trigFault } ∧ Keeps [c.cnt] [.flt, .br, .pr] s t)) ∧
  (∀ (b : Fin 14) (n : Fin 16) (c : FC) (s : State), FC.at? b n = some c → s.powered = true → (s.frec c).ret = true →
    let own := c = .domainFail ∨ c = .sfpTxfault ∨ c = .phyFail ∨ c = .ckUnlock
    ((s.frec c).isLive = false → ∃ t,
      exec (.returnToService b n) s = .next (forN 32 (fun i u => if bit (s.frec c).isol i then resRestart c i u else u) t) ∧
      (¬own → exec (.returnToService b n) s = .next t) ∧
      t.frec c = { s.frec c with ret := false, isol := 0 } ∧ (∀ d, d ≠ c → t.frec d = s.frec d) ∧ s.flt.first = t.flt.first ∧
      Keeps [] [.flt] s t) ∧
    ((s.frec c).isLive = true → ∃ t, exec (.returnToService b n) s = .next t ∧
      t.rd c.cnt = min (s.rd c.cnt + 1) 65535 ∧ (t.frec c).uncl = true ∧ Keeps [c.cnt] [.flt, .br, .pr] s t))

/-- A trigger takes the target slot with T the beat of the strobe, joins a pending snapshot in its list of eight and COALTRIG, or with
both slots kept is refused with PRESS_SNAP_FAIL. After T + POST the copy starts; its end zeroes what was zeroed meanwhile in the tenants' sections, sets
VALID and fires SNAPDONE, or leaves the slot invalid. SLOTFREE frees a slot not being written. A slow entry joins the page, and the 682nd is programmed or counted as dropped. A replay
check stops with the first failure, or starts; at the span's end EXACT shows that nothing diverged. -/
def Obligations.PressSnapshotsAndReplay : Prop :=
  (∀ (cause : Nat) (s : State), s.live = true → s.mode ≠ .replay →
    (cause = 1 ∧ s.pr.trigFault = true ∧ s.pr.trigEvt = false) ∨ (cause = 2 ∧ s.pr.trigFault = false ∧ s.pr.trigEvt = true) →
    (∀ i, s.pr.snap = none → snapTarget s = some i → ∃ t, exec .snapshotTrigger s = .next t ∧ t.rd F.prsSnapstate = 1 ∧
      t.pr = { s.pr with trigFault := false, trigEvt := false, snap := some ⟨i, s.beatcnt, s.tm.now, cause, [s.beatcnt], false, none, []⟩ } ∧
      Keeps [F.prsSnapstate] [.pr] s t) ∧
    (s.pr.snap = none → snapTarget s = none → ∃ t, exec .snapshotTrigger s = .next t ∧ t.pr.snap = none ∧
      Logged .pressSnapFail 0 15 s t ∧ Keeps [FC.pressSnapFail.cnt] [.pr, .flt, .br] s t) ∧
    (∀ r, s.pr.snap = some r → ∃ t, exec .snapshotTrigger s = .next t ∧
      t.rd F.prsCoaltrig = min (s.rd F.prsCoaltrig + 1) 65535 ∧
      t.pr.snap = some { r with trigs := if r.trigs.length < 8 then r.trigs ++ [s.beatcnt] else r.trigs } ∧
      Keeps [F.prsCoaltrig] [.pr] s t)) ∧
  (∀ (r : SnapRun) (s : State), s.live = true → s.pr.snap = some r →
    (r.pages = none → r.t + s.rd F.prsPost < s.beatcnt → s.stoneIsol = false → ∃ t, exec .snapshotCopyStart s = .next t ∧
      t.rd F.prsSnapstate = 2 ∧ (t.snapSlot r.slot).valid = false ∧ (t.snapSlot r.slot).t = r.t ∧
      (t.snapSlot r.slot).cause = r.cause ∧ (t.snapSlot r.slot).trigs = r.trigs ∧
      (∀ j, j ≠ r.slot → t.snapSlot j = s.snapSlot j) ∧ Keeps [F.prsSnapstate] [.st, .pr] s t) ∧
    (r.pages = some 0 → r.cmd = false →
      (∃ t, exec (.snapshotDone true) s = .next t ∧ t.snapSlot r.slot =
          { r.zero.foldl (fun x p => x.zeroSect p.1 p.2) (s.snapSlot r.slot) with valid := true } ∧ t.pr.snap = none ∧
        t.rd F.prsSnapstate = 0 ∧ bit t.br.due 47 = true ∧ Keeps [F.prsSnapstate] [.st, .pr, .br] s t) ∧
      (∃ t, exec (.snapshotDone false) s = .next t ∧ (t.snapSlot r.slot).valid = false ∧ t.pr.snap = none ∧ t.rd F.prsSnapstate = 0 ∧
        Logged .pressSnapFail 0 r.slot s t ∧ Keeps [F.prsSnapstate, FC.pressSnapFail.cnt] [.st, .pr, .br, .flt] s t))) ∧
  (∀ (n : Fin 2) (s : State), s.live = true →
    (s.pr.snap = none → ∃ t, exec (.slotfree n) s = .next t ∧ t.snapSlot n = { s.snapSlot n with valid := false } ∧
      (∀ j, j ≠ n.val → t.snapSlot j = s.snapSlot j) ∧ Keeps [] [.st] s t) ∧
    (∀ r, s.pr.snap = some r → r.slot = n → exec (.slotfree n) s = .next s)) ∧
  (∀ (sec e : Nat) (ok : Bool) (s : State), s.live = true → s.qcRuns = true → s.pr.slowDue = some (sec, e) →
    (s.pr.slow.length < 681 → ∃ t, exec (.slowRecordEntry ok) s = .next t ∧ t.pr.slow = s.pr.slow ++ [e] ∧ t.pr.slowDue = none ∧
      Keeps [] [.pr] s t) ∧
    (681 ≤ s.pr.slow.length → ok = true → s.stoneIsol = false → ∃ t, exec (.slowRecordEntry ok) s = .next t ∧ t.pr.slow = [] ∧
      t.st.slowPage = (s.st.slowPage + 1) % 3802 ∧
      t.st.slowMem = s.st.slowMem.writeN (0x0C0000 + 4096 * s.st.slowPage)
        (bytesBE 4 ((if s.pr.slow.isEmpty then sec else s.pr.slowSec) % 2 ^ 32) ++ (s.pr.slow ++ [e]).flatMap (bytesBE 6)) ∧
      Keeps [] [.pr, .st] s t) ∧
    (681 ≤ s.pr.slow.length → ok = false ∨ s.stoneIsol = true → ∃ t, exec (.slowRecordEntry ok) s = .next t ∧ t.pr.slow = [] ∧
      t.rd F.prsSlowdrop = min (s.rd F.prsSlowdrop + 1) 65535 ∧ Keeps [F.prsSlowdrop] [.pr] s t)) ∧
  (∀ (r : Replay) (u : UploadIn) (s : State), s.live = true → s.mode = .replay → s.pr.rp = some r →
    (s.rd F.prsRstate = 1 → replayErr r.src u s ≠ 0 → ∃ t, exec (.replayCheck u) s = .next t ∧ t.rd F.prsRstate = 4 ∧
      t.rd F.prsRerr = replayErr r.src u s ∧ Keeps [F.prsRstate, F.prsRerr] [] s t) ∧
    (s.rd F.prsRstate = 1 → replayErr r.src u s = 0 → ∃ t, exec (.replayCheck u) s = .next t ∧ t.rd F.prsRstate = 2 ∧
      t.pr.rp = some { r with todo := replaySpan r.src u s } ∧ Keeps [F.prsRstate] [.pr] s t) ∧
    (s.rd F.prsRstate = 2 → r.todo = [] → ∃ t, exec .replaySpanEnd s = .next t ∧ t.rd F.prsRstate = 3 ∧
      t.rd F.prsExact = b2n (s.rd F.prsDivcnt == 0) ∧ Keeps [F.prsRstate, F.prsExact] [] s t)) ∧
  (∀ (u : UploadIn) (s : State), (s.snapSlot 0).valid = false → replayErr 0 u s = 1) ∧
  (∀ (u : UploadIn) (s : State), (s.snapSlot 0).valid = true → (s.snapSlot 0).imgs ≠ imgIds s → replayErr 0 u s = 2)

/-- Where the gate is open, a submission clears that agent's buffers, leaves the other's, and puts one attempt in wait with its VERDICT 50 ms
later; an evaluated one counts in tally 10, one in back-off only in BOREJ. An accepted verdict opens LOCK to 2 or 3, clears FAILRUN and queues
tally 11; a failed one raises FAILRUN and ends the back-off 10 × 2^(FAILRUN − 1) s after it. A challenge replaces the old one and expires.
RELOCK, or RELOCKTIME without use, closes an open lock. The session and back-off flags end in time. -/
def Obligations.ServiceLockAttempts : Prop :=
  let dues (s : State) : Nat := nextBoundary s
  (∀ (svc rsp : Bool) (dt : Dt) (s : State), gateOpen svc s = true →
    let a := svcAgent svc
    let at_ := s.at dt.toNat
    let v := refusal a rsp at_ s
    let c : Instr := if rsp then .submitrsp svc dt else .submitpw svc dt
    ∃ t, exec c s = .next t ∧ t.gate a = {} ∧ t.gate (8 - a) = s.gate (8 - a) ∧ (rsp = true → t.sc.chal = none) ∧
      (∃ q, t.sc.runs = s.sc.runs ++ [⟨a, rsp, q, at_ + 50000000 * 65536, false⟩] ∧
        (v ≠ 0 → q = v) ∧ (v = 0 → q = if accepts a rsp s then 2 else 3)) ∧
      (v ≠ 8 → t.rd F.svcVerdict = 1) ∧ (v ≠ 0 → t.st = s.st) ∧ (v ≠ 4 → t.rd F.svcBorej = s.rd F.svcBorej) ∧ (v = 0 → t.st.tallyQ = addTally s.st.tallyQ 10 1) ∧
      (v = 4 → t.rd F.svcBorej = min (s.rd F.svcBorej + 1) 65535) ∧
      t.rd F.dLock = s.rd F.dLock ∧ t.rd F.svcFailrun = s.rd F.svcFailrun) ∧
  (∀ (a : Attempt) (s : State), s.powered = true → s.tm.running = true → s.pw.pf = .none → s.sc.runs = [a] → a.due < dues s →
    (a.result = 2 → s.rd F.dLock = 1 → a.noLock = false → ∃ t, exec .verdict s = .next t ∧ t.rd F.svcVerdict = 2 ∧
      t.rd F.dLock = (if a.rsp then 3 else 2) ∧ t.rd F.svcFailrun = 0 ∧ t.sc.backTo = none ∧ t.rd F.dAccChg = 1 ∧
      (∃ k, (11, k) ∈ t.st.tallyQ) ∧ t.sc.runs = []) ∧
    (a.result = 3 → ∃ t, exec .verdict s = .next t ∧ t.rd F.svcVerdict = 3 ∧ t.rd F.dLock = s.rd F.dLock ∧
      t.rd F.svcFailrun = min (s.rd F.svcFailrun + 1) 65535 ∧ t.sc.runs = [] ∧
      t.sc.backTo = some (backEnd (min (s.rd F.svcFailrun + 1) 65535) a.due)) ∧
    (4 ≤ a.result → a.result < 8 → s.sc.chalNext = none → ∃ t, exec .verdict s = .next t ∧ t.rd F.svcVerdict = a.result ∧
      t.sc = { s.sc with runs := [], view8 := false } ∧ Keeps [F.svcVerdict] [.sc] s t)) ∧
  (∀ (svc : Bool) (dt : Dt) (s : State), gateOpen svc s = true → rspRuns s = false → ∃ t, exec (.chalreq svc dt) s = .next t ∧
    (∃ n, t.sc.chal = some (n, s.at dt.toNat)) ∧ t.freeCount = s.freeCount + 1 ∧ Keeps [] [.sc, .freeCount] s t) ∧
  (∀ (n x : Nat) (s : State), s.powered = true → s.tm.running = true → s.sc.chal = some (n, x) → x + 600 * unitsPerSec < dues s →
    ∃ t, exec .challengeExpire s = .next t ∧ t.sc = { s.sc with chal := none } ∧ Keeps [] [.sc] s t) ∧
  (∀ s : State, s.powered = true → s.tm.running = true → s.is F.dBackoff = true → backUntil s < dues s →
    ∃ t, exec .backoffExpire s = .next t ∧ t.rd F.dBackoff = 0 ∧ t.rd F.dAccChg = 1 ∧ bit (t.frec .unlockBackoff).live 0 = false ∧
      Keeps [F.dAttempts, F.dBackoff, F.dAccChg] [.flt] s t) ∧
  (∀ (svc : Bool) (dt : Dt) (s : State), gateOpen svc s = true →
    (s.rd F.dLock = 2 ∨ s.rd F.dLock = 3 → ∃ t, exec (.relock svc dt) s = .next t ∧ t.rd F.dLock = 1 ∧ t.rd F.dAccChg = 1) ∧
    (s.rd F.dLock = 0 ∨ s.rd F.dLock = 1 → ∃ t, exec (.relock svc dt) s = .next t ∧ t.rd F.dLock = s.rd F.dLock)) ∧
  (∀ s : State, s.powered = true → s.tm.running = true → s.rd F.dLock = 2 ∨ s.rd F.dLock = 3 →
    s.sc.lastUse + s.rd F.svcRelocktime * unitsPerSec < dues s →
    ∃ t, exec .relockTimeout s = .next t ∧ t.rd F.dLock = 1 ∧ t.rd F.dAccChg = 1 ∧ Keeps [F.dLock, F.dAccChg, F.stoHolddef] [.st] s t) ∧
  (∀ (x : Nat) (s : State), s.powered = true → s.tm.running = true → s.sc.lastFrame = some x → x + 10 * unitsPerSec < dues s →
    ∃ t, exec .svcSessionTimeout s = .next t ∧ t.rd F.dSvcsess = 0 ∧ t.sc = { s.sc with lastFrame := none } ∧
      Keeps [F.dSvcsess] [.sc] s t)

/-- SETPW with a valid password in an open lock sets a salted hash and PWISSET, else only clears the host's buffers; PWCLEAR in state 3
clears the password and takes LOCK to 0. UPEN opens the ring in PROVISION and SAFE only, and clearing it ends an upload with a gap marker. A staged
image that fails a check leaves its slot with UCSTAT 3 and the reason; one that passes is programmed, counts in SLOTCNT and ends with UCSTAT 2.
The floor rises only above SECFLOOR where every engine has an image at or above it, and else FLOORSTAT is 2. -/
def Obligations.PasswordUploadAndMicrocode : Prop :=
  (∀ (dt : Dt) (s : State), gateOpen false s = true → ∃ t, exec (.setpw dt) s = .next t ∧ t.gate 0 = {} ∧ t.gate 8 = s.gate 8 ∧
    t.rd F.dLock = s.rd F.dLock ∧
    (svcOpen s = true → pwValid (s.gate 0) = true → t.rd F.svcPwisset = 1 ∧ t.sc.hash = pwHash t.sc.salt (pwBytes (s.gate 0)) ∧
      t.freeCount = s.freeCount + 1) ∧
    (svcOpen s = false ∨ pwValid (s.gate 0) = false → t.rd F.svcPwisset = s.rd F.svcPwisset ∧ t.sc.hash = s.sc.hash ∧ t.st = s.st)) ∧
  (∀ (svc : Bool) (dt : Dt) (s : State), gateOpen svc s = true →
    (s.rd F.dLock = 3 → ∃ t, exec (.pwclear svc dt) s = .next t ∧ t.rd F.dLock = 0 ∧ t.rd F.svcPwisset = 0 ∧ t.sc.hash = 0) ∧
    (s.rd F.dLock ≠ 3 → ∃ t, exec (.pwclear svc dt) s = .next t ∧ t.rd F.dLock = s.rd F.dLock ∧ t.sc.hash = s.sc.hash)) ∧
  (∀ s : State, s.live = true → svcOpen s = true →
    (s.mode = .provision ∨ s.mode = .safe → ∃ t, exec .uploadEnable s = .next t ∧ t.rd F.svcUpen = 1 ∧ pressRuns t = false ∧
      t.pr = { s.pr with upload := true } ∧ Keeps [F.svcUpen] [.pr] s t) ∧
    (s.mode ≠ .provision → s.mode ≠ .safe → exec .uploadEnable s = .next s) ∧
    (s.is F.svcUpen = true → s.pr.upload = true → ∃ t, exec .uploadDisable s = .next t ∧ t.rd F.svcUpen = 0 ∧ t.pr.upload = false ∧
      t.pr.idx.map PIdx.kind = [15] ∧ t.rd F.prsGapcnt = min (s.rd F.prsGapcnt + 1) 65535 ∧ Logged .pressGap 0 0 s t ∧
      Keeps [F.svcUpen, F.prsGapcnt, F.prsWrpos, F.prsDepth, FC.pressGap.cnt] [.pr, .en, .flt, .br] s t)) ∧
  (∀ (w : Word) (s : State), s.live = true → svcOpen s = true → bit w.toNat 15 = true → s.sc.uc = none →
    let code := bits w.toNat 0 2
    let i := stagedImage s.sc.stage
    let r := updateReason s code i
    (r ≠ 0 → r < 16 → ∃ t, exec (.microcodeUpdate w) s = .next t ∧ t.rd F.svcUcState = 3 ∧ t.rd F.svcUcReason = r ∧
      Keeps [F.svcUcState, F.svcUcReason] [] s t) ∧
    (r = 0 → ∃ t, exec (.microcodeUpdate w) s = .next t ∧ t.rd F.svcUcState = 1 ∧ t.rd F.svcUcReason = 0 ∧
      t.sc = { s.sc with uc := some ⟨code - 1, bits w.toNat 2 1, i⟩ } ∧ Keeps [F.svcUcState, F.svcUcReason] [.sc] s t)) ∧
  (∀ (ok : Bool) (r : UcRun) (s : State), s.powered = true → s.sc.uc = some r → let k := 2 * r.e + r.slot
    ∃ t, exec (.microcodeUpdateDone ok) s = .next t ∧ t.rd F.svcUcState = (if ok then 2 else 3) ∧
      t.rd F.svcUcReason = (if ok then 0 else 6) ∧ t.st.slots.get? k = some { r.img with bad := !ok } ∧
      (∀ j, j ≠ k → t.st.slots.get? j = s.st.slots.get? j) ∧ t.rd (F.svcSlotcnt k) = min (s.st.slotCnt.getD k 0 + 1) 65535 ∧
      t.sc.uc = none ∧ Keeps [F.svcUcState, F.svcUcReason, F.svcSlotcnt k] [.st, .sc] s t) ∧
  (∀ s : State, s.live = true → s.rd F.dLock = 3 → s.sc.fuse = none → let n := s.rd F.svcFloornew
    (n ≤ s.pw.floor ∨ floorFits s n = false → ∃ t, exec .floorRaise s = .next t ∧ t.rd F.svcFloorstat = 2 ∧
      Keeps [F.svcFloorstat] [] s t) ∧
    (s.pw.floor < n → floorFits s n = true → ∃ t u, exec .floorRaise s = .next t ∧ exec .floorRaiseDone t = .next u ∧
      u.pw.floor = n ∧ u.rd F.fabSecfloor = n % 65536 ∧ u.rd F.svcFloorstat = 1 ∧
      Keeps [F.svcFloorstat, F.fabSecfloor] [.pw, .sc] s u))

/-- A command of the table of R125 (`cmdOf`: cmdStore, cmdCommit, cmdAbortTxn, cmdBeginTxn, cmdCalAll, cmdCalTdc, cmdCalThresh, cmdCalSkew,
cmdPressSnap, cmdGraftNow, cmdRequalify, cmdAcceptJump, cmdLearnReset, cmdWipeTenant, cmdLockService, cmdUnknownCode) is refused with BUSYREJ
while one runs or waits. Accepted, it shows STATE 1 and is noted for Press, and
starts at a strobe: one accepted while the engines are away starts when they return. It fails its first check with STATE 3 and ERR 1 for an unknown code, 2
for the argument, 3 for the mode or 4 for the precondition. Otherwise: STORE starts a store of the SRAM; BEGIN_TXN and ABORT_TXN open and drop
the host's transaction; COMMIT journals it, or completes at once where it is empty; each calibration command starts its run, or waits behind
one; PRESS_SNAP takes its trigger. -/
def Obligations.CommandsRunOneAtATime : Prop :=
  let acc : List Fld := [F.dStatCode, F.dStatState, F.dStatErr]
  let noted (code a : Nat) (s : State) : PressSt := { s.pr with notes := s.pr.notes ++ [(0x70, bytesBE 1 code ++ bytesBE 1 a)] }
  let runs (code a : Nat) (t : State) : Prop :=
    t.bus.cmd = some ⟨code, a, true⟩ ∧ t.rd F.dStatCode = code ∧ t.rd F.dStatState = 1 ∧ t.rd F.dStatErr = 0
  let done (code : Nat) (t : State) : Prop :=
    t.bus.cmd = none ∧ t.rd F.dStatCode = code ∧ t.rd F.dStatState = 2 ∧ t.rd F.dStatErr = 0 ∧ t.rd F.dCmdDone = 1
  (∀ (c : Instr) (code e : Nat) (a : BitVec 4) (r : CmdRun) (s : State), cmdOf s c = some (code, a, e) → busLive s → s.bus.cmd = some r →
    r.started = true ∨ r.code ≠ code →
    ∃ t, exec c s = .next t ∧ t.rd F.dBusyrej = 1 ∧ Keeps [F.dBusyrej] [] s t) ∧
  (∀ (c : Instr) (code e : Nat) (a : BitVec 4) (s : State), cmdOf s c = some (code, a, e) → takesCommand s → e ≠ 0 →
    ∃ t, exec c s = .next t ∧ t.bus.cmd = none ∧ t.rd F.dStatCode = code ∧ t.rd F.dStatState = 3 ∧ t.rd F.dStatErr = e ∧
      t.rd F.dCmdDone = 1 ∧ t.pr = noted code a.toNat s ∧ Keeps (F.dCmdDone :: acc) [.bus, .pr] s t) ∧
  (∀ (c : Instr) (code e : Nat) (a : BitVec 4) (s : State), cmdOf s c = some (code, a, e) → s.live = true → s.tm.running = true → s.en.restart = none →
    s.bus.cmd = some ⟨code, a.toNat, false⟩ → e ≠ 0 →
    ∃ t, exec c s = .next t ∧ t.bus.cmd = none ∧ t.rd F.dStatState = 3 ∧ t.rd F.dStatErr = e ∧ t.rd F.dCmdDone = 1 ∧
      Keeps [F.dCmdDone, F.dStatState, F.dStatErr] [.bus] s t) ∧
  (∀ (c : Instr) (code e : Nat) (a : BitVec 4) (s : State), cmdOf s c = some (code, a, e) → busLive s → s.bus.cmd = none → s.pw.pf = .none →
    s.tm.running = false ∨ s.en.restart ≠ none →
    ∃ t, exec c s = .next t ∧ t.bus.cmd = some ⟨code, a.toNat, false⟩ ∧ t.rd F.dStatCode = code ∧ t.rd F.dStatState = 1 ∧
      t.rd F.dStatErr = 0 ∧ t.pr = noted code a.toNat s ∧ Keeps acc [.bus, .pr] s t) ∧
  (∀ s : State, takesCommand s → s.mode.operating = true →
    (stoneBusy s = false → s.stoneIsol = false → ∃ t, exec (.cmdStore 0) s = .next t ∧ runs 1 0 t ∧
      (∃ r, t.st.store = some r ∧ r.why = .cmd ∧ r.jser = s.st.applied ∧ r.img.mem = s.st.shadow.mem) ∧ Keeps acc [.bus, .st, .pr] s t) ∧
    (s.txn 0 = none → ∃ t, exec (.cmdBeginTxn 0) s = .next t ∧ done 0x70 t ∧ t.txn 0 = some [] ∧
      Keeps (F.dCmdDone :: acc) [.bus, .st, .pr] s t) ∧
    (s.txn 0 ≠ none → ∃ t, exec (.cmdAbortTxn 0) s = .next t ∧ done 3 t ∧ t.txn 0 = none ∧ t.st.shadow = s.st.shadow ∧
      Keeps (F.dCmdDone :: acc) [.bus, .st, .pr] s t) ∧
    (s.txn 0 = some [] → ∃ t, exec (.cmdCommit 0) s = .next t ∧ done 2 t ∧ t.rd F.dCommitdone = 1 ∧ t.txn 0 = none ∧
      Keeps (F.dCmdDone :: F.dCommitdone :: acc) [.bus, .st, .pr] s t) ∧
    (∀ m i, s.txn 0 = some m → m ≠ [] → s.stoneIsol = false → freeSlot s 0 = some i → ∃ t, exec (.cmdCommit 0) s = .next t ∧ runs 2 0 t ∧
      t.txn 0 = none ∧ t.st.journal.get? (64 * 0 + i) = some ⟨s.st.serial + 1, false, m⟩ ∧ t.st.shadow = s.st.shadow ∧
      Keeps acc [.bus, .st, .pr] s t) ∧
    (∀ i, s.pr.snap = none → snapTarget s = some i → ∃ t, exec (.cmdPressSnap 0) s = .next t ∧ runs 0x20 0 t ∧
      t.pr = { noted 0x20 0 s with snap := some ⟨i, s.beatcnt, s.tm.now, 0, [s.beatcnt], true, none, []⟩ } ∧ t.rd F.prsSnapstate = 1 ∧
      Keeps (F.prsSnapstate :: acc) [.bus, .pr] s t)) ∧
  (∀ (c : Instr) (kind : Nat) (a : BitVec 4) (s : State), takesCommand s → calMode s = true →
    (c = .cmdCalAll a ∧ kind = 1 ∧ a = 0 ∧ s.domOn 2 = true) ∨ (c = .cmdCalTdc a ∧ kind = 2 ∧ a = 0 ∧ s.domOn 2 = true) ∨
      (c = .cmdCalThresh a ∧ kind = 3 ∧ a.toNat ≤ 4 ∧ s.domOn 11 = true) ∨ (c = .cmdCalSkew a ∧ kind = 4 ∧ a.toNat ≤ 8) →
    (s.ca.run = none → ∃ t, exec c s = .next t ∧ runs (0x0F + kind) a.toNat t ∧
      t.ca.run = some { kind := kind, items := calSkip s (calItems kind a.toNat), cmd := 0x0F + kind } ∧ t.rd F.dCalBusy = 1 ∧
      t.rd F.dLastkind = kind ∧ t.rd F.dCalcnt = min (s.rd F.dCalcnt + 1) 65535 ∧ t.st.tallyQ = addTally s.st.tallyQ 12 1 ∧
      Keeps ([F.dCalBusy, F.dLastkind, F.dCalcnt, F.calTdcstale, F.calAuxstale, F.dCalStale] ++ acc) [.bus, .ca, .rf, .st, .pr] s t) ∧
    (∀ r, s.ca.run = some r → ∃ t, exec c s = .next t ∧ runs (0x0F + kind) a.toNat t ∧
      t.ca = { s.ca with queued := some (0x0F + kind, a.toNat) } ∧ Keeps acc [.bus, .ca, .pr] s t))

/-- GRAFT_NOW drops a Graft in progress and has the one onto the preferred reference begin as a start of selection's does. REQUALIFY restarts an enabled reference and leaves one that is
not. ACCEPT_JUMP applies the pending jump, and LEARN_RESET the factory model, with MQ 0 and READY clear. LOCK_SERVICE with a password locks the
unit. WIPE_TENANT keeps the ownership, clears every DIRTY mark of the tenant and its link, and asks for two stores, or fails with ERR 5 where
Stone is out of service; its end clears the block marks and ends the command. -/
def Obligations.SystemCommandsTakeEffect : Prop :=
  let acc : List Fld := [F.dStatCode, F.dStatState, F.dStatErr]
  let started (code a : Nat) (s u : State) : Prop :=
    u.bus.cmd = some ⟨code, a, true⟩ ∧ u.rd F.dStatCode = code ∧ u.rd F.dStatState = 1 ∧ u.pr = { s.pr with notes := s.pr.notes ++ [(0x70, bytesBE 1 code ++ bytesBE 1 a)] } ∧
    Keeps acc [.bus, .pr] s u
  let done (code : Nat) (t : State) : Prop :=
    t.bus.cmd = none ∧ t.rd F.dStatCode = code ∧ t.rd F.dStatState = 2 ∧ t.rd F.dStatErr = 0 ∧ t.rd F.dCmdDone = 1
  (∀ (n : Nat) (s : State), takesCommand s → s.mode = .track ∨ s.mode = .holdover ∨ s.mode = .ensemble → preferred s = some n →
    n ≠ s.rd F.dSelref → ∃ u v, started 0x30 0 s u ∧ v = selPut n (graftDrop u) ∧ v.is F.dGrafting = false ∧
      exec (.cmdGraftNow 0) s = .next (if timeRef v n then graftTime n v else graftFreq n v)) ∧
  (∀ (n : Fin 10) (s : State), takesCommand s → s.mode.operating = true →
    let c : Instr := .cmdRequalify (BitVec.ofNat 4 n)
    (s.is (F.refEnable n) = true → ∃ t, exec c s = .next t ∧ done 0x31 t ∧
      Entered n (if n.val < 4 then 1 else 2) s t ∧ (t.ref n).samples = [] ∧
      Keeps ([F.refRisecnt n, F.refFallcnt n, F.refSettled n, F.refState n, F.refTimer n, F.dRefChg, F.servoJrefmask, F.dJumpPend,
        F.dCmdDone] ++ acc) [.bus, .rf, .flt, .pr] s t) ∧
    (s.is (F.refEnable n) = false → ∃ t, exec c s = .next t ∧ done 0x31 t ∧ Keeps (F.dCmdDone :: acc) [.bus, .pr] s t)) ∧
  (∀ s : State, takesCommand s → s.mode.operating = true → ∃ t, exec (.cmdRequalify 15) s = .next t ∧ done 0x31 t ∧ ∀ n : Fin 10,
    t.refState n = if s.is (F.refEnable n) then (if n.val < 4 then 1 else 2) else s.refState n) ∧
  (∀ (step : Bool) (s : State), takesCommand s → jumpMode s = true → s.is F.dJumpPend = true ∨ confirmedNow s = true →
    ∃ u t, started 0x32 (b2n step) s u ∧ exec (.cmdAcceptJump (if step then 1 else 0)) s = .next t ∧
      t = (acceptJump step u).cmdEnd 0x32 0 ∧ t.rd F.dJumpAcc = 1) ∧
  (∀ s : State, takesCommand s → s.mode = .provision ∨ s.mode = .track → ∃ u t, started 0x40 0 s u ∧
    exec (.cmdLearnReset 0) s = .next t ∧ t = (learnReset u).cmdEnd 0x40 0 ∧ done 0x40 t ∧ t.rd F.dMq = 0 ∧ t.rd F.dReady = 0 ∧
    t.rd F.servoLearns = 0 ∧ t.rd F.servoAget = s.rd F.servoAget) ∧
  (∀ s : State, takesCommand s → s.mode.operating = true → s.is F.svcPwisset = true →
    ∃ t, exec (.cmdLockService 0) s = .next t ∧ done 0x60 t ∧ t.rd F.dLock = 1 ∧ (s.rd F.dLock ≠ 1 → t.rd F.dAccChg = 1) ∧
      Keeps (F.dCmdDone :: F.dLock :: F.dAccChg :: F.stoHolddef :: acc) [.bus, .st, .sc, .pr] s t) ∧
  (∀ (k : Fin 4) (s : State), takesCommand s → s.mode.operating = true →
    ∃ t, exec (.cmdWipeTenant (BitVec.ofNat 4 (k + 1))) s = .next t ∧ t.bus.cmd = some ⟨0x50, k + 1, true⟩ ∧ t.rd F.dStatState = 1 ∧
      t.tn.own = s.tn.own ∧ (∀ kind, kind < 5 → t.rd (resDirty kind k) = 0) ∧ t.link k = {} ∧ t.fifo (k + 1) = [] ∧
      t.tn.wipe = some ⟨k, if s.stoneIsol then 0 else 2, s.stoneIsol⟩) ∧
  (∀ (k : Fin 4) (w : Wipe) (a : Nat) (s : State), s.powered = true → s.tn.wipe = some w → w.k = k → s.bus.cmd = some ⟨0x50, a, true⟩ →
    (w.failed = false → w.stores = 0 → ∃ t, exec (.wipeDone k) s = .next t ∧ t.tn.wipe = none ∧ t.bus.cmd = none ∧
      t.rd F.dStatState = 2 ∧ t.rd F.dStatErr = 0 ∧ (∀ p ∈ t.st.dirty, p.2 ≠ k + 1) ∧
      t.rd (F.tvAbortcnt k) = min (s.rd (F.tvAbortcnt k) + (s.link k).wiped) 65535 ∧
      Keeps (F.dCmdDone :: F.tvAbortcnt k :: acc) [.bus, .st, .tn] s t) ∧
    (w.failed = true → ∃ t, exec (.wipeDone k) s = .next t ∧ t.tn.wipe = none ∧ t.bus.cmd = none ∧ t.rd F.dStatState = 3 ∧
      t.rd F.dStatErr = 5 ∧ t.st = s.st ∧ Keeps (F.dCmdDone :: F.tvAbortcnt k :: acc) [.bus, .tn] s t))
end

