-- ==== Sys2Proof/Laws/State.lean ====
section
/-! SUPPORT. What the named operations over the register file and the state do, each said once. -/
namespace Sys2Proof.Machine

/-! ## Sparse maps -/

theorem SMap.get?_set_same {α : Type} (m : SMap α) (j : Nat) (x : α) : (m.set j x).get? j = some x := by
  induction m with
  | nil => simp [SMap.set, SMap.get?]
  | cons p m ih =>
    obtain ⟨k, v⟩ := p
    simp only [SMap.set]
    split
    · simp [SMap.get?]
    · split
      · simp [SMap.get?]
      · rename_i h1 h2
        have : ¬ k = j := fun e => h2 e.symm
        simp [SMap.get?, this, ih]

theorem SMap.get?_set_ne {α : Type} (m : SMap α) {i j : Nat} (x : α) (h : j ≠ i) : (m.set j x).get? i = m.get? i := by
  induction m with
  | nil => simp [SMap.set, SMap.get?, h]
  | cons p m ih =>
    obtain ⟨k, v⟩ := p
    simp only [SMap.set]
    split
    · simp [SMap.get?, h]
    · split
      · rename_i h1 h2
        subst h2
        simp [SMap.get?, h]
      · simp [SMap.get?, ih]

theorem SMap.getD_set_same {α : Type} (m : SMap α) (j : Nat) (x d : α) : (m.set j x).getD j d = x := by
  simp [SMap.getD, SMap.get?_set_same]

theorem SMap.getD_set_ne {α : Type} (m : SMap α) {i j : Nat} (x d : α) (h : j ≠ i) :
    (m.set j x).getD i d = m.getD i d := by
  simp [SMap.getD, SMap.get?_set_ne m x h]

/-! ## Register fields -/

theorem State.rd_wr_same (s : State) (f : Fld) (v : Nat) : (s.wr f v).rd f = v % 2 ^ f.w := SMap.getD_set_same _ _ _ _

theorem State.rd_wr_key (s : State) {f g : Fld} (v : Nat) (h : f.key = g.key) : (s.wr f v).rd g = v % 2 ^ f.w := by
  simp [State.rd, State.wr, ← h, SMap.getD_set_same]

theorem State.rd_wr_ne (s : State) {f g : Fld} (v : Nat) (h : f.key ≠ g.key) : (s.wr f v).rd g = s.rd g :=
  SMap.getD_set_ne _ _ _ h

/-! ## Frames -/

theorem Keeps.refl (l : List Fld) (p : List Part) (s : State) : Keeps l p s s :=
  ⟨rfl, fun _ _ => rfl, fun p _ => by cases p <;> rfl⟩

theorem Keeps.trans {l : List Fld} {p : List Part} {s t u : State} (h : Keeps l p s t) (k : Keeps l p t u) :
    Keeps l p s u :=
  ⟨k.queue.trans h.queue, fun f hf => (k.regs f hf).trans (h.regs f hf), fun q hq => by
    have a := h.part q hq
    have b := k.part q hq
    cases q <;> exact b.trans a⟩

theorem Keeps.wr {l : List Fld} {p : List Part} {s t : State} (h : Keeps l p s t) {f : Fld} (v : Nat) (hf : f ∈ l) :
    Keeps l p s (t.wr f v) :=
  ⟨h.queue, fun g hg => (t.rd_wr_ne v (hg f hf)).trans (h.regs g hg), fun q hq => by
    have a := h.part q hq
    cases q <;> exact a⟩

theorem Keeps.mono {l l' : List Fld} {p p' : List Part} {s t : State} (h : Keeps l p s t) (hl : ∀ f ∈ l, f ∈ l')
    (hp : ∀ q ∈ p, q ∈ p') : Keeps l' p' s t :=
  ⟨h.queue, fun f hf => h.regs f (fun g hg => hf g (hl g hg)), fun q hq => h.part q (fun hm => hq (hp q hm))⟩

/-- A change of the parts of `p` alone, the register file and the queue as they were. -/
theorem Keeps.upd {l : List Fld} {p : List Part} {s t u : State} (h : Keeps l p s t) (hq : u.pending = t.pending)
    (hr : u.regs = t.regs) (hp : ∀ q, q ∉ p → q.same t u) : Keeps l p s u :=
  ⟨hq.trans h.queue, fun f hf => by
      have a := h.regs f hf
      simpa [State.rd, hr] using a, fun q hq' => by
    have a := h.part q hq'
    have b := hp q hq'
    cases q <;> exact b.trans a⟩

end Sys2Proof.Machine
end

