-- ==== Sys2Proof/Laws/Faults.lean ====
section
/-! SUPPORT. What an occurrence of a fault class leaves (R386), said once for `occ` and for `liveSet`. -/
namespace Sys2Proof.Machine

theorem FC.at?_self (c : FC) : FC.at? c.blk c.bit = some c := by cases c <;> rfl

theorem FC.key_div (c : FC) : c.key / 16 = c.blk ∧ c.key % 16 = c.bit := by cases c <;> decide

/-- No two classes share a key. -/
theorem FC.key_inj {c d : FC} (h : c.key = d.key) : c = d := by
  have e1 : c.blk = d.blk := by rw [← c.key_div.1, ← d.key_div.1, h]
  have e2 : c.bit = d.bit := by rw [← c.key_div.2, ← d.key_div.2, h]
  have := FC.at?_self c
  rw [e1, e2, FC.at?_self d] at this
  exact (Option.some.inj this).symm

theorem State.frec_setFrec_same (s : State) (c : FC) (r : FRec) : (s.setFrec c r).frec c = r := SMap.getD_set_same _ _ _ _

theorem State.frec_setFrec_ne (s : State) {c d : FC} (r : FRec) (h : d ≠ c) : (s.setFrec c r).frec d = s.frec d :=
  SMap.getD_set_ne _ _ _ (fun e => h (FC.key_inj e).symm)

theorem SMap.any_of_get? {α : Type} {m : SMap α} {p : Nat × α → Bool} {j : Nat} {v : α} (h : m.get? j = some v)
    (hp : p (j, v) = true) : m.any p = true := by
  induction m with
  | nil => simp [SMap.get?] at h
  | cons q m ih =>
    obtain ⟨k, w⟩ := q
    simp only [SMap.get?] at h
    split at h
    · rename_i e
      simp_all
    · simp [ih h]

/-- A value replaced by one of which a test says the same leaves the test over the whole map as it was. -/
theorem SMap.any_set {α : Type} (m : SMap α) (p : Nat × α → Bool) (j : Nat) (x d : α)
    (hx : p (j, x) = p (j, m.getD j d)) (hd : p (j, d) = false) : (m.set j x).any p = m.any p := by
  induction m with
  | nil => simpa [SMap.set, SMap.getD, SMap.get?, hd] using hx
  | cons q m ih =>
    obtain ⟨k, w⟩ := q
    simp only [SMap.set]
    split
    · rename_i hlt
      rw [List.any_cons]
      cases hpx : p (j, x) with
      | false => simp
      | true =>
        rw [hpx] at hx
        cases hg : SMap.get? ((k, w) :: m) j with
        | none => simp [SMap.getD, hg, hd] at hx
        | some v =>
          simp only [SMap.getD, hg, Option.getD_some] at hx
          simp [SMap.any_of_get? hg hx.symm]
    · split
      · rename_i h1 h2
        subst h2
        simp [SMap.getD, SMap.get?] at hx
        simp [hx]
      · rename_i h1 h2
        have hk : ¬ k = j := fun e => h2 e.symm
        simp only [SMap.getD, SMap.get?, hk, if_false] at hx
        simp [ih hx]

theorem State.frec_wr (s : State) (f : Fld) (v : Nat) (c : FC) : (s.wr f v).frec c = s.frec c := rfl

/-- A record replaced by one that is as uncleared as it was leaves the block's uncleared test as it was. -/
theorem FaultSt.blkUncl_set (s : State) (c : FC) (r : FRec) (b : Nat) (h : r.uncl = (s.frec c).uncl) :
    (s.setFrec c r).flt.blkUncl b = s.flt.blkUncl b := by
  simp only [FaultSt.blkUncl, State.setFrec]
  refine SMap.any_set _ _ _ _ {} ?_ (by simp)
  show _ = (c.key / 16 == b && (s.frec c).uncl)
  simp [h]

theorem FRec.occur_live (r : FRec) (l : Nat) (e : Bool) (bi sf : Bool) (d k : Nat) :
    ({ r with live := l, evLive := e }.occur bi sf d k).level = (r.occur bi sf d k).level := by
  unfold FRec.occur
  split <;> simp_all

theorem FRec.occur_uncl (r : FRec) (bi sf : Bool) (d k : Nat) : (r.occur bi sf d k).uncl = true := by
  unfold FRec.occur
  split <;> simp_all

theorem occurAt_recorded (c : FC) (d k : Nat) (inst : Option Nat) (info master t : Nat) (s : State) :
    let u := occurAt c d k inst info master t s
    u.rd (F.fltCnt c.blk c.bit) = min (s.rd (F.fltCnt c.blk c.bit) + 1) 65535 ∧ (u.frec c).uncl = true ∧
    (u.frec c).level = ((s.frec c).occur c.byInst (s.mode == .safe) (linkBound master d) (linkBound master k)).level ∧
    Captured c info s u ∧
    (∀ c' : FC, c' ≠ c → u.frec c' = s.frec c') ∧
    (u.br = if s.flt.blkUncl c.blk then s.br else { s.br with due := s.br.due ||| 2 ^ 40 }) ∧
    u.pr = { s.pr with trigFault := u.pr.trigFault } ∧ u.pending = s.pending ∧
    (∀ f : Fld, (F.fltCnt c.blk c.bit).key ≠ f.key → u.rd f = s.rd f) := by
  intro u
  have hw : (F.fltCnt c.blk c.bit).w = 16 := rfl
  have hcnt : ∀ v : Nat, satUns 16 v % 2 ^ 16 = min v 65535 := by
    intro v; unfold satUns; omega
  simp only [u, occurAt]
  generalize hO : (s.frec c).occur c.byInst (s.mode == .safe) (linkBound master d) (linkBound master k) = O
  have hO' : O.uncl = true := hO ▸ FRec.occur_uncl _ _ _ _ _
  generalize hR : (if (c.hasResource && O.level == 2 || c.hasResource && c == .beatOverrun && decide (2 ≤ O.level)) = true
    then (match inst with
      | some i => { O with isol := setBit O.isol i true }
      | none => O)
    else O) = R
  have hlev : R.level = O.level := by
    subst hR; split
    · split <;> rfl
    · rfl
  have huncl : R.uncl = true := by
    subst hR; split
    · split <;> simp [hO']
    · simp [hO']
  clear hR
  cases hb : s.flt.blkUncl c.blk <;>
    simp only [Bool.not_false, Bool.not_true, Bool.false_eq_true, if_true, if_false]
  all_goals
    refine ⟨?_, ?_, ?_, ⟨captOf s c R info master t, ?_, rfl, rfl, rfl⟩, ?_, ?_, ?_, rfl, ?_⟩
    · exact (SMap.getD_set_same _ _ _ _).trans (hcnt _)
    · exact (congrArg FRec.uncl (SMap.getD_set_same _ _ _ _)).trans huncl
    · exact (congrArg FRec.level (SMap.getD_set_same _ _ _ _)).trans hlev
    · exact SMap.get?_set_same _ _ _
    · intro c' h
      exact SMap.getD_set_ne _ _ _ (fun e => h (FC.key_inj e).symm)
    · rfl
    · rfl
    · intro f hf
      exact SMap.getD_set_ne _ _ _ hf

theorem State.evLive_same (s : State) (c : FC) : (s.evLive c).regs = s.regs ∧ (s.evLive c).pending = s.pending ∧
    (s.evLive c).br = s.br ∧ (s.evLive c).pr = s.pr ∧ (s.evLive c).flt.last = s.flt.last := by
  unfold State.evLive
  split <;> exact ⟨rfl, rfl, rfl, rfl, rfl⟩

theorem State.evLive_frec (s : State) (c c' : FC) : ((s.evLive c).frec c').level = (s.frec c').level ∧
    ((s.evLive c).frec c').uncl = (s.frec c').uncl ∧ (c' ≠ c → (s.evLive c).frec c' = s.frec c') := by
  unfold State.evLive
  split
  · by_cases h : c' = c
    · subst h
      simp [State.frec_setFrec_same]
    · simp [State.frec_setFrec_ne _ _ h]
  · simp

theorem State.evLive_rd (s : State) (c : FC) (f : Fld) : (s.evLive c).rd f = s.rd f := by
  unfold State.rd
  rw [(State.evLive_same s c).1]

/-- A real occurrence is `occurAt`, the mark of an event class and the cycle noted. -/
theorem State.occ_eq (s : State) (c : FC) (inst info master dt : Nat) : ∃ x, s.occ c inst info master dt =
    ((occurAt c (c.dflt inst) (c.ceil inst) (some inst) info master (s.at dt) s).evLive c).setFrec c
      { ((occurAt c (c.dflt inst) (c.ceil inst) (some inst) info master (s.at dt) s).evLive c).frec c with real := x } :=
  ⟨_, rfl⟩

/-- An occurrence is recorded, and changes no register field but its counter. -/
theorem State.occ_recorded (s : State) (c : FC) (inst info master dt : Nat) :
    Recorded c inst info s (s.occ c inst info master dt) master := by
  have h := occurAt_recorded c (c.dflt inst) (c.ceil inst) (some inst) info master (s.at dt) s
  obtain ⟨x, d⟩ := s.occ_eq c inst info master dt
  rw [d]
  dsimp only at h
  revert h
  generalize occurAt c (c.dflt inst) (c.ceil inst) (some inst) info master (s.at dt) s = u
  rintro ⟨h1, h2, h3, ⟨cp, h4⟩, h5, h6, h7, -, -⟩
  obtain ⟨-, -, e3, e4, e5⟩ := State.evLive_same u c
  have e6 := State.evLive_frec u c
  refine ⟨(State.evLive_rd _ _ _).trans h1, ?_, ?_, ⟨cp, ?_, h4.2⟩, ?_, e3.trans h6, ?_⟩
  · rw [State.frec_setFrec_same]; exact (e6 c).2.1.trans h2
  · rw [State.frec_setFrec_same]; exact (e6 c).1.trans h3
  · rw [← h4.1, ← e5]; rfl
  · intro c' hc
    rw [State.frec_setFrec_ne _ _ hc]
    exact ((e6 c').2.2 hc).trans (h5 c' hc)
  · show (u.evLive c).pr = { s.pr with trigFault := (u.evLive c).pr.trigFault }
    rw [e4]; exact h7

/-- An occurrence changes the faults, Bramble's events due and Press's trigger, and no other part. -/
theorem occurAt_part (c : FC) (d k : Nat) (inst : Option Nat) (info master x : Nat) (s : State) (q : Part)
    (h1 : q ≠ .flt) (h2 : q ≠ .br) (h3 : q ≠ .pr) : q.same s (occurAt c d k inst info master x s) := by
  unfold occurAt
  dsimp only
  split <;> cases q <;> first | rfl | exact absurd rfl h1 | exact absurd rfl h2 | exact absurd rfl h3

theorem State.evLive_part (s : State) (c : FC) (q : Part) (h1 : q ≠ .flt) : q.same s (s.evLive c) := by
  unfold State.evLive
  split <;> cases q <;> first | rfl | exact absurd rfl h1

/-- The fields and the parts that an occurrence may change. -/
theorem Keeps.occ {l : List Fld} {p : List Part} {s t : State} (h : Keeps l p s t) (c : FC) (inst info master dt : Nat)
    (hf : F.fltCnt c.blk c.bit ∈ l) (h1 : Part.flt ∈ p) (h2 : Part.br ∈ p) (h3 : Part.pr ∈ p) :
    Keeps l p s (t.occ c inst info master dt) := by
  have o := occurAt_recorded c (c.dflt inst) (c.ceil inst) (some inst) info master (t.at dt) t
  have op := occurAt_part c (c.dflt inst) (c.ceil inst) (some inst) info master (t.at dt) t
  obtain ⟨x, d⟩ := t.occ_eq c inst info master dt
  rw [d]
  dsimp only at o
  revert o op
  generalize occurAt c (c.dflt inst) (c.ceil inst) (some inst) info master (t.at dt) t = u
  rintro ⟨-, -, -, -, -, -, -, oq, of⟩ op
  refine ⟨(State.evLive_same u c).2.1.trans (oq.trans h.queue),
    fun f hg => (State.evLive_rd _ _ _).trans ((of f (hg _ hf)).trans (h.regs f hg)), fun q hq => ?_⟩
  have ne : ∀ r, r ∈ p → q ≠ r := fun r hr e => hq (e ▸ hr)
  have a := h.part q hq
  have b := op q (ne _ h1) (ne _ h2) (ne _ h3)
  have e := State.evLive_part u c q (ne _ h1)
  cases q <;> first | exact e.trans (b.trans a) | exact absurd h1 hq

theorem FRec.occur_liveBit (r : FRec) (bi sf : Bool) (d k : Nat) : (r.occur bi sf d k).live = r.live := by
  unfold FRec.occur
  split <;> simp_all

theorem State.occ_live (s : State) (c : FC) (i info master dt : Nat) :
    ((s.occ c i info master dt).frec c).live = (s.frec c).live := by
  have e : ((occurAt c (c.dflt i) (c.ceil i) (some i) info master (s.at dt) s).frec c).live = (s.frec c).live := by
    unfold occurAt
    cases hb : s.flt.blkUncl c.blk <;> simp only [Bool.not_false, Bool.not_true, Bool.false_eq_true, if_true, if_false] <;>
      refine (congrArg FRec.live (SMap.getD_set_same _ _ _ _)).trans ?_ <;> split <;> simp [FRec.occur_liveBit]
  obtain ⟨x, d⟩ := s.occ_eq c i info master dt
  rw [d, State.frec_setFrec_same]
  unfold State.evLive
  split
  · simpa [State.frec_setFrec_same] using e
  · exact e

/-- The live bit of a condition class rises: one occurrence. -/
theorem State.liveSet_recorded (s : State) (c : FC) (i info master dt : Nat) (h : bit (s.frec c).live i = false) :
    Recorded c i info s (s.liveSet c i info master dt) master ∧
      ((s.liveSet c i info master dt).frec c).live = setBit (s.frec c).live i true := by
  have e : s.liveSet c i info master dt =
      ((s.setFrec c { s.frec c with live := setBit (s.frec c).live i true })).occ c i info master dt := by
    unfold State.liveSet
    rw [if_neg (by simp [h])]
  rw [e]
  constructor
  · obtain ⟨h1, h2, h3, h4, h5, h6, h7⟩ := State.occ_recorded
      (s.setFrec c { s.frec c with live := setBit (s.frec c).live i true }) c i info master dt
    refine ⟨h1, h2, ?_, h4, ?_, ?_, h7⟩
    · rw [h3, State.frec_setFrec_same]
      exact FRec.occur_live (s.frec c) _ (s.frec c).evLive _ _ _ _
    · intro c' hc
      rw [h5 c' hc, State.frec_setFrec_ne _ _ hc]
    · rw [FaultSt.blkUncl_set s c { s.frec c with live := setBit (s.frec c).live i true } c.blk rfl] at h6
      exact h6
  · rw [State.occ_live, State.frec_setFrec_same]

theorem Keeps.liveSet {l : List Fld} {p : List Part} {s t : State} (h : Keeps l p s t) (c : FC) (i info master dt : Nat)
    (hf : F.fltCnt c.blk c.bit ∈ l) (h1 : Part.flt ∈ p) (h2 : Part.br ∈ p) (h3 : Part.pr ∈ p) :
    Keeps l p s (t.liveSet c i info master dt) := by
  unfold State.liveSet
  split
  · exact h
  · have k : Keeps l p s (t.setFrec c { t.frec c with live := setBit (t.frec c).live i true }) :=
      Keeps.upd h rfl rfl (fun q hq => by cases q <;> first | rfl | exact absurd h1 hq)
    exact k.occ c i info master dt hf h1 h2 h3

/-- The live bit of an instance falls: the record of no other class changes. -/
theorem State.liveClr_frec (s : State) (c : FC) (i : Nat) :
    (s.liveClr c i).frec c = { s.frec c with live := setBit (s.frec c).live i false } ∧
      ∀ c', c' ≠ c → (s.liveClr c i).frec c' = s.frec c' :=
  ⟨State.frec_setFrec_same _ _ _, fun _ h => State.frec_setFrec_ne _ _ h⟩

theorem Keeps.liveClr {l : List Fld} {p : List Part} {s t : State} (h : Keeps l p s t) (c : FC) (i : Nat)
    (h1 : Part.flt ∈ p) : Keeps l p s (t.liveClr c i) :=
  h.upd rfl rfl (fun q hq => by cases q <;> first | rfl | exact absurd h1 hq)

end Sys2Proof.Machine
end

