-- ==== Sys2Proof/Laws/Memory.lean ====
section
/-! SUPPORT. Addressed memory: a read after a write, and that every operation over a memory, and over the register file, keeps its
canonical form. -/
namespace Sys2Proof.Machine

/-! ## The canonical form -/

theorem Mem.wfAbove_mono {m : Mem} {a b : Nat} (h : Mem.wfAbove b m = true) (hab : a ≤ b) : Mem.wfAbove a m = true := by
  cases m with
  | nil => rfl
  | cons p m =>
    obtain ⟨k, v⟩ := p
    simp only [Mem.wfAbove, Bool.and_eq_true, decide_eq_true_eq] at h ⊢
    exact ⟨⟨by omega, h.1.2⟩, h.2⟩

theorem Mem.wf_iff_above {k : Nat} {v : Byte} {m : Mem} :
    Mem.wf ((k, v) :: m) = true ↔ v ≠ Mem.blank ∧ Mem.wfAbove k m = true := by
  simp [Mem.wf]

theorem Mem.wf_of_above {n : Nat} {m : Mem} (h : Mem.wfAbove n m = true) : Mem.wf m = true := by
  cases m with
  | nil => rfl
  | cons p m =>
    obtain ⟨k, v⟩ := p
    simp only [Mem.wfAbove, Bool.and_eq_true] at h
    simp only [Mem.wf, Bool.and_eq_true]
    exact ⟨h.1.2, h.2⟩

theorem Mem.wfAbove_write {n : Nat} {m : Mem} {a : Nat} (b : Byte) (h : Mem.wfAbove n m = true) (ha : n < a) :
    Mem.wfAbove n (m.write a b) = true := by
  induction m generalizing n with
  | nil =>
    simp only [Mem.write]
    split <;> simp_all [Mem.wfAbove]
  | cons p m ih =>
    obtain ⟨k, v⟩ := p
    simp only [Mem.wfAbove, Bool.and_eq_true, decide_eq_true_eq] at h
    simp only [Mem.write]
    by_cases h1 : a < k
    · rw [if_pos h1]
      split
      · simp only [Mem.wfAbove, Bool.and_eq_true, decide_eq_true_eq]; exact h
      · rename_i hb
        simp only [Mem.wfAbove, Bool.and_eq_true, decide_eq_true_eq, bne_iff_ne]
        exact ⟨⟨ha, hb⟩, ⟨h1, by simpa using h.1.2⟩, h.2⟩
    · rw [if_neg h1]
      by_cases h2 : a = k
      · rw [if_pos h2]
        split
        · exact Mem.wfAbove_mono h.2 (by omega)
        · rename_i hb
          simp only [Mem.wfAbove, Bool.and_eq_true, decide_eq_true_eq, bne_iff_ne]
          exact ⟨⟨ha, hb⟩, h2 ▸ h.2⟩
      · rw [if_neg h2]
        simp only [Mem.wfAbove, Bool.and_eq_true, decide_eq_true_eq]
        exact ⟨h.1, ih h.2 (by omega)⟩

/-- A write keeps the canonical form. -/
theorem Mem.wf_write {m : Mem} (a : Nat) (b : Byte) (h : m.wf = true) : (m.write a b).wf = true := by
  cases m with
  | nil => simp only [Mem.write]; split <;> simp_all [Mem.wf, Mem.wfAbove]
  | cons p m =>
    obtain ⟨k, v⟩ := p
    rw [Mem.wf_iff_above] at h
    simp only [Mem.write]
    by_cases h1 : a < k
    · rw [if_pos h1]
      split
      · exact Mem.wf_iff_above.2 h
      · rename_i hb
        refine Mem.wf_iff_above.2 ⟨hb, ?_⟩
        simp only [Mem.wfAbove, Bool.and_eq_true, decide_eq_true_eq, bne_iff_ne]
        exact ⟨⟨h1, h.1⟩, h.2⟩
    · rw [if_neg h1]
      by_cases h2 : a = k
      · rw [if_pos h2]
        split
        · exact Mem.wf_of_above h.2
        · rename_i hb
          exact Mem.wf_iff_above.2 ⟨hb, h2 ▸ h.2⟩
      · rw [if_neg h2]
        exact Mem.wf_iff_above.2 ⟨h.1, Mem.wfAbove_write b h.2 (by omega)⟩

/-- So does a write of several bytes. -/
theorem Mem.wf_writeN {m : Mem} (a : Nat) (l : List Byte) (h : m.wf = true) : (m.writeN a l).wf = true := by
  induction l generalizing m a with
  | nil => exact h
  | cons b l ih => exact ih (a + 1) (Mem.wf_write a b h)

/-- And a write of a word. -/
theorem Mem.wf_writeW {m : Mem} (a w : Nat) (h : m.wf = true) : (m.writeW a w).wf = true :=
  Mem.wf_write _ _ (Mem.wf_write _ _ h)

theorem Mem.wfAbove_filter {n : Nat} {m : Mem} (p : Host.Cell → Bool) (h : Mem.wfAbove n m = true) :
    Mem.wfAbove n (m.filter p) = true := by
  induction m generalizing n with
  | nil => rfl
  | cons c m ih =>
    obtain ⟨k, v⟩ := c
    simp only [Mem.wfAbove, Bool.and_eq_true, decide_eq_true_eq] at h
    simp only [List.filter_cons]
    split
    · simp only [Mem.wfAbove, Bool.and_eq_true, decide_eq_true_eq]
      exact ⟨h.1, ih h.2⟩
    · exact ih (Mem.wfAbove_mono h.2 (by omega))

/-- Clearing a region keeps the canonical form. -/
theorem Mem.wf_filter {m : Mem} (p : Host.Cell → Bool) (h : m.wf = true) : Mem.wf (m.filter p) = true := by
  cases m with
  | nil => rfl
  | cons c m =>
    obtain ⟨k, v⟩ := c
    rw [Mem.wf_iff_above] at h
    simp only [List.filter_cons]
    split
    · exact Mem.wf_iff_above.2 ⟨h.1, Mem.wfAbove_filter p h.2⟩
    · exact Mem.wf_of_above (Mem.wfAbove_filter p h.2)

/-- Bytes written round the ring of Press keep the canonical form. -/
theorem ringBytes_wf {m : Mem} (pos : Nat) (b : List Byte) (h : m.wf = true) : (ringBytes pos b m).wf = true :=
  Mem.wf_writeN _ _ (Mem.wf_writeN _ _ h)

/-- So do a word and cleared blocks of a Stone image. -/
theorem Image.writeWord_wf {i : Image} (a w : Nat) (h : i.mem.wf = true) : (i.writeWord a w).mem.wf = true := Mem.wf_writeW _ _ h
theorem Image.zeroBlocks_wf {i : Image} (l : List Nat) (h : i.mem.wf = true) : (i.zeroBlocks l).mem.wf = true := Mem.wf_filter _ h

theorem Image.writeWords_wf {i : Image} (l : List (Nat × Nat)) (h : i.mem.wf = true) :
    (l.foldl (fun i p => i.writeWord p.1 p.2) i).mem.wf = true := by
  induction l generalizing i with
  | nil => exact h
  | cons p l ih => exact ih (Image.writeWord_wf p.1 p.2 h)

/-- Every write to the shadow SRAM keeps its memory in canonical form. -/
theorem Held.apply_wf (h : Held) {i : Image} (hi : i.mem.wf = true) : (h.apply i).mem.wf = true := by
  cases h with
  | entry e => exact Image.writeWords_wf _ hi
  | model r => exact hi
  | access r => exact hi
  | words l => exact Image.writeWords_wf _ hi
  | zero b => exact Image.zeroBlocks_wf _ hi

/-! ## A read after a write -/

theorem Mem.get?_above {n : Nat} {m : Mem} (h : Mem.wfAbove n m = true) {a : Nat} (ha : a ≤ n) : SMap.get? m a = none := by
  induction m generalizing n with
  | nil => rfl
  | cons p m ih =>
    obtain ⟨k, v⟩ := p
    simp only [Mem.wfAbove, Bool.and_eq_true, decide_eq_true_eq] at h
    simp only [SMap.get?]
    rw [if_neg (by omega)]
    exact ih h.2 (by omega)

theorem Mem.read_cons (k : Nat) (v : Byte) (m : Mem) (a : Nat) :
    Mem.read ((k, v) :: m) a = if k = a then v else m.read a := by
  simp only [Mem.read, SMap.get?]; split <;> rfl

/-- A byte written reads back, and every other byte of a canonical memory reads as it did. -/
theorem Mem.read_write {m : Mem} (h : m.wf = true) (a : Nat) (b : Byte) (i : Nat) :
    (m.write a b).read i = if i = a then b else m.read i := by
  have key : ∀ (m : Mem), (∀ k v r, m = (k, v) :: r → Mem.wfAbove k r = true) →
      (m.write a b).read i = if i = a then b else m.read i := by
    intro m
    induction m with
    | nil =>
      intro _
      simp only [Mem.write]
      split
      · rename_i hb; subst hb; simp [Mem.read, SMap.get?]
      · rw [Mem.read_cons]; by_cases hi : i = a <;> simp [hi, eq_comm]
        intro e; exact absurd e.symm hi
    | cons p m ih =>
      intro hm
      obtain ⟨k, v⟩ := p
      have hab := hm k v m rfl
      simp only [Mem.write]
      by_cases h1 : a < k
      · rw [if_pos h1]
        split
        · rename_i hb
          by_cases hi : i = a
          · subst hi
            rw [if_pos rfl, Mem.read_cons, if_neg (by omega), Mem.read, Mem.get?_above hab (by omega), hb]
            rfl
          · rw [if_neg hi]
        · rw [Mem.read_cons]
          by_cases hi : i = a
          · subst hi; simp
          · rw [if_neg (fun e => hi e.symm), if_neg hi]
      · rw [if_neg h1]
        by_cases h2 : a = k
        · rw [if_pos h2]
          subst h2
          split
          · rename_i hb
            by_cases hi : i = a
            · subst hi
              rw [if_pos rfl, Mem.read, Mem.get?_above hab (Nat.le_refl _), hb]
              rfl
            · rw [if_neg hi, Mem.read_cons, if_neg (fun e => hi e.symm)]
          · rw [Mem.read_cons, Mem.read_cons]
            by_cases hi : i = a
            · subst hi; simp
            · rw [if_neg (fun e => hi e.symm), if_neg hi, if_neg (fun e => hi e.symm)]
        · rw [if_neg h2, Mem.read_cons, Mem.read_cons, ih ?_]
          · by_cases hk : k = i
            · rw [if_pos hk, if_pos hk, if_neg (by omega)]
            · rw [if_neg hk, if_neg hk]
          · intro k' v' r hr
            subst hr
            simp only [Mem.wfAbove, Bool.and_eq_true] at hab
            exact hab.2
  refine key m ?_
  intro k v r hr
  subst hr
  exact (Mem.wf_iff_above.1 h).2

/-! ## The register file -/

theorem SMap.above_mono {α : Type} {m : SMap α} {a b : Nat} (h : SMap.above b m = true) (hab : a ≤ b) : SMap.above a m = true := by
  cases m with
  | nil => rfl
  | cons p m =>
    obtain ⟨k, v⟩ := p
    simp only [SMap.above, Bool.and_eq_true, decide_eq_true_eq] at h ⊢
    exact ⟨by omega, h.2⟩

theorem SMap.above_set {α : Type} {n : Nat} {m : SMap α} {a : Nat} (x : α) (h : SMap.above n m = true) (ha : n < a) :
    SMap.above n (m.set a x) = true := by
  induction m generalizing n with
  | nil => simp [SMap.set, SMap.above, ha]
  | cons p m ih =>
    obtain ⟨k, v⟩ := p
    simp only [SMap.above, Bool.and_eq_true, decide_eq_true_eq] at h
    simp only [SMap.set]
    by_cases h1 : a < k
    · rw [if_pos h1]; simp [SMap.above, ha, h1, h.2]
    · rw [if_neg h1]
      by_cases h2 : a = k
      · rw [if_pos h2]; subst h2; simp [SMap.above, ha, h.2]
      · rw [if_neg h2]; simp only [SMap.above, Bool.and_eq_true, decide_eq_true_eq]
        exact ⟨h.1, ih h.2 (by omega)⟩

/-- A sparse map keeps its keys in rising order. -/
theorem SMap.wf_set {α : Type} {m : SMap α} (a : Nat) (x : α) (h : m.wf = true) : (m.set a x).wf = true := by
  cases m with
  | nil => rfl
  | cons p m =>
    obtain ⟨k, v⟩ := p
    simp only [SMap.wf] at h
    simp only [SMap.set]
    by_cases h1 : a < k
    · rw [if_pos h1]; simp [SMap.wf, SMap.above, h1, h]
    · rw [if_neg h1]
      by_cases h2 : a = k
      · rw [if_pos h2]; subst h2; simpa [SMap.wf] using h
      · rw [if_neg h2]; exact SMap.above_set x h (by omega)

/-- A field written keeps the register file in order. -/
theorem State.wr_wf {s : State} (f : Fld) (v : Nat) (h : s.regs.wf = true) : (s.wr f v).regs.wf = true := SMap.wf_set _ _ h

/-- The fresh memories are in canonical form. -/
theorem Mem.wf_nil : Mem.wf [] = true := rfl

end Sys2Proof.Machine
end

