-- ==== Sys2Proof/Laws/Ops.lean ====
section
/-! SUPPORT. What each shared operation of Machine/Ops.lean does to the queue, the register file and the parts of the state, said once
as a step of a frame. -/
namespace Sys2Proof.Machine

variable {l : List Fld} {p : List Part} {s t : State}

/-! ## Register fields -/

theorem Keeps.set1 (h : Keeps l p s t) {f : Fld} (hf : f ∈ l) : Keeps l p s (t.set1 f) := h.wr 1 hf
theorem Keeps.clr (h : Keeps l p s t) {f : Fld} (hf : f ∈ l) : Keeps l p s (t.clr f) := h.wr 0 hf
theorem Keeps.wrB (h : Keeps l p s t) {f : Fld} (b : Bool) (hf : f ∈ l) : Keeps l p s (t.wrB f b) := h.wr _ hf
theorem Keeps.wrS (h : Keeps l p s t) {f : Fld} (i : Int) (hf : f ∈ l) : Keeps l p s (t.wrS f i) := h.wr _ hf
theorem Keeps.wrSat (h : Keeps l p s t) {f : Fld} (i : Int) (hf : f ∈ l) : Keeps l p s (t.wrSat f i) := h.wr _ hf
theorem Keeps.incBy (h : Keeps l p s t) {f : Fld} (n : Nat) (hf : f ∈ l) : Keeps l p s (t.incBy f n) := h.wr _ hf
theorem Keeps.inc (h : Keeps l p s t) {f : Fld} (hf : f ∈ l) : Keeps l p s (t.inc f) := h.wr _ hf
theorem Keeps.rstFld (h : Keeps l p s t) {f : Fld} (hf : f ∈ l) : Keeps l p s (t.rstFld f) := h.wr _ hf
theorem Keeps.wrBit (h : Keeps l p s t) {f : Fld} (i : Nat) (b : Bool) (hf : f ∈ l) : Keeps l p s (t.wrBit f i b) := h.wr _ hf

/-- A one-bit field reads what was put into it. -/
theorem State.rd_set1 (s : State) {f : Fld} (hw : f.w = 1) : (s.set1 f).rd f = 1 := by
  simp [State.set1, State.rd_wr_same, hw]
theorem State.rd_clr (s : State) (f : Fld) : (s.clr f).rd f = 0 := by simp [State.clr, State.rd_wr_same]

/-- A counter rises by one and holds at its end. -/
theorem State.rd_inc (s : State) (f : Fld) : (s.inc f).rd f = min (s.rd f + 1) (2 ^ f.w - 1) := by
  have hp : 0 < 2 ^ f.w := Nat.two_pow_pos _
  simp only [State.inc, State.incBy, State.rd_wr_same, satUns]
  exact Nat.mod_eq_of_lt (by omega)

/-! ## Parts of the state -/

/-- A free value used. -/
theorem Keeps.used (h : Keeps l p s t) (hp : Part.freeCount ∈ p) : Keeps l p s t.used :=
  h.upd rfl rfl (fun q hq => by cases q <;> first | rfl | exact absurd hp hq)

/-- A tally increment queued. -/
theorem Keeps.tally (h : Keeps l p s t) (n : Nat) (hp : Part.st ∈ p) : Keeps l p s (t.tally n) :=
  h.upd rfl rfl (fun q hq => by cases q <;> first | rfl | exact absurd hp hq)

/-- A Bramble producer that fires. -/
theorem Keeps.fire (h : Keeps l p s t) (n : Nat) (hp : Part.br ∈ p) : Keeps l p s (t.fire n) :=
  h.upd rfl rfl (fun q hq => by cases q <;> first | rfl | exact absurd hp hq)

/-- A fault record replaced. -/
theorem Keeps.setFrec (h : Keeps l p s t) (c : FC) (r : FRec) (hp : Part.flt ∈ p) : Keeps l p s (t.setFrec c r) :=
  h.upd rfl rfl (fun q hq => by cases q <;> first | rfl | exact absurd hp hq)

/-- A write to the shadow SRAM, applied, held or deferred. -/
theorem Keeps.engineWrite (h : Keeps l p s t) (x : Held) (hp : Part.st ∈ p) (hf : F.stoHolddef ∈ l) :
    Keeps l p s (engineWrite x t) := by
  unfold Machine.engineWrite
  split
  · exact h.upd rfl rfl (fun q hq => by cases q <;> first | rfl | exact absurd hp hq)
  · split
    · exact h.upd rfl rfl (fun q hq => by cases q <;> first | rfl | exact absurd hp hq)
    · have g : Keeps l p s { t with st.defer := t.st.defer ++ [x] } :=
        h.upd rfl rfl (fun q hq => by cases q <;> first | rfl | exact absurd hp hq)
      exact g.inc hf

/-- A command of CMD that ends. -/
theorem Keeps.cmdEnd (h : Keeps l p s t) (code err : Nat) (hp : Part.bus ∈ p) (h1 : F.dStatState ∈ l) (h2 : F.dStatErr ∈ l)
    (h3 : F.dCmdDone ∈ l) : Keeps l p s (t.cmdEnd code err) := by
  unfold State.cmdEnd
  split
  · split
    · have g : Keeps l p s { t with bus.cmd := none } :=
        h.upd rfl rfl (fun q hq => by cases q <;> first | rfl | exact absurd hp hq)
      exact ((g.wr _ h1).wr _ h2).set1 h3
    · exact h
  · exact h

/-- A fold over numbers keeps what each of its steps keeps. -/
theorem Keeps.forN {f : Nat → State → State} (n : Nat) (h : Keeps l p s t)
    (hf : ∀ i u, i < n → Keeps l p s u → Keeps l p s (f i u)) : Keeps l p s (forN n f t) := by
  unfold Machine.forN
  have key : ∀ (ks : List Nat) (u : State), (∀ i ∈ ks, i < n) → Keeps l p s u →
      Keeps l p s (ks.foldl (fun t i => f i t) u) := by
    intro ks
    induction ks with
    | nil => intro u _ hu; exact hu
    | cons k ks ih =>
      intro u hk hu
      exact ih _ (fun i hi => hk i (List.mem_cons_of_mem _ hi)) (hf k u (hk k List.mem_cons_self) hu)
  exact key _ _ (fun i hi => List.mem_range.1 hi) h

/-- A command whose condition holds answers its effect; one whose condition does not, the state as it is. -/
theorem when_true {c : Bool} {f : State → State} {s : State} (h : c = true) : when c f s = .next (f s) := by simp [when, h]
theorem when_false {c : Bool} {f : State → State} {s : State} (h : c = false) : when c f s = .next s := by simp [when, h]

end Sys2Proof.Machine
end

