-- ==== Sys2Proof/WellFormed.lean ====
section
/-! DEFINITION. What the environment can send: the bounds that the spec sets on an operand beyond its width. -/
namespace Sys2Proof

/-- A moment within a beat: TCLK edges since the last strobe, at most two beat periods (R16, R226). -/
def dtOk (d : Dt) : Bool := d.toNat ≤ 976563

/-- A SYSCLK cycle of a beat, at most two beat periods of 250 MHz (R16, R17). -/
def cycOk (c : BitVec 19) : Bool := c.toNat < 488282

/-- At least one producer fires (R312). -/
def prodsOk (p : BitVec 48) : Bool := p != 0

/-- A page of a transceiver's memory: 256 bytes (R248, R249). -/
def pageOk (l : List (BitVec 8)) : Bool := l.length == 256

/-- A PTP message has its common header of 34 octets (R267). -/
def msgOk (l : List (BitVec 8)) : Bool := 34 ≤ l.length

/-- The two passes on a TDC channel give one count for each of 128 taps (R366, R369). -/
def measOk (m : CalMeas) : Bool :=
  match m with
  | .tdc a b => a.length == 128 && b.length == 128
  | .bandgap _ _ _ _ _ sw => sw.length == 4
  | .value _ => true

/-- What a beat brings: edges inside the beat, one record for each reference, and the state blocks of a checkpoint that fits a record (R397). -/
def beatOk (b : BeatIn) : Bool :=
  b.refs.all (fun r => r.edges.all (fun e => e.toNat ≤ 128000000000)) && b.refs.length ≤ 10 &&
  b.ckpt.length + 8 < 65536

/-- A command that the environment can send. -/
def WellFormed (i : Instr) : Bool :=
  match i with
  | .powerUp _ => true
  | .startAbandoned => true
  | .bootEnd _ _ => true
  | .autorun => true
  | .supplyLow dt => dtOk dt
  | .supplyOv dt => dtOk dt
  | .overvoltageTimeout dt => dtOk dt
  | .powerFail dt => dtOk dt
  | .powerFailStoreDone _ => true
  | .restartAfterShutdown _ => true
  | .holdupTest => true
  | .hutest => true
  | .holdupTestEnd _ dt => dtOk dt
  | .domainFail _ dt => dtOk dt
  | .domainPowerGoodReturn _ => true
  | .domainTurnOnDone _ => true
  | .powreqApply => true
  | .avsStep _ _ => true
  | .avsFastRaise _ _ => true
  | .avsLimit _ dt => dtOk dt
  | .auxLow _ dt => dtOk dt
  | .auxRestore => true
  | .beatStrobe b => beatOk b
  | .timeStep => true
  | .beatOverrun _ dt => dtOk dt
  | .deferrableAbandon _ => true
  | .mailboxChangeover _ => true
  | .engineResume => true
  | .cacheGets _ _ _ dt => dtOk dt
  | .cacheGetm _ _ _ _ _ _ dt => dtOk dt
  | .cacheEvict _ _ => true
  | .hbLineRead _ _ _ dt => dtOk dt
  | .hbLineWrite _ _ _ _ _ dt => dtOk dt
  | .ownershipClaimRetry _ _ _ => true
  | .ucodeParity _ dt => dtOk dt
  | .ucodeReloadDone _ dt => dtOk dt
  | .modeReqProvision => true
  | .modeReqRun => true
  | .modeReqHold => true
  | .modeReqDormant => true
  | .modeReqReplay => true
  | .modeReqSafe => true
  | .modeReqInvalid _ => true
  | .modeEvaluation => true
  | .peersRise => true
  | .peersFall => true
  | .warmReset => true
  | .coldReset _ => true
  | .coldResetStoreDone _ _ => true
  | .resetStuck dt => dtOk dt
  | .resetPinRecover => true
  | .wdataRead _ _ dt => dtOk dt
  | .wdataWrite _ _ dt => dtOk dt
  | .rcFieldRead _ _ dt => dtOk dt
  | .registerWrite _ _ dt => dtOk dt
  | .busProtocol dt => dtOk dt
  | .hostAccessAbandon _ => true
  | .busTimeout _ _ dt => dtOk dt
  | .windowDrop => true
  | .stagedWriteApply => true
  | .timeLatch dt => dtOk dt
  | .timeRelease => true
  | .cmdStore _ => true
  | .cmdCommit _ => true
  | .cmdAbortTxn _ => true
  | .cmdBeginTxn _ => true
  | .cmdCalAll _ => true
  | .cmdCalTdc _ => true
  | .cmdCalThresh _ => true
  | .cmdCalSkew _ => true
  | .cmdPressSnap _ => true
  | .cmdGraftNow _ => true
  | .cmdRequalify _ => true
  | .cmdAcceptJump _ => true
  | .cmdLearnReset _ => true
  | .cmdWipeTenant _ => true
  | .wipeDone _ => true
  | .cmdLockService _ => true
  | .cmdUnknownCode _ _ => true
  | .rinIndeterminate _ => true
  | .thresholdSettled _ => true
  | .rinTransitionsCounted _ => true
  | .rinMidband _ dt => dtOk dt
  | .refEnable _ => true
  | .refDisable _ => true
  | .refQualify _ => true
  | .refFail _ => true
  | .refSuspectClear _ => true
  | .refFailholdEnd _ => true
  | .refSourceAbsent _ => true
  | .wtrExpiry _ => true
  | .nmeaSentence _ dt => dtOk dt
  | .gnssTodTimeout => true
  | .uartOverflow _ => true
  | .gnssTx => true
  | .graftStart => true
  | .graftComplete => true
  | .servoLock => true
  | .servoUnlock => true
  | .bandwidthUpdate => true
  | .servoLimit => true
  | .slewEnd => true
  | .jumpRefused _ => true
  | .thermoLost dt => dtOk dt
  | .oscFail dt => dtOk dt
  | .modelFitUpdate => true
  | .taufitAdjust => true
  | .modelDiverge => true
  | .mqUpdate => true
  | .modelCopy => true
  | .holdBound => true
  | .wakeWindowStart => true
  | .wakeWindowEnd => true
  | .synaUnlock dt => dtOk dt
  | .synbUnlock dt => dtOk dt
  | .synbRange dt => dtOk dt
  | .ckUnlock _ dt => dtOk dt
  | .rampClamp dt => dtOk dt
  | .freqsetCommit _ _ => true
  | .rangeChangeResume _ => true
  | .channelEnable _ dt => dtOk dt
  | .channelFirstEdge _ => true
  | .channelDisable _ => true
  | .srcCommit _ _ => true
  | .fmtChange _ _ => true
  | .rampLoad => true
  | .rampEnable => true
  | .rampDisable => true
  | .rampStop => true
  | .leapSecond => true
  | .pipArm _ => true
  | .pipDisarm _ => true
  | .pipEdge _ _ => true
  | .pipPulseEnd _ => true
  | .captureEdge _ _ dt _ _ => dtOk dt
  | .captureHeadRead _ _ dt => dtOk dt
  | .tioConfig _ _ => true
  | .tioShort _ dt => dtOk dt
  | .sfpInsert _ a0 a2 dt => pageOk a0 && pageOk a2 && dtOk dt
  | .sfpRemove _ _ dt => dtOk dt
  | .sfpTxfault _ dt => dtOk dt
  | .sfpDiagRead _ a2 dt => pageOk a2 && dtOk dt
  | .diagnow _ => true
  | .linkUp _ => true
  | .linkDown _ _ _ dt => dtOk dt
  | .portDisable _ => true
  | .cmholdStart _ => true
  | .cmholdEnd => true
  | .t1lRetrain _ dt => dtOk dt
  | .phyFail _ _ dt => dtOk dt
  | .frameReceive _ _ dt => dtOk dt
  | .frameTransmitStart _ => true
  | .addressAgeOut _ _ => true
  | .flushAddresses _ => true
  | .vlanCommit _ _ => true
  | .ptpSyncRx _ _ dt _ => dtOk dt
  | .ptpFollowUpRx _ _ => true
  | .ptpDelayReqRx _ _ dt _ => dtOk dt
  | .ptpDelayRespRx _ _ => true
  | .ptpPdelayReqRx _ _ dt _ _ _ => dtOk dt
  | .ptpPdelayRespRx _ _ dt _ => dtOk dt
  | .ptpPdelayRespFupRx _ _ => true
  | .ptpAnnounceRx _ _ => true
  | .ptpManagementRx _ _ => true
  | .ptpUnsupportedRx _ => true
  | .ptpSyncTx _ dt _ _ => dtOk dt
  | .ptpAnnounceTx _ => true
  | .ptpDelayReqTx _ dt _ => dtOk dt
  | .tcForward _ _ msg _ => msgOk msg
  | .tcFollowUpTimeout _ => true
  | .followUpHoldExpire _ => true
  | .announceReceiptTimeout _ => true
  | .portSlave _ => true
  | .ptpOverload dt => dtOk dt
  | .overloadClear => true
  | .esmcInfoTx _ => true
  | .esmcEventTx _ => true
  | .esmcRx _ _ => true
  | .esmcTimeout _ => true
  | .lepBeaconTx dt _ => dtOk dt
  | .lepLeaveTx dt _ => dtOk dt
  | .lepBeaconRx _ _ _ dt _ => dtOk dt
  | .lepLeaveRx _ _ _ dt => dtOk dt
  | .peerQualify _ => true
  | .peerStale _ => true
  | .peerLost _ => true
  | .peerFree _ => true
  | .ensSample => true
  | .brambleEvent prods cyc dt => prodsOk prods && cycOk cyc && dtOk dt
  | .brambleFire _ _ cyc dt => cycOk cyc && dtOk dt
  | .brambleFifoHeadRead _ => true
  | .tioPulseEnd _ => true
  | .alarmokClear _ => true
  | .tlFrameStart _ => true
  | .tlRead _ _ dt _ => dtOk dt
  | .tlWrite _ _ dt => dtOk dt
  | .tlNop _ _ dt => dtOk dt
  | .tlFrameDiscard _ _ _ dt => dtOk dt
  | .tlResponsePush _ => true
  | .tnenChange _ => true
  | .allocationApply => true
  | .tlTxnBegin _ => true
  | .tlTxnCommit _ => true
  | .tlTxnAbort _ => true
  | .txnstatReport _ => true
  | .logpush _ _ => true
  | .scheduledStore => true
  | .storeDone => true
  | .storeVerifyFail dt => dtOk dt
  | .commitDone _ _ dt => dtOk dt
  | .resumedStoreSeal => true
  | .tallyIncrement _ dt => dtOk dt
  | .tallyinc _ => true
  | .scheduledCal => true
  | .calItemEnd m => measOk m
  | .calRunEnd => true
  | .calHostWrite _ _ => true
  | .facload => true
  | .faultRecover _ _ => true
  | .faultAck _ => true
  | .faultAckClass _ _ => true
  | .faultForce _ _ dt => dtOk dt
  | .returnToService _ _ => true
  | .quietWrite _ _ => true
  | .snapshotTrigger => true
  | .snapshotCopyStart => true
  | .snapshotDone _ => true
  | .slotfree _ => true
  | .slowRecordEntry _ => true
  | .replayCheck _ => true
  | .replaySpanEnd => true
  | .submitpw _ dt => dtOk dt
  | .submitrsp _ dt => dtOk dt
  | .verdict => true
  | .chalreq _ dt => dtOk dt
  | .challengeExpire => true
  | .backoffExpire => true
  | .relock _ dt => dtOk dt
  | .relockTimeout => true
  | .setpw dt => dtOk dt
  | .pwclear _ dt => dtOk dt
  | .svcSessionTimeout => true
  | .uploadEnable => true
  | .uploadDisable => true
  | .microcodeUpdate _ => true
  | .microcodeUpdateDone _ => true
  | .floorRaise => true
  | .floorRaiseDone => true
  | .inputInRange => true
  | .synbRelock => true
  | .ckRelock _ => true
  | .cModeReturn => true
  | .sfpTxfaultClear _ => true
  | .phyManagementReturn _ => true
  | .tioShortEnd _ => true
  | .rinLevelChange _ _ _ => true
  | .backupCapacitorExhausted => true
  | .rangeChangeHold _ dt => dtOk dt

end Sys2Proof
end

