-- ==== Sys2Proof/Laws/PerInstr.lean ====
section
/-! SUPPORT. A family of statements for all commands: a well-formed command that carries a moment of its beat carries one that lies
within two beat periods of the last strobe (R16, R226). -/
namespace Sys2Proof.Laws.Moments

/-- The moment within the beat that a command carries. -/
def moment (i : Instr) : Option Dt :=
  match i with
  | .powerUp _ => none
  | .startAbandoned => none
  | .bootEnd _ _ => none
  | .autorun => none
  | .supplyLow dt => some dt
  | .supplyOv dt => some dt
  | .overvoltageTimeout dt => some dt
  | .powerFail dt => some dt
  | .powerFailStoreDone _ => none
  | .restartAfterShutdown _ => none
  | .holdupTest => none
  | .hutest => none
  | .holdupTestEnd _ dt => some dt
  | .domainFail _ dt => some dt
  | .domainPowerGoodReturn _ => none
  | .domainTurnOnDone _ => none
  | .powreqApply => none
  | .avsStep _ _ => none
  | .avsFastRaise _ _ => none
  | .avsLimit _ dt => some dt
  | .auxLow _ dt => some dt
  | .auxRestore => none
  | .beatStrobe _ => none
  | .timeStep => none
  | .beatOverrun _ dt => some dt
  | .deferrableAbandon _ => none
  | .mailboxChangeover _ => none
  | .engineResume => none
  | .cacheGets _ _ _ dt => some dt
  | .cacheGetm _ _ _ _ _ _ dt => some dt
  | .cacheEvict _ _ => none
  | .hbLineRead _ _ _ dt => some dt
  | .hbLineWrite _ _ _ _ _ dt => some dt
  | .ownershipClaimRetry _ _ _ => none
  | .ucodeParity _ dt => some dt
  | .ucodeReloadDone _ dt => some dt
  | .modeReqProvision => none
  | .modeReqRun => none
  | .modeReqHold => none
  | .modeReqDormant => none
  | .modeReqReplay => none
  | .modeReqSafe => none
  | .modeReqInvalid _ => none
  | .modeEvaluation => none
  | .peersRise => none
  | .peersFall => none
  | .warmReset => none
  | .coldReset _ => none
  | .coldResetStoreDone _ _ => none
  | .resetStuck dt => some dt
  | .resetPinRecover => none
  | .wdataRead _ _ dt => some dt
  | .wdataWrite _ _ dt => some dt
  | .rcFieldRead _ _ dt => some dt
  | .registerWrite _ _ dt => some dt
  | .busProtocol dt => some dt
  | .hostAccessAbandon _ => none
  | .busTimeout _ _ dt => some dt
  | .windowDrop => none
  | .stagedWriteApply => none
  | .timeLatch dt => some dt
  | .timeRelease => none
  | .cmdStore _ => none
  | .cmdCommit _ => none
  | .cmdAbortTxn _ => none
  | .cmdBeginTxn _ => none
  | .cmdCalAll _ => none
  | .cmdCalTdc _ => none
  | .cmdCalThresh _ => none
  | .cmdCalSkew _ => none
  | .cmdPressSnap _ => none
  | .cmdGraftNow _ => none
  | .cmdRequalify _ => none
  | .cmdAcceptJump _ => none
  | .cmdLearnReset _ => none
  | .cmdWipeTenant _ => none
  | .wipeDone _ => none
  | .cmdLockService _ => none
  | .cmdUnknownCode _ _ => none
  | .rinIndeterminate _ => none
  | .thresholdSettled _ => none
  | .rinTransitionsCounted _ => none
  | .rinMidband _ dt => some dt
  | .refEnable _ => none
  | .refDisable _ => none
  | .refQualify _ => none
  | .refFail _ => none
  | .refSuspectClear _ => none
  | .refFailholdEnd _ => none
  | .refSourceAbsent _ => none
  | .wtrExpiry _ => none
  | .nmeaSentence _ dt => some dt
  | .gnssTodTimeout => none
  | .uartOverflow _ => none
  | .gnssTx => none
  | .graftStart => none
  | .graftComplete => none
  | .servoLock => none
  | .servoUnlock => none
  | .bandwidthUpdate => none
  | .servoLimit => none
  | .slewEnd => none
  | .jumpRefused _ => none
  | .thermoLost dt => some dt
  | .oscFail dt => some dt
  | .modelFitUpdate => none
  | .taufitAdjust => none
  | .modelDiverge => none
  | .mqUpdate => none
  | .modelCopy => none
  | .holdBound => none
  | .wakeWindowStart => none
  | .wakeWindowEnd => none
  | .synaUnlock dt => some dt
  | .synbUnlock dt => some dt
  | .synbRange dt => some dt
  | .ckUnlock _ dt => some dt
  | .rampClamp dt => some dt
  | .freqsetCommit _ _ => none
  | .rangeChangeResume _ => none
  | .channelEnable _ dt => some dt
  | .channelFirstEdge _ => none
  | .channelDisable _ => none
  | .srcCommit _ _ => none
  | .fmtChange _ _ => none
  | .rampLoad => none
  | .rampEnable => none
  | .rampDisable => none
  | .rampStop => none
  | .leapSecond => none
  | .pipArm _ => none
  | .pipDisarm _ => none
  | .pipEdge _ _ => none
  | .pipPulseEnd _ => none
  | .captureEdge _ _ dt _ _ => some dt
  | .captureHeadRead _ _ dt => some dt
  | .tioConfig _ _ => none
  | .tioShort _ dt => some dt
  | .sfpInsert _ _ _ dt => some dt
  | .sfpRemove _ _ dt => some dt
  | .sfpTxfault _ dt => some dt
  | .sfpDiagRead _ _ dt => some dt
  | .diagnow _ => none
  | .linkUp _ => none
  | .linkDown _ _ _ dt => some dt
  | .portDisable _ => none
  | .cmholdStart _ => none
  | .cmholdEnd => none
  | .t1lRetrain _ dt => some dt
  | .phyFail _ _ dt => some dt
  | .frameReceive _ _ dt => some dt
  | .frameTransmitStart _ => none
  | .addressAgeOut _ _ => none
  | .flushAddresses _ => none
  | .vlanCommit _ _ => none
  | .ptpSyncRx _ _ dt _ => some dt
  | .ptpFollowUpRx _ _ => none
  | .ptpDelayReqRx _ _ dt _ => some dt
  | .ptpDelayRespRx _ _ => none
  | .ptpPdelayReqRx _ _ dt _ _ _ => some dt
  | .ptpPdelayRespRx _ _ dt _ => some dt
  | .ptpPdelayRespFupRx _ _ => none
  | .ptpAnnounceRx _ _ => none
  | .ptpManagementRx _ _ => none
  | .ptpUnsupportedRx _ => none
  | .ptpSyncTx _ dt _ _ => some dt
  | .ptpAnnounceTx _ => none
  | .ptpDelayReqTx _ dt _ => some dt
  | .tcForward _ _ _ _ => none
  | .tcFollowUpTimeout _ => none
  | .followUpHoldExpire _ => none
  | .announceReceiptTimeout _ => none
  | .portSlave _ => none
  | .ptpOverload dt => some dt
  | .overloadClear => none
  | .esmcInfoTx _ => none
  | .esmcEventTx _ => none
  | .esmcRx _ _ => none
  | .esmcTimeout _ => none
  | .lepBeaconTx dt _ => some dt
  | .lepLeaveTx dt _ => some dt
  | .lepBeaconRx _ _ _ dt _ => some dt
  | .lepLeaveRx _ _ _ dt => some dt
  | .peerQualify _ => none
  | .peerStale _ => none
  | .peerLost _ => none
  | .peerFree _ => none
  | .ensSample => none
  | .brambleEvent _ _ dt => some dt
  | .brambleFire _ _ _ dt => some dt
  | .brambleFifoHeadRead _ => none
  | .tioPulseEnd _ => none
  | .alarmokClear _ => none
  | .tlFrameStart _ => none
  | .tlRead _ _ dt _ => some dt
  | .tlWrite _ _ dt => some dt
  | .tlNop _ _ dt => some dt
  | .tlFrameDiscard _ _ _ dt => some dt
  | .tlResponsePush _ => none
  | .tnenChange _ => none
  | .allocationApply => none
  | .tlTxnBegin _ => none
  | .tlTxnCommit _ => none
  | .tlTxnAbort _ => none
  | .txnstatReport _ => none
  | .logpush _ _ => none
  | .scheduledStore => none
  | .storeDone => none
  | .storeVerifyFail dt => some dt
  | .commitDone _ _ dt => some dt
  | .resumedStoreSeal => none
  | .tallyIncrement _ dt => some dt
  | .tallyinc _ => none
  | .scheduledCal => none
  | .calItemEnd _ => none
  | .calRunEnd => none
  | .calHostWrite _ _ => none
  | .facload => none
  | .faultRecover _ _ => none
  | .faultAck _ => none
  | .faultAckClass _ _ => none
  | .faultForce _ _ dt => some dt
  | .returnToService _ _ => none
  | .quietWrite _ _ => none
  | .snapshotTrigger => none
  | .snapshotCopyStart => none
  | .snapshotDone _ => none
  | .slotfree _ => none
  | .slowRecordEntry _ => none
  | .replayCheck _ => none
  | .replaySpanEnd => none
  | .submitpw _ dt => some dt
  | .submitrsp _ dt => some dt
  | .verdict => none
  | .chalreq _ dt => some dt
  | .challengeExpire => none
  | .backoffExpire => none
  | .relock _ dt => some dt
  | .relockTimeout => none
  | .setpw dt => some dt
  | .pwclear _ dt => some dt
  | .svcSessionTimeout => none
  | .uploadEnable => none
  | .uploadDisable => none
  | .microcodeUpdate _ => none
  | .microcodeUpdateDone _ => none
  | .floorRaise => none
  | .floorRaiseDone => none
  | .inputInRange => none
  | .synbRelock => none
  | .ckRelock _ => none
  | .cModeReturn => none
  | .sfpTxfaultClear _ => none
  | .phyManagementReturn _ => none
  | .tioShortEnd _ => none
  | .rinLevelChange _ _ _ => none
  | .backupCapacitorExhausted => none
  | .rangeChangeHold _ dt => some dt

/-- The moment of a well-formed command is at most two beat periods, 976,563 edges of TCLK. -/
def Statement (i : Instr) : Prop := WellFormed i = true → ∀ d, moment i = some d → d.toNat ≤ 976563

theorem last {a b : Bool} (h : (a && b) = true) : b = true := by simp_all

theorem of_none {i : Instr} (h : moment i = none) : Statement i := fun _ d hd => by rw [h] at hd; cases hd

theorem of_check {i : Instr} {dt : Dt} (h : moment i = some dt) (hw : WellFormed i = true → dtOk dt = true) : Statement i :=
  fun w d hd => by
    rw [h] at hd; cases hd
    have := hw w
    simpa [dtOk] using this

theorem powerUp (a : PowerIn) : Statement (.powerUp a) := of_none rfl
theorem startAbandoned : Statement .startAbandoned := of_none rfl
theorem bootEnd (a : BitVec 16) (b : BitVec 16) : Statement (.bootEnd a b) := of_none rfl
theorem autorun : Statement .autorun := of_none rfl
theorem supplyLow (a : Dt) : Statement (.supplyLow a) := of_check rfl id
theorem supplyOv (a : Dt) : Statement (.supplyOv a) := of_check rfl id
theorem overvoltageTimeout (a : Dt) : Statement (.overvoltageTimeout a) := of_check rfl id
theorem powerFail (a : Dt) : Statement (.powerFail a) := of_check rfl id
theorem powerFailStoreDone (a : Bool) : Statement (.powerFailStoreDone a) := of_none rfl
theorem restartAfterShutdown (a : PowerIn) : Statement (.restartAfterShutdown a) := of_none rfl
theorem holdupTest : Statement .holdupTest := of_none rfl
theorem hutest : Statement .hutest := of_none rfl
theorem holdupTestEnd (a : BitVec 16) (b : Dt) : Statement (.holdupTestEnd a b) := of_check rfl id
theorem domainFail (a : Fin 14) (b : Dt) : Statement (.domainFail a b) := of_check rfl id
theorem domainPowerGoodReturn (a : Fin 14) : Statement (.domainPowerGoodReturn a) := of_none rfl
theorem domainTurnOnDone (a : Fin 14) : Statement (.domainTurnOnDone a) := of_none rfl
theorem powreqApply : Statement .powreqApply := of_none rfl
theorem avsStep (a : Fin 2) (b : BitVec 16) : Statement (.avsStep a b) := of_none rfl
theorem avsFastRaise (a : Fin 2) (b : BitVec 16) : Statement (.avsFastRaise a b) := of_none rfl
theorem avsLimit (a : Fin 2) (b : Dt) : Statement (.avsLimit a b) := of_check rfl id
theorem auxLow (a : Bool) (b : Dt) : Statement (.auxLow a b) := of_check rfl id
theorem auxRestore : Statement .auxRestore := of_none rfl
theorem beatStrobe (a : BeatIn) : Statement (.beatStrobe a) := of_none rfl
theorem timeStep : Statement .timeStep := of_none rfl
theorem beatOverrun (a : Fin 3) (b : Dt) : Statement (.beatOverrun a b) := of_check rfl id
theorem deferrableAbandon (a : Fin 3) : Statement (.deferrableAbandon a) := of_none rfl
theorem mailboxChangeover (a : Fin 3) : Statement (.mailboxChangeover a) := of_none rfl
theorem engineResume : Statement .engineResume := of_none rfl
theorem cacheGets (a : Fin 3) (b : BitVec 15) (c : List EccIn) (d : Dt) : Statement (.cacheGets a b c d) := of_check rfl id
theorem cacheGetm (a : Fin 3) (b : BitVec 15) (c : Fin 8) (d : BitVec 64) (e : BitVec 3) (f : List EccIn) (g : Dt) : Statement (.cacheGetm a b c d e f g) := of_check rfl id
theorem cacheEvict (a : Fin 3) (b : BitVec 15) : Statement (.cacheEvict a b) := of_none rfl
theorem hbLineRead (a : BitVec 15) (b : Option LineReq) (c : List EccIn) (d : Dt) : Statement (.hbLineRead a b c d) := of_check rfl id
theorem hbLineWrite (a : BitVec 15) (b : Fin 8) (c : BitVec 64) (d : Option LineReq) (e : List EccIn) (f : Dt) : Statement (.hbLineWrite a b c d e f) := of_check rfl id
theorem ownershipClaimRetry (a : BitVec 15) (b : Fin 8) (c : BitVec 64) : Statement (.ownershipClaimRetry a b c) := of_none rfl
theorem ucodeParity (a : Fin 3) (b : Dt) : Statement (.ucodeParity a b) := of_check rfl id
theorem ucodeReloadDone (a : Fin 3) (b : Dt) : Statement (.ucodeReloadDone a b) := of_check rfl id
theorem modeReqProvision : Statement .modeReqProvision := of_none rfl
theorem modeReqRun : Statement .modeReqRun := of_none rfl
theorem modeReqHold : Statement .modeReqHold := of_none rfl
theorem modeReqDormant : Statement .modeReqDormant := of_none rfl
theorem modeReqReplay : Statement .modeReqReplay := of_none rfl
theorem modeReqSafe : Statement .modeReqSafe := of_none rfl
theorem modeReqInvalid (a : Bool) : Statement (.modeReqInvalid a) := of_none rfl
theorem modeEvaluation : Statement .modeEvaluation := of_none rfl
theorem peersRise : Statement .peersRise := of_none rfl
theorem peersFall : Statement .peersFall := of_none rfl
theorem warmReset : Statement .warmReset := of_none rfl
theorem coldReset (a : BitVec 16) : Statement (.coldReset a) := of_none rfl
theorem coldResetStoreDone (a : Bool) (b : PowerIn) : Statement (.coldResetStoreDone a b) := of_none rfl
theorem resetStuck (a : Dt) : Statement (.resetStuck a) := of_check rfl id
theorem resetPinRecover : Statement .resetPinRecover := of_none rfl
theorem wdataRead (a : BitVec 16) (b : List EccIn) (c : Dt) : Statement (.wdataRead a b c) := of_check rfl id
theorem wdataWrite (a : Word) (b : BitVec 16) (c : Dt) : Statement (.wdataWrite a b c) := of_check rfl id
theorem rcFieldRead (a : BitVec 5) (b : BitVec 24) (c : Dt) : Statement (.rcFieldRead a b c) := of_check rfl id
theorem registerWrite (a : BitVec 7) (b : Word) (c : Dt) : Statement (.registerWrite a b c) := of_check rfl id
theorem busProtocol (a : Dt) : Statement (.busProtocol a) := of_check rfl id
theorem hostAccessAbandon (a : BitVec 16) : Statement (.hostAccessAbandon a) := of_none rfl
theorem busTimeout (a : Bool) (b : BitVec 16) (c : Dt) : Statement (.busTimeout a b c) := of_check rfl id
theorem windowDrop : Statement .windowDrop := of_none rfl
theorem stagedWriteApply : Statement .stagedWriteApply := of_none rfl
theorem timeLatch (a : Dt) : Statement (.timeLatch a) := of_check rfl id
theorem timeRelease : Statement .timeRelease := of_none rfl
theorem cmdStore (a : BitVec 4) : Statement (.cmdStore a) := of_none rfl
theorem cmdCommit (a : BitVec 4) : Statement (.cmdCommit a) := of_none rfl
theorem cmdAbortTxn (a : BitVec 4) : Statement (.cmdAbortTxn a) := of_none rfl
theorem cmdBeginTxn (a : BitVec 4) : Statement (.cmdBeginTxn a) := of_none rfl
theorem cmdCalAll (a : BitVec 4) : Statement (.cmdCalAll a) := of_none rfl
theorem cmdCalTdc (a : BitVec 4) : Statement (.cmdCalTdc a) := of_none rfl
theorem cmdCalThresh (a : BitVec 4) : Statement (.cmdCalThresh a) := of_none rfl
theorem cmdCalSkew (a : BitVec 4) : Statement (.cmdCalSkew a) := of_none rfl
theorem cmdPressSnap (a : BitVec 4) : Statement (.cmdPressSnap a) := of_none rfl
theorem cmdGraftNow (a : BitVec 4) : Statement (.cmdGraftNow a) := of_none rfl
theorem cmdRequalify (a : BitVec 4) : Statement (.cmdRequalify a) := of_none rfl
theorem cmdAcceptJump (a : BitVec 4) : Statement (.cmdAcceptJump a) := of_none rfl
theorem cmdLearnReset (a : BitVec 4) : Statement (.cmdLearnReset a) := of_none rfl
theorem cmdWipeTenant (a : BitVec 4) : Statement (.cmdWipeTenant a) := of_none rfl
theorem wipeDone (a : Fin 4) : Statement (.wipeDone a) := of_none rfl
theorem cmdLockService (a : BitVec 4) : Statement (.cmdLockService a) := of_none rfl
theorem cmdUnknownCode (a : BitVec 8) (b : BitVec 4) : Statement (.cmdUnknownCode a b) := of_none rfl
theorem rinIndeterminate (a : Fin 4) : Statement (.rinIndeterminate a) := of_none rfl
theorem thresholdSettled (a : Fin 4) : Statement (.thresholdSettled a) := of_none rfl
theorem rinTransitionsCounted (a : Fin 4) : Statement (.rinTransitionsCounted a) := of_none rfl
theorem rinMidband (a : Fin 4) (b : Dt) : Statement (.rinMidband a b) := of_check rfl id
theorem refEnable (a : Fin 10) : Statement (.refEnable a) := of_none rfl
theorem refDisable (a : Fin 10) : Statement (.refDisable a) := of_none rfl
theorem refQualify (a : Fin 10) : Statement (.refQualify a) := of_none rfl
theorem refFail (a : Fin 10) : Statement (.refFail a) := of_none rfl
theorem refSuspectClear (a : Fin 10) : Statement (.refSuspectClear a) := of_none rfl
theorem refFailholdEnd (a : Fin 10) : Statement (.refFailholdEnd a) := of_none rfl
theorem refSourceAbsent (a : Fin 10) : Statement (.refSourceAbsent a) := of_none rfl
theorem wtrExpiry (a : Fin 10) : Statement (.wtrExpiry a) := of_none rfl
theorem nmeaSentence (a : List (BitVec 8)) (b : Dt) : Statement (.nmeaSentence a b) := of_check rfl id
theorem gnssTodTimeout : Statement .gnssTodTimeout := of_none rfl
theorem uartOverflow (a : List (BitVec 8)) : Statement (.uartOverflow a) := of_none rfl
theorem gnssTx : Statement .gnssTx := of_none rfl
theorem graftStart : Statement .graftStart := of_none rfl
theorem graftComplete : Statement .graftComplete := of_none rfl
theorem servoLock : Statement .servoLock := of_none rfl
theorem servoUnlock : Statement .servoUnlock := of_none rfl
theorem bandwidthUpdate : Statement .bandwidthUpdate := of_none rfl
theorem servoLimit : Statement .servoLimit := of_none rfl
theorem slewEnd : Statement .slewEnd := of_none rfl
theorem jumpRefused (a : Fin 10) : Statement (.jumpRefused a) := of_none rfl
theorem thermoLost (a : Dt) : Statement (.thermoLost a) := of_check rfl id
theorem oscFail (a : Dt) : Statement (.oscFail a) := of_check rfl id
theorem modelFitUpdate : Statement .modelFitUpdate := of_none rfl
theorem taufitAdjust : Statement .taufitAdjust := of_none rfl
theorem modelDiverge : Statement .modelDiverge := of_none rfl
theorem mqUpdate : Statement .mqUpdate := of_none rfl
theorem modelCopy : Statement .modelCopy := of_none rfl
theorem holdBound : Statement .holdBound := of_none rfl
theorem wakeWindowStart : Statement .wakeWindowStart := of_none rfl
theorem wakeWindowEnd : Statement .wakeWindowEnd := of_none rfl
theorem synaUnlock (a : Dt) : Statement (.synaUnlock a) := of_check rfl id
theorem synbUnlock (a : Dt) : Statement (.synbUnlock a) := of_check rfl id
theorem synbRange (a : Dt) : Statement (.synbRange a) := of_check rfl id
theorem ckUnlock (a : Fin 8) (b : Dt) : Statement (.ckUnlock a b) := of_check rfl id
theorem rampClamp (a : Dt) : Statement (.rampClamp a) := of_check rfl id
theorem freqsetCommit (a : Fin 8) (b : BitVec 112) : Statement (.freqsetCommit a b) := of_none rfl
theorem rangeChangeResume (a : Fin 8) : Statement (.rangeChangeResume a) := of_none rfl
theorem channelEnable (a : Fin 8) (b : Dt) : Statement (.channelEnable a b) := of_check rfl id
theorem channelFirstEdge (a : Fin 8) : Statement (.channelFirstEdge a) := of_none rfl
theorem channelDisable (a : Fin 8) : Statement (.channelDisable a) := of_none rfl
theorem srcCommit (a : Fin 8) (b : Bool) : Statement (.srcCommit a b) := of_none rfl
theorem fmtChange (a : Fin 8) (b : BitVec 2) : Statement (.fmtChange a b) := of_none rfl
theorem rampLoad : Statement .rampLoad := of_none rfl
theorem rampEnable : Statement .rampEnable := of_none rfl
theorem rampDisable : Statement .rampDisable := of_none rfl
theorem rampStop : Statement .rampStop := of_none rfl
theorem leapSecond : Statement .leapSecond := of_none rfl
theorem pipArm (a : Fin 16) : Statement (.pipArm a) := of_none rfl
theorem pipDisarm (a : Fin 16) : Statement (.pipDisarm a) := of_none rfl
theorem pipEdge (a : Fin 16) (b : BitVec 20) : Statement (.pipEdge a b) := of_none rfl
theorem pipPulseEnd (a : Fin 16) : Statement (.pipPulseEnd a) := of_none rfl
theorem captureEdge (a : Fin 16) (b : Bool) (c : Dt) (d : BitVec 17) (e : BitVec 16) : Statement (.captureEdge a b c d e) := of_check rfl id
theorem captureHeadRead (a : Fin 16) (b : Fin 5) (c : Dt) : Statement (.captureHeadRead a b c) := of_check rfl id
theorem tioConfig (a : Fin 16) (b : Word) : Statement (.tioConfig a b) := of_none rfl
theorem tioShort (a : Fin 16) (b : Dt) : Statement (.tioShort a b) := of_check rfl id
theorem sfpInsert (a : Fin 2) (b : List (BitVec 8)) (c : List (BitVec 8)) (d : Dt) : Statement (.sfpInsert a b c d) := of_check rfl last
theorem sfpRemove (a : Fin 2) (b : Bool) (c : Dt) : Statement (.sfpRemove a b c) := of_check rfl id
theorem sfpTxfault (a : Fin 2) (b : Dt) : Statement (.sfpTxfault a b) := of_check rfl id
theorem sfpDiagRead (a : Fin 2) (b : List (BitVec 8)) (c : Dt) : Statement (.sfpDiagRead a b c) := of_check rfl last
theorem diagnow (a : Fin 2) : Statement (.diagnow a) := of_none rfl
theorem linkUp (a : Fin 4) : Statement (.linkUp a) := of_none rfl
theorem linkDown (a : Fin 4) (b : Bool) (c : Bool) (d : Dt) : Statement (.linkDown a b c d) := of_check rfl id
theorem portDisable (a : Fin 4) : Statement (.portDisable a) := of_none rfl
theorem cmholdStart (a : BitVec 16) : Statement (.cmholdStart a) := of_none rfl
theorem cmholdEnd : Statement .cmholdEnd := of_none rfl
theorem t1lRetrain (a : Bool) (b : Dt) : Statement (.t1lRetrain a b) := of_check rfl id
theorem phyFail (a : Fin 4) (b : Bool) (c : Dt) : Statement (.phyFail a b c) := of_check rfl id
theorem frameReceive (a : Fin 4) (b : FrameIn) (c : Dt) : Statement (.frameReceive a b c) := of_check rfl id
theorem frameTransmitStart (a : Fin 4) : Statement (.frameTransmitStart a) := of_none rfl
theorem addressAgeOut (a : BitVec 48) (b : Fin 64) : Statement (.addressAgeOut a b) := of_none rfl
theorem flushAddresses (a : BitVec 4) : Statement (.flushAddresses a) := of_none rfl
theorem vlanCommit (a : Fin 64) (b : BitVec 64) : Statement (.vlanCommit a b) := of_none rfl
theorem ptpSyncRx (a : Fin 4) (b : PtpMsg) (c : Dt) (d : BitVec 17) : Statement (.ptpSyncRx a b c d) := of_check rfl id
theorem ptpFollowUpRx (a : Fin 4) (b : PtpMsg) : Statement (.ptpFollowUpRx a b) := of_none rfl
theorem ptpDelayReqRx (a : Fin 4) (b : PtpMsg) (c : Dt) (d : BitVec 17) : Statement (.ptpDelayReqRx a b c d) := of_check rfl id
theorem ptpDelayRespRx (a : Fin 4) (b : PtpMsg) : Statement (.ptpDelayRespRx a b) := of_none rfl
theorem ptpPdelayReqRx (a : Fin 4) (b : PtpMsg) (c : Dt) (d : BitVec 17) (e : BitVec 48) (f : Bool) : Statement (.ptpPdelayReqRx a b c d e f) := of_check rfl id
theorem ptpPdelayRespRx (a : Fin 4) (b : PtpMsg) (c : Dt) (d : BitVec 17) : Statement (.ptpPdelayRespRx a b c d) := of_check rfl id
theorem ptpPdelayRespFupRx (a : Fin 4) (b : PtpMsg) : Statement (.ptpPdelayRespFupRx a b) := of_none rfl
theorem ptpAnnounceRx (a : Fin 4) (b : PtpMsg) : Statement (.ptpAnnounceRx a b) := of_none rfl
theorem ptpManagementRx (a : Fin 4) (b : FrameIn) : Statement (.ptpManagementRx a b) := of_none rfl
theorem ptpUnsupportedRx (a : Fin 4) : Statement (.ptpUnsupportedRx a) := of_none rfl
theorem ptpSyncTx (a : Fin 4) (b : Dt) (c : BitVec 17) (d : Bool) : Statement (.ptpSyncTx a b c d) := of_check rfl id
theorem ptpAnnounceTx (a : Fin 4) : Statement (.ptpAnnounceTx a) := of_none rfl
theorem ptpDelayReqTx (a : Fin 4) (b : Dt) (c : BitVec 17) : Statement (.ptpDelayReqTx a b c) := of_check rfl id
theorem tcForward (a : Fin 4) (b : Fin 4) (c : List (BitVec 8)) (d : BitVec 48) : Statement (.tcForward a b c d) := of_none rfl
theorem tcFollowUpTimeout (a : Fin 4) : Statement (.tcFollowUpTimeout a) := of_none rfl
theorem followUpHoldExpire (a : Fin 4) : Statement (.followUpHoldExpire a) := of_none rfl
theorem announceReceiptTimeout (a : Fin 4) : Statement (.announceReceiptTimeout a) := of_none rfl
theorem portSlave (a : Fin 4) : Statement (.portSlave a) := of_none rfl
theorem ptpOverload (a : Dt) : Statement (.ptpOverload a) := of_check rfl id
theorem overloadClear : Statement .overloadClear := of_none rfl
theorem esmcInfoTx (a : Fin 2) : Statement (.esmcInfoTx a) := of_none rfl
theorem esmcEventTx (a : Fin 2) : Statement (.esmcEventTx a) := of_none rfl
theorem esmcRx (a : Fin 2) (b : BitVec 4) : Statement (.esmcRx a b) := of_none rfl
theorem esmcTimeout (a : Fin 2) : Statement (.esmcTimeout a) := of_none rfl
theorem lepBeaconTx (a : Dt) (b : BitVec 17) : Statement (.lepBeaconTx a b) := of_check rfl id
theorem lepLeaveTx (a : Dt) (b : BitVec 17) : Statement (.lepLeaveTx a b) := of_check rfl id
theorem lepBeaconRx (a : Fin 2) (b : BeaconIn) (c : BitVec 48) (d : Dt) (e : BitVec 17) : Statement (.lepBeaconRx a b c d e) := of_check rfl id
theorem lepLeaveRx (a : Fin 2) (b : BeaconIn) (c : BitVec 48) (d : Dt) : Statement (.lepLeaveRx a b c d) := of_check rfl id
theorem peerQualify (a : Fin 16) : Statement (.peerQualify a) := of_none rfl
theorem peerStale (a : Fin 16) : Statement (.peerStale a) := of_none rfl
theorem peerLost (a : Fin 16) : Statement (.peerLost a) := of_none rfl
theorem peerFree (a : Fin 16) : Statement (.peerFree a) := of_none rfl
theorem ensSample : Statement .ensSample := of_none rfl
theorem brambleEvent (a : BitVec 48) (b : BitVec 19) (c : Dt) : Statement (.brambleEvent a b c) := of_check rfl last
theorem brambleFire (a : Fin 5) (b : Fin 32) (c : BitVec 19) (d : Dt) : Statement (.brambleFire a b c d) := of_check rfl last
theorem brambleFifoHeadRead (a : Fin 5) : Statement (.brambleFifoHeadRead a) := of_none rfl
theorem tioPulseEnd (a : Fin 16) : Statement (.tioPulseEnd a) := of_none rfl
theorem alarmokClear (a : Fin 4) : Statement (.alarmokClear a) := of_none rfl
theorem tlFrameStart (a : Fin 5) : Statement (.tlFrameStart a) := of_none rfl
theorem tlRead (a : Fin 5) (b : List (BitVec 8)) (c : Dt) (d : List EccIn) : Statement (.tlRead a b c d) := of_check rfl id
theorem tlWrite (a : Fin 5) (b : List (BitVec 8)) (c : Dt) : Statement (.tlWrite a b c) := of_check rfl id
theorem tlNop (a : Fin 5) (b : List (BitVec 8)) (c : Dt) : Statement (.tlNop a b c) := of_check rfl id
theorem tlFrameDiscard (a : Fin 5) (b : List (BitVec 8)) (c : Fin 8) (d : Dt) : Statement (.tlFrameDiscard a b c d) := of_check rfl id
theorem tlResponsePush (a : Fin 5) : Statement (.tlResponsePush a) := of_none rfl
theorem tnenChange (a : BitVec 4) : Statement (.tnenChange a) := of_none rfl
theorem allocationApply : Statement .allocationApply := of_none rfl
theorem tlTxnBegin (a : Fin 4) : Statement (.tlTxnBegin a) := of_none rfl
theorem tlTxnCommit (a : Fin 4) : Statement (.tlTxnCommit a) := of_none rfl
theorem tlTxnAbort (a : Fin 4) : Statement (.tlTxnAbort a) := of_none rfl
theorem txnstatReport (a : Fin 4) : Statement (.txnstatReport a) := of_none rfl
theorem logpush (a : Fin 4) (b : Word) : Statement (.logpush a b) := of_none rfl
theorem scheduledStore : Statement .scheduledStore := of_none rfl
theorem storeDone : Statement .storeDone := of_none rfl
theorem storeVerifyFail (a : Dt) : Statement (.storeVerifyFail a) := of_check rfl id
theorem commitDone (a : Fin 5) (b : Bool) (c : Dt) : Statement (.commitDone a b c) := of_check rfl id
theorem resumedStoreSeal : Statement .resumedStoreSeal := of_none rfl
theorem tallyIncrement (a : Bool) (b : Dt) : Statement (.tallyIncrement a b) := of_check rfl id
theorem tallyinc (a : BitVec 5) : Statement (.tallyinc a) := of_none rfl
theorem scheduledCal : Statement .scheduledCal := of_none rfl
theorem calItemEnd (a : CalMeas) : Statement (.calItemEnd a) := of_none rfl
theorem calRunEnd : Statement .calRunEnd := of_none rfl
theorem calHostWrite (a : BitVec 12) (b : BitVec 2048) : Statement (.calHostWrite a b) := of_none rfl
theorem facload : Statement .facload := of_none rfl
theorem faultRecover (a : Fin 14) (b : Fin 16) : Statement (.faultRecover a b) := of_none rfl
theorem faultAck (a : Word) : Statement (.faultAck a) := of_none rfl
theorem faultAckClass (a : Fin 14) (b : Word) : Statement (.faultAckClass a b) := of_none rfl
theorem faultForce (a : Fin 14) (b : Word) (c : Dt) : Statement (.faultForce a b c) := of_check rfl id
theorem returnToService (a : Fin 14) (b : Fin 16) : Statement (.returnToService a b) := of_none rfl
theorem quietWrite (a : Fin 14) (b : BitVec 32) : Statement (.quietWrite a b) := of_none rfl
theorem snapshotTrigger : Statement .snapshotTrigger := of_none rfl
theorem snapshotCopyStart : Statement .snapshotCopyStart := of_none rfl
theorem snapshotDone (a : Bool) : Statement (.snapshotDone a) := of_none rfl
theorem slotfree (a : Fin 2) : Statement (.slotfree a) := of_none rfl
theorem slowRecordEntry (a : Bool) : Statement (.slowRecordEntry a) := of_none rfl
theorem replayCheck (a : UploadIn) : Statement (.replayCheck a) := of_none rfl
theorem replaySpanEnd : Statement .replaySpanEnd := of_none rfl
theorem submitpw (a : Bool) (b : Dt) : Statement (.submitpw a b) := of_check rfl id
theorem submitrsp (a : Bool) (b : Dt) : Statement (.submitrsp a b) := of_check rfl id
theorem verdict : Statement .verdict := of_none rfl
theorem chalreq (a : Bool) (b : Dt) : Statement (.chalreq a b) := of_check rfl id
theorem challengeExpire : Statement .challengeExpire := of_none rfl
theorem backoffExpire : Statement .backoffExpire := of_none rfl
theorem relock (a : Bool) (b : Dt) : Statement (.relock a b) := of_check rfl id
theorem relockTimeout : Statement .relockTimeout := of_none rfl
theorem setpw (a : Dt) : Statement (.setpw a) := of_check rfl id
theorem pwclear (a : Bool) (b : Dt) : Statement (.pwclear a b) := of_check rfl id
theorem svcSessionTimeout : Statement .svcSessionTimeout := of_none rfl
theorem uploadEnable : Statement .uploadEnable := of_none rfl
theorem uploadDisable : Statement .uploadDisable := of_none rfl
theorem microcodeUpdate (a : Word) : Statement (.microcodeUpdate a) := of_none rfl
theorem microcodeUpdateDone (a : Bool) : Statement (.microcodeUpdateDone a) := of_none rfl
theorem floorRaise : Statement .floorRaise := of_none rfl
theorem floorRaiseDone : Statement .floorRaiseDone := of_none rfl
theorem inputInRange : Statement .inputInRange := of_none rfl
theorem synbRelock : Statement .synbRelock := of_none rfl
theorem ckRelock (a : Fin 8) : Statement (.ckRelock a) := of_none rfl
theorem cModeReturn : Statement .cModeReturn := of_none rfl
theorem sfpTxfaultClear (a : Fin 2) : Statement (.sfpTxfaultClear a) := of_none rfl
theorem phyManagementReturn (a : Fin 4) : Statement (.phyManagementReturn a) := of_none rfl
theorem tioShortEnd (a : Fin 16) : Statement (.tioShortEnd a) := of_none rfl
theorem rinLevelChange (a : Fin 4) (b : Fin 3) (c : BitVec 16) : Statement (.rinLevelChange a b c) := of_none rfl
theorem backupCapacitorExhausted : Statement .backupCapacitorExhausted := of_none rfl
theorem rangeChangeHold (a : Fin 8) (b : Dt) : Statement (.rangeChangeHold a b) := of_check rfl id

end Sys2Proof.Laws.Moments
end

