-- ==== Sys2Proof/Tests/Slice0.lean ====
section
/-! SUPPORT. Tests: the well-formedness checks, values that the spec works out, and for every obligation with hypotheses a witness:
`witness_<Name>` shows states and operands that meet the hypotheses of its clauses, clause after clause. -/
open Sys2Proof Sys2Proof.Machine
namespace Sys2Proof.Tests
set_option maxRecDepth 100000
set_option Elab.async false
set_option exponentiation.threshold 2048

/-! ## States and operands -/

/-- Register fields set one after another. -/
def put (l : List (Fld × Nat)) (s : State) : State := l.foldl (fun t p => t.wr p.1 p.2) s

/-- A unit out of BOOT in mode `m`, every domain on, the engines running with their images and the time scale at 100 s. -/
def upIn (m : Mode) : State :=
  put [(F.dMode, m.code), (F.dPowstat, 0x3FFF), (F.fabLoaded 0, 1), (F.fabLoaded 1, 1), (F.fabLoaded 2, 1)]
    { State.reset with phase := .run, tm.running := true, tm.now := 100 * unitsPerSec, pw.rtcLost := false }

/-- The same in PROVISION. -/
def up : State := upIn .provision

/-- A class with an uncleared record of level `l` and its live bits. -/
def withRec (c : FC) (l live : Nat) (s : State) : State :=
  s.setFrec c { level := l, uncl := true, dflt := l, ceil := 3, opened := true, live := live, isol := if l = 2 then live else 0, seq := 1 }

/-- The sentence `$GPZDA,000000,01,01,2000,00,00*4A`. -/
def zda : List (BitVec 8) :=
  [36, 71, 80, 90, 68, 65, 44, 48, 48, 48, 48, 48, 48, 44, 48, 49, 44, 48, 49, 44, 50, 48, 48, 48, 44, 48, 48, 44, 48, 48, 42, 52, 65]

/-- A PTP message of domain 0 whose fields are 0. -/
def msg0 : PtpMsg :=
  { domain := 0, clk := 0, port := 0, seq := 0, twoStep := false, ptpTimescale := false, utcValid := false, leap61 := false,
    leap59 := false, corr := 0, sec := 0, ns := 0, reqClk := 0, reqPort := 0, utcOff := 0, prio1 := 0, cls := 0, acc := 0, var := 0,
    prio2 := 0, gm := 0, steps := 0 }

/-- Port `n` up in a PTP clock of type 2 (BC) with the port enabled for PTP in state `st`. -/
def ptpIn (m : Mode) (n st : Nat) : State :=
  put [(F.portLink n, 1), (F.ptpEn n, 1), (F.ptpClktype, 2), (F.ptpPstate n, st), (F.ptpMech n, 0), (F.ptpDomain, 0)] (upIn m)

/-- A beacon of another clock with no report. -/
def beacon0 : BeaconIn :=
  { domain := 0, clk := Config.clkid + 1, port := 1, seq := 9, log := 0, version := 0x10, state := 2, mq := 200, digest := 0, hops := 0, resacc := 0,
    sec := 99, ns := 0, frac := 0, srcid := 7, srckind := 0, test := 0, ensid := 0, reports := [], extra := [] }

/-- Link `k` open in TRACK, with frame state `l`. -/
def linked (k : Nat) (l : Link) : State :=
  put [(F.tenTnen, 15)] { upIn .track with tn.links := [(k, l)] }

/-- The word group at an address. -/
def grp (sp a : Nat) : WordGrp := (grpAt sp a).getD ⟨0, 0, []⟩

/-- The widths of a delay line of 128 taps of 1000 each. -/
def tapsW : BitVec 2048 := BitVec.ofNat 2048 (ofTaps (List.replicate 128 1000))

/-- What the calibration window finds at two addresses. -/
theorem gainField : calField F.calSupgain (0 % 2 ^ F.calSupgain.w) = some (1, okGain 0) := by
  unfold calField; rw [if_pos rfl]; exact congrArg (fun x => some (1, okGain x)) (by decide +kernel)
theorem noField (f : Fld) (h : ((grpAt 11 80).bind fun g => g.flds.head?) = some f) : calField f (5 % 2 ^ f.w) = none := by
  have e : ((grpAt 11 80).bind fun g => g.flds.head?) = none := by decide +kernel
  rw [e] at h; cases h
/-- A skew written 128 away from the factory's, and the factory's own, whatever it is. -/
theorem skewFar : okSkew ↑(Config.facSkew 7).toNat
    ↑((BitVec.ofNat 2048 ((Config.facSkew 7).toNat + 128)).toNat % 256) = false := by
  have h := (Config.facSkew 7).isLt
  generalize (Config.facSkew 7).toNat = x at *
  revert x; decide +kernel
theorem skewSame : okSkew ↑(Config.facSkew 7).toNat
    ↑((BitVec.ofNat 2048 (Config.facSkew 7).toNat).toNat % 256) = true := by
  have h := (Config.facSkew 7).isLt
  generalize (Config.facSkew 7).toNat = x at *
  revert x; decide +kernel

/-- The state that an outcome answers. -/
def after (o : Host.Outcome State Fault Refusal) : State := match o with | .next t => t | _ => State.reset

theorem next_after (o : Host.Outcome State Fault Refusal) (h : (match o with | .next _ => true | _ => false) = true) :
    o = .next (after o) := by
  cases o <;> simp_all [after]

/-- Clock identities, whatever the unit's own is. -/
theorem clk_ne : (Config.clkid + 1).toNat ≠ Config.clkid.toNat := by
  have := Config.clkid.isLt; rw [BitVec.toNat_add]; simp; omega

theorem own_beacon (b : BeaconIn) (h : b.clk = Config.clkid + 1) : lepOwn b = false := by
  simp only [lepOwn, h, beq_eq_false_iff_ne, ne_eq]; intro h; exact clk_ne (congrArg _ h)

theorem own_self (b : BeaconIn) (h : b.clk = Config.clkid) : lepOwn b = true := by simp [lepOwn, h]

theorem dup_beacon (s : State) (b c : BeaconIn) (h : s.es.relayed = [⟨lepSrc c, 9, 0⟩]) (hc : c.clk = b.clk) (hp : c.port = b.port)
    (hq : b.seq.toNat = 9)
    (hb : s.beatcnt < 0 + 2048) : lepDup s b = true := by
  simp [lepDup, lepSrc, h, hq, hc, hp]; omega

theorem answersUs_of (s : State) (n : Nat) (m : PtpMsg) (h : m.reqClk = Config.clkid) (hp : m.reqPort.toNat = n + 1)
    (hr : (match (s.ptp n).req with | some h => h.seq == m.seq.toNat | none => false) = true) : answersUs s n m = true := by
  simp only [answersUs, h, hp, beq_self_eq_true, Bool.and_self, Bool.true_and]; exact hr

theorem answersUs_not (s : State) (n : Nat) (m : PtpMsg) (hp : (m.reqPort.toNat == n + 1) = false) : answersUs s n m = false := by
  simp [answersUs, hp]

theorem no_pair (o : Option (Nat × Int)) (b : Nat) (h : o.map (·.1) ≠ some b) (a : Int) : o ≠ some (b, a) := by
  intro e; simp [e] at h

theorem q34 (s : State) (h3 : s.queue 3 3 = []) (h4 : s.queue 3 4 = []) (r : Nat) (h : 2 < r) (h' : r < 5) : s.queue 3 r = [] := by
  obtain rfl | rfl : r = 3 ∨ r = 4 := by omega
  · exact h3
  · exact h4

/-- What a quiet beat brings. -/
def beat0 : BeatIn :=
  { len := 0x38A40, hwSc := 1, hwQc := 2, hwPc := 3, ecc := [], refs := [], temp := none, vin := 48000, plate := 0, huv := 56000,
    margin5 := 100, margin6 := 100, mse := 0, echo := 0, margin := ⟨false, 0, false⟩, sliceDef := 0, rescrc := 0,
    ckpt := [], diverged := false }

/-! ## Well-formed commands: each check refuses a term -/

theorem test_moment_past_two_beats : WellFormed (.supplyLow 976564) = false := by decide
theorem test_cycle_past_two_beats : WellFormed (.brambleFire 0 3 488282 5) = false := by decide
theorem test_no_producer : WellFormed (.brambleEvent 0 5 5) = false := by decide
theorem test_short_page : WellFormed (.sfpInsert 0 [1, 2] [3] 5) = false := by decide
theorem test_short_message : WellFormed (.tcForward 0 1 [0x80] 5) = false := by decide
theorem test_short_tdc_pass : WellFormed (.calItemEnd (.tdc [1, 2] [3])) = false := by decide
theorem test_edge_past_two_beats : WellFormed (.beatStrobe { beat0 with refs := [⟨0, [128000000001], 1, none, none, false, 0, 0, 0⟩] }) = false := by
  decide
theorem test_quiet_beat : WellFormed (.beatStrobe beat0) = true := by decide

/-! ## Values that the spec works out -/

/-- R4, *Stage 5*: the CRC-8 of a READ of TID, and of its response 01 91 00 01 00 01 00 01. -/
theorem test_crc8_frames : crc8 [0x91, 0, 1, 0, 1] = 0xCD ∧ crc8 [1, 0x91, 0, 1, 0, 1, 0, 1] = 0x2A := by decide +kernel

/-- A READ of TIME:0x00010F and a NOP (*Tenants*, worked example). -/
theorem test_crc8_nop : crc8 [0x41, 0, 1, 0x0F, 1] = 0x6F ∧ crc8 [0, 0, 0, 0, 0] = 0xB2 := by decide +kernel

/-- *PTP*, worked example: 1,893,456,160 s and 456,000,123 ns as a Sync carries them. -/
theorem test_sync_timestamp :
    stamp (ofTime 1893456160 456000123 0x8000) = [0, 0, 0x70, 0xDB, 0xD9, 0x20, 0x1B, 0x2E, 0x02, 0x7B] := by decide +kernel

/-- *Resonator*, worked example: RESID 1,267 gives RSCORE 233. -/
theorem test_rscore : rscore (put [(F.servoResid, 1267)] State.reset) = 233 := by decide +kernel

/-- *Reference inputs*: the second that $GPZDA,000000,01,01,2000 names. -/
theorem test_zda : nmeaSecond true (nmeaFields (zda.drop 1 |>.take 29)) = some 946684800 := by decide +kernel

/-- R461, R7: the unit leaves the factory without power, with its real-time counter lost and AUTORUN clear. -/
theorem test_reset : State.reset.phase = .off ∧ State.reset.mode = .boot ∧ State.reset.pw.rtcLost = true ∧
    State.reset.is F.sysAutorun = false ∧ State.reset.pending = [] := by decide +kernel

/-- *Host bus*, worked example: BEATCNT read through the window as 0x0000, 0x0123, 0x4567. -/
theorem test_beatcnt_words :
    let s := (put [(F.fabBeatcnt, 0x01234567)] up).setWin 0 { space := 15, addr := 0, ainc := true }
    let s1 := after (exec (.wdataRead 0 [] 5) s)
    let s2 := after (exec (.wdataRead 0 [] 5) s1)
    let s3 := after (exec (.wdataRead 0 [] 5) s2)
    s1.bus.rdata = some 0 ∧ s2.bus.rdata = some 0x0123 ∧ s3.bus.rdata = some 0x4567 := by decide +kernel

/-- R115: CMD without the guard nibble does nothing but count in HBGUARD. -/
theorem test_guard :
    let t := after (exec (.registerWrite 4 0x5001 5) up)
    t.rd F.sysHbguard = 1 ∧ t.bus.cmd = none := by decide +kernel

/-- *Beat engines*, worked example: QC and PC claim a line in one cycle of a beat whose number is 1 modulo 3; QC is granted
first, and PC is marked and waits. -/
theorem test_rotation :
    let s := after (exec (.cacheGetm 1 3 0 7 4 [] 5) (put [(F.fabBeatcnt, 4000)] up))
    s.en.dir.get? 3 = some (.m 1) ∧ waitingOn s 3 = [2] := by decide +kernel

/-- R386: AUX_LOW at its default L0 leaves one record, counted. -/
theorem test_aux_low :
    let t := after (exec (.auxLow true 5) up)
    t.rd FC.auxLow.cnt = 1 ∧ (t.frec .auxLow).uncl = true ∧ (t.frec .auxLow).level = 0 := by decide +kernel

/-- R74: request code 2 asks for Run, and an operating mode has it waiting. -/
theorem test_run_requested : (after (exec .modeReqRun up)).md.req = some 2 := by decide +kernel

/-- R69: a failure of D0 in a unit with energy is the one stop. -/
theorem test_d0 : exec (.domainFail 0 5) up = .fault .d0Failed := rfl

/-- With nothing waiting a step leaves the state as it is (log 1), and no word spells a command. -/
theorem test_idle : step State.reset = .next State.reset := rfl
theorem test_no_word : decodeTableWord 16 0xFFFF = none := rfl

/-! ## Witnesses -/

def w3s1 : State := {State.reset with pending := [.backupCapacitorExhausted, .holdBound], pw.rtcLost := false}
theorem witness_StepKeepsCanonicalForm : Canon w3s1 ∧ step w3s1 = .next (after (step w3s1)) :=
  ⟨⟨by decide +kernel, by decide +kernel, by decide +kernel, by decide +kernel, by decide +kernel, (by intro r h; cases h), by decide +kernel, by decide +kernel⟩,
   next_after _ (by decide +kernel)⟩
theorem witness_QueueIsTakenFromFront :
    exec .backupCapacitorExhausted w3s1 = .next (after (exec .backupCapacitorExhausted w3s1)) ∧ step w3s1 = .next (after (step w3s1)) :=
  ⟨next_after _ (by decide +kernel), next_after _ (by decide +kernel)⟩
theorem witness_SecurityFloorNeverFalls : step w3s1 = .next (after (step w3s1)) := next_after _ (by decide +kernel)

def w9 (cl : List Claim) : State := {up with en.claims := cl, en.dir := [(3, .m 0)], en.caches := [(0, [(3, ⟨true, List.replicate 64 7⟩)])]}
abbrev w9s1 : State := w9 []
abbrev w11s6 : State := w9 [⟨3, 1, 2⟩]
theorem w9_dir (k) (l : Nat) : (w9 k).en.dir.get? l = if 3 = l then some (Dir.m 0) else none := rfl
theorem w9_cline (k) (e l : Nat) : (w9 k).cline e l = if e = 0 ∧ l = 3 then some ⟨true, List.replicate 64 7⟩ else none := by
  rcases e with _ | e
  · show (if 3 = l then some _ else none) = _
    by_cases h : l = 3 <;> simp [h] <;> omega
  · simp; rfl
theorem w9_wbuf (k) (e : Nat) : (w9 k).wbufOf e = [] := rfl
theorem witness_CacheCommandsKeepSingleOwner :
    (∃ e l x d, Instr.cacheGets 2 3 [] 5 = .cacheGets e l x d) ∧
    (∀ l o, w9s1.en.dir.get? l = some (.m o) → o < 3 ∧ (∃ d, w9s1.cline o l = some ⟨true, d⟩) ∧
      ∀ e, e < 3 → e ≠ o → w9s1.cline e l = none) ∧
    (∀ e l c, e < 3 → w9s1.cline e l = some c → c.m = true → w9s1.en.dir.get? l = some (.m e)) ∧
    (∀ e l c, e < 3 → w9s1.cline e l = some c → c.m = false → ∃ m, w9s1.en.dir.get? l = some (.s m) ∧ bit m e = true) ∧
    (∀ e l b, e < 3 → (l, b) ∈ w9s1.wbufOf e → ∃ k, w9s1.en.dir.get? l = some (.wb k)) ∧
    exec (.cacheGets 2 3 [] 5) w9s1 = .next (after (exec (.cacheGets 2 3 [] 5) w9s1)) := by
  refine ⟨⟨2, 3, [], 5, rfl⟩, ?_, ?_, ?_, ?_, next_after _ (by decide +kernel)⟩ <;> simp only [w9_dir, w9_cline, w9_wbuf]
  · intro l o h
    split at h <;> simp at h
    subst h; subst l; simp
  · intro e l c _ h _
    split at h
    · rename_i h'; simp [h']
    · cases h
  · intro e l c _ h hm
    split at h
    · cases h; simp at hm
    · cases h
  · intro e l b _ h; cases h

def Quiet (s : State) : Prop := s.powered = true ∧ (∀ e, e < 3 → s.wbufOf e = []) ∧ s.en.orchard.wf = true ∧
    (∀ l o, s.en.dir.get? l = some (.m o) → o < 3) ∧
    (∀ e l c, e < 3 → s.cline e l = some c → c.data.length = 64)
theorem w9_quiet (k : List Claim) (hp : (w9 k).powered = true) (ho : (w9 k).en.orchard.wf = true) : Quiet (w9 k) := by
  refine ⟨hp, fun e _ => w9_wbuf k e, ho, ?_, ?_⟩
  · intro l o h
    rw [w9_dir] at h
    split at h <;> simp at h; omega
  · intro e l c _ h
    rw [w9_cline] at h
    split at h
    · cases h; rfl
    · cases h
theorem witness_CoherenceCommandsMoveLines :
    Quiet w9s1 ∧ Quiet w11s6 ∧ (∀ e ∈ ([] : List EccIn), e.double = false) ∧
    (engFetches w9s1 2 = true ∧ w9s1.cline 2 3 = none ∧ hasRoom w9s1 2 3 = true ∧
      ∀ o, w9s1.en.dir.get? 3 = some (.m o) → o ≠ 2 ∧ w9s1.cline o 3 ≠ none) ∧
    (engFetches w9s1 0 = true ∧ w9s1.cline 0 3 = some ⟨true, List.replicate 64 7⟩) ∧ (w9s1.powered = true ∧ w9s1.domOn 13 = true) ∧
    (exec (.cacheGets 2 3 [] 5) w9s1 = .next (after (exec (.cacheGets 2 3 [] 5) w9s1)) ∧ waitingOn w9s1 3 = [] ∧
      exec (.cacheGetm 2 3 7 8 0 [] 5) w9s1 = .next (after (exec (.cacheGetm 2 3 7 8 0 [] 5) w9s1))) ∧
    (engFetches w9s1 1 = true ∧ hasRoom w9s1 1 3 = true ∧ (∀ d, w9s1.cline 1 3 ≠ some ⟨true, d⟩) ∧ waitingOn w9s1 3 = []) ∧
    (engFetches w11s6 1 = true ∧ hasRoom w11s6 1 3 = true ∧ (∀ d, w11s6.cline 1 3 ≠ some ⟨true, d⟩) ∧ waitingOn w11s6 3 = [1]) ∧
    ((∀ o : Nat, o < 3 → takesLine w11s6 3 o = true) ∧ w11s6.cline 0 3 = some ⟨true, List.replicate 64 7⟩ ∧
      ∀ c ∈ w11s6.en.claims, c.agent < 3) := by
  refine ⟨w9_quiet _ (by decide +kernel) (by decide +kernel), w9_quiet _ (by decide +kernel) (by decide +kernel), nofun,
    ⟨by decide +kernel, rfl, by decide +kernel, ?_⟩, ⟨by decide +kernel, rfl⟩, by decide +kernel,
    ⟨next_after _ (by decide +kernel), rfl, next_after _ (by decide +kernel)⟩, ⟨by decide +kernel, by decide +kernel, nofun, rfl⟩,
    ⟨by decide +kernel, by decide +kernel, nofun, rfl⟩, by decide +kernel, rfl, by decide +kernel⟩
  intro o h
  rw [w9_dir] at h; simp at h; subst h; exact ⟨by decide, nofun⟩

abbrev fldAt (a : Nat) : Option Fld := (grpAt 11 a).bind (fun g => g.flds.head?)
/-- The host writes of the calibration window: SUPGAIN while the bandgap group is measured, TDCW3 outside its limits and within
them, and an address with no field. -/
theorem witness_calHostWrite :
    (let s : State := { upIn .track with ca.run := some ⟨5, [1], 0, none, 0⟩ }
     s.live = true ∧ fldAt 2 = some F.calSupgain ∧
      calField F.calSupgain ((0 : BitVec 2048).toNat % 2 ^ F.calSupgain.w) = some (1, okGain 0) ∧ measuring s 1 = true) ∧
    up.live = true ∧ fldAt 640 = some (F.calTdcw 3) ∧ measuring up 35 = false ∧
    calField (F.calTdcw 3) ((0 : BitVec 2048).toNat % 2 ^ (F.calTdcw 3).w) = some (35, false) ∧
    calField (F.calTdcw 3) (tapsW.toNat % 2 ^ (F.calTdcw 3).w) = some (35, true) ∧
    (∀ f, fldAt 80 = some f → calField f ((5 : BitVec 2048).toNat % 2 ^ f.w) = none) :=
  ⟨⟨by decide +kernel, rfl, gainField, by decide +kernel⟩, by decide +kernel, rfl, by decide +kernel, by decide +kernel,
   by decide +kernel, fun f h => noField f h⟩

/-- An image of engine 1 with one instruction, in UCSTAGE. -/
def ucStage : Mem :=
  Mem.writeN [] 0 ([0x4C, 0x54, 0x55, 0x43, 1, 1, 0, 0, 0, 0, 0, 1, 0, 0, 0, 6] ++ sha256 (List.replicate 6 0) ++ List.replicate 64 1)
def w58s13 : State := {put [(F.dLock, 3)] up with sc.stage := ucStage, pw.floor := 0}
/-- With a signature that verifies, whatever verifying is. -/
theorem witness_updateOfAnImage (h : Config.sigOk (sha256 (ucStage.readN 0 48)) (ucStage.readN 48 64) = true) :
    w58s13.live = true ∧ svcOpen w58s13 = true ∧ w58s13.sc.uc = none ∧ updateReason w58s13 1 (stagedImage w58s13.sc.stage) = 0 := by
  refine ⟨by decide +kernel, by decide +kernel, rfl, ?_⟩
  show updateReason w58s13 1 (stagedImage ucStage) = 0
  simp only [stagedImage, h]; decide +kernel

def w54s1 : State := withRec .auxLow 3 1 up
theorem witness_AcknowledgementClearsRecords :
  ((withRec FC.domainFail 3 64 (withRec FC.auxLow 1 0 up)).live = true) ∧
  (∀ (c : FC), FC.at? 13 15 = some c → (up.frec c).uncl = false) ∧
  (bit ((withRec FC.auxLow 1 1 up).frec FC.auxLow).live 0 = true) ∧
  (w54s1.live = true) ∧ (Nat.testBit 1 FC.auxLow.blk = true) ∧
  ((w54s1.frec FC.auxLow).uncl = true) ∧ ((w54s1.frec FC.auxLow).level = 3) ∧
  (exec (Instr.faultAck 1) w54s1 = Host.Outcome.next (after (exec (.faultAck 1) w54s1))) ∧
  (let s : State := {upIn .safe with flt.l3acked := true}
   (s.phase = Phase.run) ∧ (s.tm.running = true) ∧ (s.mode = Mode.safe) ∧ (s.flt.l3acked = true) ∧ (s.md.req = none)) := by
  refine ⟨?_, ?_, ?_, ?_, ?_, ?_, ?_, next_after _ (by decide +kernel), ?_⟩
  case refine_2 => intro c; cases c <;> decide +kernel
  all_goals decide +kernel

def w1s1 : State := {up with pending := [.hutest, .holdBound]}
theorem witness_StepRunsFrontCommand :
  (w1s1.pending = [Instr.hutest, Instr.holdBound]) ∧
  (up.pending = []) := by
  and_intros <;> first | decide +kernel

def w7s1 : State := {up with en.eng := [(2, {overran := true, outstanding := true})], pubs := [(5, {regs := [(3, 4)]})]}
def w7s2 : State := {up with en.eng := [(1, {overran := true, outstanding := true})]}
def w7s3 : State := {up with en.overBeat := true}
theorem witness_OverrunsAndMailboxes :
  (up.powered = true) ∧ (up.tm.running = true) ∧ (up.en.restart = none) ∧ (engFetches up 2 = true) ∧ ((up.engine 2).overran = false) ∧
  (up.powered = true) ∧ (up.tm.running = true) ∧ (up.en.restart = none) ∧ (bit up.en.abandoned 2 = false) ∧
  (w7s1.powered = true) ∧ (w7s1.tm.running = true) ∧ (w7s1.en.restart = none) ∧ ((w7s1.engine 2).outstanding = true) ∧
  (w7s2.powered = true) ∧ (w7s2.tm.running = true) ∧ (w7s2.en.restart = none) ∧ ((w7s2.engine 1).outstanding = true) ∧
  (w7s3.powered = true) ∧ (w7s3.tm.running = true) ∧ (w7s3.en.restart = none) ∧ (engFetches w7s3 1 = true) ∧
  ((w7s3.engine 1).overran = false) := by
  and_intros <;> first | decide +kernel

def w8s1 : State := {up with en.eng := [(2, {stopped := true, reload := true})]}
def w8s2 : State := {up with en.eng := [(2, {stopped := true, reload := true})], st.slots := []}
theorem witness_ParityStopsAndReloads :
  (up.powered = true) ∧ (engFetches up 2 = true) ∧
  (w8s1.powered = true) ∧ ((w8s1.engine 2).reload = true) ∧ (reloadWaits w8s1 2 = false) ∧ (w8s1.rd (F.fabSlot 2) < 2) ∧
  (w8s2.powered = true) ∧ ((w8s2.engine 2).reload = true) ∧ (reloadWaits w8s2 2 = false) ∧ (w8s2.rd (F.fabSlot 2) < 2) := by
  and_intros <;> first | decide +kernel

def w10s1 : State := {up with en.restart := some 1}
def w10s2 : State := {upIn .replay with en.restart := some 1}
def w10s3 : State := {up with tm.pend := some ⟨-65536, .setting⟩}
def w10s4 : State := {up with tm.pend := some ⟨-65536, .jump⟩}
theorem witness_BeatStrobeStepAndResume :
  (up.powered = true) ∧ (up.tm.running = true) ∧
  (w10s1.powered = true) ∧ (w10s1.en.restart = some 1) ∧ (1 ≤ 1) ∧
  (w10s2.powered = true) ∧ (w10s2.en.restart = some 1) ∧ (1 ≤ 1) ∧
  (w10s3.powered = true) ∧ (w10s3.tm.running = true) ∧ (w10s3.tm.pend = some { delta := -65536, why := StepWhy.setting : Step }) ∧
  (w10s4.powered = true) ∧ (w10s4.tm.running = true) ∧ (w10s4.tm.pend = some { delta := -65536, why := StepWhy.jump : Step }) := by
  and_intros <;> first | decide +kernel

def w12s1 : State := {State.reset with pw.rtcLost := false, pw.rtcSec := 90}
abbrev litPowerUpStartsBoot1 : PowerIn := { offSecs := 4294967295, retained := true : PowerIn }
theorem witness_PowerUpStartsBoot :
  (Instr.powerUp { offSecs := 7, retained := true : PowerIn } = Instr.powerUp { offSecs := 7, retained := true : PowerIn } ∨ Instr.powerUp { offSecs := 7, retained := true : PowerIn } = Instr.restartAfterShutdown { offSecs := 7, retained := true : PowerIn }) ∧
  (State.reset.phase = Phase.off) ∧
  (Instr.powerUp { offSecs := 7, retained := true : PowerIn } = Instr.powerUp { offSecs := 7, retained := true : PowerIn } ∨ Instr.powerUp { offSecs := 7, retained := true : PowerIn } = Instr.restartAfterShutdown { offSecs := 7, retained := true : PowerIn }) ∧
  (w12s1.phase = Phase.off) ∧
  (Instr.restartAfterShutdown litPowerUpStartsBoot1 = Instr.powerUp litPowerUpStartsBoot1 ∨ Instr.restartAfterShutdown litPowerUpStartsBoot1 = Instr.restartAfterShutdown litPowerUpStartsBoot1) ∧
  (w12s1.phase = Phase.off) ∧
  (State.reset.phase = Phase.off) ∧
  (w12s1.phase = Phase.off) := by
  and_intros <;> first | decide +kernel

def w13s1 : State := {State.reset with phase := .boot, tm.running := true, pw.bootSlots := 2}
def w13s2 : State := {up with md.autorun := true}
def w13s3 : State := {up with md.autorun := true, md.req := some 3}
theorem witness_BootEndsAndAutorunAsks :
  (w13s1.phase = Phase.boot) ∧ (w13s1.tm.running = true) ∧ (55000 ≤ 55000) ∧
  (w13s2.live = true) ∧ (w13s2.mode = Mode.provision) ∧ (w13s2.md.autorun = true) ∧
  (w13s3.live = true) ∧ (w13s3.mode = Mode.provision) ∧ (w13s3.md.autorun = true) := by
  and_intros <;> first | decide +kernel

def w14s1 : State := {up with pw.opened := true}
theorem witness_InputConditionsAndFaults :
  (up.powered = true) ∧
  ((withRec FC.supplyLow 1 1 up).powered = true) ∧
  (w14s1.powered = true) ∧
  ((withRec FC.supplyOv 1 1 up).powered = true) ∧
  ((withRec FC.supplyOv 1 1 (withRec FC.supplyLow 1 1 up)).powered = true) := by
  and_intros <;> first | decide +kernel

def w15s1 : State := put [(F.sysHuv, 55000)] up
def w15s2 : State := put [(F.sysHuv, 54999)] up
def w15s3 : State := {put [(F.sysHuv, 55000)] up with tm.now := 43200 * unitsPerSec}
def w15s4 : State := {put [(F.sysHuv, 54999)] up with tm.now := 43200 * unitsPerSec}
def w15s5 : State := {up with pw.test := some 55000}
def w15s8 : State := {withRec .holdupWeak 1 1 up with pw.test := some 55000}
theorem witness_HoldupBankTest :
  (w15s1.live = true) ∧
  (w15s2.live = true) ∧
  (w15s3.powered = true) ∧ (w15s3.tm.running = true) ∧ (w15s3.sec % 86400 = 43200) ∧ (w15s3.pw.testSec ≠ some w15s3.sec) ∧
  (w15s4.powered = true) ∧ (w15s4.tm.running = true) ∧ (w15s4.sec % 86400 = 43200) ∧ (w15s4.pw.testSec ≠ some w15s4.sec) ∧
  (w15s5.powered = true) ∧ (w15s5.pw.test = some 55000) ∧ (3700 ≠ 0) ∧
  (w15s5.powered = true) ∧ (w15s5.pw.test = some 55000) ∧ (3 ≠ 0) ∧
  (w15s5.powered = true) ∧ (w15s5.pw.test = some 55000) ∧
  (w15s8.powered = true) ∧ (w15s8.pw.test = some 55000) ∧ (3 ≠ 0) := by
  and_intros <;> first | decide +kernel

def w16s1 : State := put [(F.dPowstat, 1)] {up with pw.turning := 4}
def w16s2 : State := {up with pw.pgLost := 64, pw.failed := 64}
def w16s3 : State := {withRec .domainFail 2 64 up with pw.pgLost := 64, pw.failed := 64}
def w16s4 : State := put [(F.dPowstat, 1)] {up with pw.turning := 64}
theorem witness_DomainsFailAndReturn :
  (13 ≠ 0) ∧ (up.powered = true) ∧ (up.domOn 13 = true ∨ bit up.pw.turning 13 = true) ∧
  (1 ≠ 0) ∧ (up.powered = true) ∧ (up.domOn 1 = true ∨ bit up.pw.turning 1 = true) ∧
  (2 ≠ 0) ∧ (w16s1.powered = true) ∧ (w16s1.domOn 2 = true ∨ bit w16s1.pw.turning 2 = true) ∧
  (w16s2.powered = true) ∧ (bit w16s2.pw.pgLost 6 = true) ∧
  (w16s3.powered = true) ∧ (bit w16s3.pw.pgLost 6 = true) ∧
  (w16s4.powered = true) ∧ (bit w16s4.pw.turning 6 = true) := by
  and_intros <;> first | decide +kernel

def w17s1 : State := {put [(F.dPowstat, 1)] up with bus.dstage := [(F.dPowreq, 4)]}
theorem witness_PowreqAppliesAndDomainsFollow :
  (up.live = true) ∧ (up.tm.running = true) ∧ (up.en.restart = none) ∧
  (w17s1.live = true) ∧ (w17s1.tm.running = true) ∧ (w17s1.en.restart = none) := by
  and_intros <;> first | decide +kernel

def w18s1 : State := put [(F.sysAvsv 0, 730)] {up with pw.avsBeats := [(0, 16)], ca.run := some { kind := 1, items := [1] }}
def w18s2 : State := put [(F.sysAvsv 0, 720)] {up with pw.avsBeats := [(0, 16)]}
def w18s3 : State := put [(F.sysAvsv 1, 900)] {up with pw.avsBeats := [(1, 16)]}
def w18s4 : State := put [(F.sysAvsv 1, 722)] {up with pw.avsBeats := [(1, 16)]}
def w18s5 : State := put [(F.sysAvsv 1, 723)] {up with pw.avsBeats := [(1, 16)]}
def w18s6 : State := put [(F.sysAvsv 1, 890)] up
def w18s7 : State := {up with pw.avsLow := [(1, 64)]}
theorem witness_AdaptiveVoltageScaling :
  (w18s1.powered = true) ∧ (w18s1.domOn (0 + 5) = true) ∧ (16 ≤ w18s1.pw.avsBeats.getD 0 0) ∧ (w18s1.calItem = some 1) ∧
  (w18s2.powered = true) ∧ (w18s2.domOn (0 + 5) = true) ∧ (16 ≤ w18s2.pw.avsBeats.getD 0 0) ∧ (w18s2.calItem ≠ some 1) ∧
  (720 ≤ w18s2.rd (F.sysAvsv 0)) ∧ (w18s2.rd (F.sysAvsv 0) ≤ 900) ∧
  (w18s3.powered = true) ∧ (w18s3.domOn (1 + 5) = true) ∧ (16 ≤ w18s3.pw.avsBeats.getD 1 0) ∧ (w18s3.calItem ≠ some 1) ∧
  (720 ≤ w18s3.rd (F.sysAvsv 1)) ∧ (w18s3.rd (F.sysAvsv 1) ≤ 900) ∧
  (w18s4.powered = true) ∧ (w18s4.domOn (1 + 5) = true) ∧ (16 ≤ w18s4.pw.avsBeats.getD 1 0) ∧ (w18s4.calItem ≠ some 1) ∧
  (720 ≤ w18s4.rd (F.sysAvsv 1)) ∧ (w18s4.rd (F.sysAvsv 1) ≤ 900) ∧
  (w18s5.powered = true) ∧ (w18s5.domOn (1 + 5) = true) ∧ (16 ≤ w18s5.pw.avsBeats.getD 1 0) ∧ (w18s5.calItem ≠ some 1) ∧
  (720 ≤ w18s5.rd (F.sysAvsv 1)) ∧ (w18s5.rd (F.sysAvsv 1) ≤ 900) ∧
  (w18s6.powered = true) ∧ (w18s6.domOn (1 + 5) = true) ∧ (14 < 15) ∧ (w18s6.rd (F.sysAvsv 1) < 900) ∧
  (w18s7.powered = true) ∧ (w18s7.domOn (1 + 5) = true) ∧ (64 ≤ w18s7.pw.avsLow.getD 1 0) := by
  and_intros <;> first | decide +kernel

def w19s1 : State := {up with tn.links := [(1, { frame := true })]}
def w19s2 : State := {withRec .auxLow 1 1 up with pw.auxLow := true}
theorem witness_CarrierSupplyLowAndBack :
  (up.powered = true) ∧ (up.pw.auxLow = false) ∧ (∀ (k : Nat), k < 5 → (up.link k).frame = false) ∧
  (bit (up.frec FC.auxLow).live 0 = false) ∧
  (w19s1.powered = true) ∧ (w19s1.pw.auxLow = false) ∧
  (w19s2.powered = true) ∧ (w19s2.pw.auxLow = true) := by
  and_intros <;> first | decide +kernel

def w20s1 : State := {up with pw.over80 := true, pw.resuming := true}
def w20s2 : State := {up with pw.pf := .noStore}
def w20s3 : State := {up with pw.pf := .storing, pw.ov := true}
def w20s4 : State := {up with pw.pf := .storing, st.store := some { why := .powerFail, bankB := true, jser := 0, img := {}, again := false}}
def w20s6 : State := {put [(F.sysRstlive, 1)] up with pw.pf := .noStore}
theorem witness_PowerFailSequence :
  (up.powered = true) ∧ (up.pw.pf = PfStage.none) ∧
  (Instr.powerFail 5 = Instr.powerFail 5 ∨ Instr.powerFail 5 = Instr.overvoltageTimeout 5 ∧ up.pw.over80 = true) ∧
  (w20s1.powered = true) ∧ (w20s1.pw.pf = PfStage.none) ∧
  (Instr.overvoltageTimeout 5 = Instr.powerFail 5 ∨ Instr.overvoltageTimeout 5 = Instr.overvoltageTimeout 5 ∧ w20s1.pw.over80 = true) ∧
  (w20s2.powered = true) ∧ (w20s2.pw.pf ≠ PfStage.none) ∧
  (w20s3.powered = true) ∧ (w20s3.pw.pf ≠ PfStage.none) ∧
  (w20s4.powered = true) ∧ (w20s4.pw.pf ≠ PfStage.none) ∧ (w20s4.pw.coldStore = false) ∧
  (w20s2.powered = true) ∧ (w20s2.pw.pf ≠ PfStage.none) ∧ (w20s2.pw.coldStore = false) ∧
  (w20s6.powered = true) ∧ (w20s6.pw.pf ≠ PfStage.none) ∧ (w20s6.pw.coldStore = false) ∧
  (w20s2.powered = true) ∧ (w20s2.pw.pf ≠ PfStage.none) ∧ (w20s2.pw.coldStore = false) := by
  and_intros <;> first | decide +kernel

def w21s1 : State := { put [(F.dMode, 0)] up with phase := .boot}
def w21s2 : State := {up with pw.auxLow := true}
theorem witness_ModeRequestsWaitForTheStrobe :
  (Instr.modeReqRun = Instr.modeReqProvision ∧ 2 = 1 ∨ Instr.modeReqRun = Instr.modeReqRun ∧
  2 = 2 ∨ Instr.modeReqRun = Instr.modeReqHold ∧ 2 = 3 ∨ Instr.modeReqRun = Instr.modeReqDormant ∧
  2 = 5 ∨ Instr.modeReqRun = Instr.modeReqReplay ∧ 2 = 6 ∨ Instr.modeReqRun = Instr.modeReqSafe ∧
  2 = 7 ∨ Instr.modeReqRun = Instr.modeReqInvalid false ∧ 2 = 0 ∨ Instr.modeReqRun = Instr.modeReqInvalid true ∧ 2 = 4) ∧
  (up.powered = true) ∧ (up.domOn 13 = true) ∧ (up.live = true) ∧ (up.pw.auxLow = false) ∧
  (Instr.modeReqInvalid true = Instr.modeReqProvision ∧ 4 = 1 ∨ Instr.modeReqInvalid true = Instr.modeReqRun ∧
  4 = 2 ∨ Instr.modeReqInvalid true = Instr.modeReqHold ∧ 4 = 3 ∨ Instr.modeReqInvalid true = Instr.modeReqDormant ∧
  4 = 5 ∨ Instr.modeReqInvalid true = Instr.modeReqReplay ∧ 4 = 6 ∨ Instr.modeReqInvalid true = Instr.modeReqSafe ∧
  4 = 7 ∨ Instr.modeReqInvalid true = Instr.modeReqInvalid false ∧ 4 = 0 ∨ Instr.modeReqInvalid true = Instr.modeReqInvalid true ∧
  4 = 4) ∧ (w21s1.powered = true) ∧ (w21s1.domOn 13 = true) ∧ (w21s1.live = false) ∧
  (Instr.modeReqSafe = Instr.modeReqProvision ∧ 7 = 1 ∨ Instr.modeReqSafe = Instr.modeReqRun ∧
  7 = 2 ∨ Instr.modeReqSafe = Instr.modeReqHold ∧ 7 = 3 ∨ Instr.modeReqSafe = Instr.modeReqDormant ∧
  7 = 5 ∨ Instr.modeReqSafe = Instr.modeReqReplay ∧ 7 = 6 ∨ Instr.modeReqSafe = Instr.modeReqSafe ∧
  7 = 7 ∨ Instr.modeReqSafe = Instr.modeReqInvalid false ∧ 7 = 0 ∨ Instr.modeReqSafe = Instr.modeReqInvalid true ∧ 7 = 4) ∧
  (w21s2.powered = true) ∧ (w21s2.domOn 13 = true) ∧ (w21s2.live = true) ∧ (w21s2.pw.auxLow = true) := by
  and_intros <;> first | decide +kernel

def w22s1 : State := {upIn .track with flt.l3 := some (2,3), md.req := some 5}
def w22s2 : State := {up with flt.l3 := some (2,3)}
def w22s3 : State := {upIn .safe with flt.l3 := some (2,3), md.req := some 6}
def w22s4 : State := {upIn .safe with flt.l3 := some (2,3)}
def w22s5 : State := put [(F.sysSafeAutoexit, 1), (F.sysCause, 10)] (upIn .safe)
def w22s6 : State := {upIn .dormant with md.exit := some .run}
def w22s7 : State := {upIn .holdover with md.requalified := true}
def w22s8 : State := {up with md.req := some 2}
def w22s9 : State := {up with md.req := some 5}
def w22s10 : State := {upIn .replay with md.req := some 7}
def w22s12 : State := {put [(F.refState 0, 3)] (upIn .track) with md.req := some 6}
def w22s13 : State := {upIn .replay with md.req := some 2}
def w22s14 : State := {upIn .safe with md.req := some 3}
def w22s15 : State := {put [(F.refState 0, 3)] (upIn .track) with md.req := some 5}
def w22s16 : State := {up with md.bootEnded := true, regs := up.regs.del F.dMode.key}
theorem witness_ModeEvaluationFollowsTheTable :
  (w22s1.phase = Phase.run) ∧ (w22s1.tm.running = true) ∧ (w22s1.mode ≠ Mode.boot) ∧ (w22s1.mode ≠ Mode.safe) ∧ (w22s1.flt.l3 ≠ none) ∧
  (w22s2.phase = Phase.run) ∧ (w22s2.tm.running = true) ∧ (w22s2.mode ≠ Mode.boot) ∧ (w22s2.mode ≠ Mode.safe) ∧ (w22s2.flt.l3 ≠ none) ∧
  (w22s3.phase = Phase.run) ∧ (w22s3.tm.running = true) ∧ (w22s3.mode = Mode.safe) ∧ (w22s3.flt.l3 ≠ none) ∧
  (w22s4.phase = Phase.run) ∧ (w22s4.tm.running = true) ∧ (w22s4.mode = Mode.safe) ∧ (w22s4.flt.l3 ≠ none) ∧
  ((upIn Mode.track).phase = Phase.run) ∧ ((upIn Mode.track).tm.running = true) ∧ ((upIn Mode.track).mode ≠ Mode.boot) ∧
  ((upIn Mode.track).flt.l3 = none) ∧ ((upIn Mode.track).md.req = none) ∧
  (w22s5.phase = Phase.run) ∧ (w22s5.tm.running = true) ∧ (w22s5.mode ≠ Mode.boot) ∧ (w22s5.flt.l3 = none) ∧ (w22s5.md.req = none) ∧
  (w22s6.phase = Phase.run) ∧ (w22s6.tm.running = true) ∧ (w22s6.mode ≠ Mode.boot) ∧ (w22s6.flt.l3 = none) ∧ (w22s6.md.req = none) ∧
  (w22s7.phase = Phase.run) ∧ (w22s7.tm.running = true) ∧ (w22s7.mode ≠ Mode.boot) ∧ (w22s7.flt.l3 = none) ∧ (w22s7.md.req = none) ∧
  (w22s8.phase = Phase.run) ∧ (w22s8.tm.running = true) ∧ (w22s8.mode ≠ Mode.boot) ∧ (w22s8.flt.l3 = none) ∧ (w22s8.md.req = some 2) ∧
  ((autoMove w22s8).mode = w22s8.mode) ∧
  (w22s9.phase = Phase.run) ∧ (w22s9.tm.running = true) ∧ (w22s9.mode ≠ Mode.boot) ∧ (w22s9.flt.l3 = none) ∧ (w22s9.md.req = some 5) ∧
  ((autoMove w22s9).mode = w22s9.mode) ∧
  (w22s10.phase = Phase.run) ∧ (w22s10.tm.running = true) ∧ (w22s10.mode ≠ Mode.boot) ∧ (w22s10.flt.l3 = none) ∧
  (w22s10.md.req = some 7) ∧ ((autoMove w22s10).mode = w22s10.mode) ∧
  (w22s9.phase = Phase.run) ∧ (w22s9.tm.running = true) ∧ (w22s9.flt.l3 = none) ∧ (w22s9.md.req = some 5) ∧
  (w22s9.mode = Mode.provision ∧ 5 = 5 ∨ w22s9.mode = Mode.track ∧ allLost w22s9 = false ∧ 5 = 6 ∨ w22s9.mode = Mode.replay ∧
  (5 = 2 ∨ 5 = 3 ∨ 5 = 5) ∨ w22s9.mode = Mode.safe ∧ safeExits w22s9 = false ∧ (5 = 2 ∨ 5 = 3 ∨ 5 = 5)) ∧
  (w22s12.phase = Phase.run) ∧ (w22s12.tm.running = true) ∧ (w22s12.flt.l3 = none) ∧ (w22s12.md.req = some 6) ∧
  (w22s12.mode = Mode.provision ∧ 6 = 5 ∨ w22s12.mode = Mode.track ∧ allLost w22s12 = false ∧ 6 = 6 ∨ w22s12.mode = Mode.replay ∧
  (6 = 2 ∨ 6 = 3 ∨ 6 = 5) ∨ w22s12.mode = Mode.safe ∧ safeExits w22s12 = false ∧ (6 = 2 ∨ 6 = 3 ∨ 6 = 5)) ∧
  (w22s13.phase = Phase.run) ∧ (w22s13.tm.running = true) ∧ (w22s13.flt.l3 = none) ∧ (w22s13.md.req = some 2) ∧
  (w22s13.mode = Mode.provision ∧ 2 = 5 ∨ w22s13.mode = Mode.track ∧ allLost w22s13 = false ∧ 2 = 6 ∨ w22s13.mode = Mode.replay ∧
  (2 = 2 ∨ 2 = 3 ∨ 2 = 5) ∨ w22s13.mode = Mode.safe ∧ safeExits w22s13 = false ∧ (2 = 2 ∨ 2 = 3 ∨ 2 = 5)) ∧
  (w22s14.phase = Phase.run) ∧ (w22s14.tm.running = true) ∧ (w22s14.flt.l3 = none) ∧ (w22s14.md.req = some 3) ∧
  (w22s14.mode = Mode.provision ∧ 3 = 5 ∨ w22s14.mode = Mode.track ∧ allLost w22s14 = false ∧ 3 = 6 ∨ w22s14.mode = Mode.replay ∧
  (3 = 2 ∨ 3 = 3 ∨ 3 = 5) ∨ w22s14.mode = Mode.safe ∧ safeExits w22s14 = false ∧ (3 = 2 ∨ 3 = 3 ∨ 3 = 5)) ∧
  (w22s15.phase = Phase.run) ∧ (w22s15.tm.running = true) ∧ (w22s15.flt.l3 = none) ∧ (w22s15.md.req = some 5) ∧
  (w22s15.mode = Mode.track) ∧ (allLost w22s15 = false) ∧
  (w22s16.phase = Phase.run) ∧ (w22s16.tm.running = true) ∧ (w22s16.mode = Mode.boot) ∧ (w22s16.md.bootEnded = true) := by
  and_intros <;> first | decide +kernel

def w23s1 : State := {upIn .holdover with md.rise := 1024}
def w23s2 : State := {upIn .ensemble with md.fall := 1024}
theorem witness_PeersRiseAndFall :
  (w23s1.live = true) ∧ (w23s1.mode = Mode.holdover) ∧ (w23s1.rd F.sysHoldreq = 0) ∧ (w23s1.flt.l3 = none) ∧ (1024 ≤ w23s1.md.rise) ∧
  (w23s2.live = true) ∧ (w23s2.mode = Mode.ensemble) ∧ (w23s2.flt.l3 = none) ∧ (1024 ≤ w23s2.md.fall) := by
  and_intros <;> first | decide +kernel

def w24s1 : State := {put [(F.servoBwfrz, 1)] up with st.txns := [(0, [(5, 6)])]}
def w24s2 : State := put [(F.sysRstlive, 1)] up
def w24s6 : State := {up with pw.coldStore := true}
def w24s7 : State := {up with pw.coldStore := true, pw.pf := .noStore}
def w24s9 : State := put [(F.sysRstlive, 1), (F.sysRstdeaf, 1)] (withRec .resetStuck 1 1 up)
theorem witness_ResetsAndStuckPin :
  (resetActs w24s1 = true) ∧ (w24s1.rd F.sysRstlive = 0) ∧ (w24s1.mode ≠ Mode.replay) ∧
  (resetActs w24s2 = true) ∧ (w24s2.rd F.sysRstlive ≠ 0) ∧
  (resetActs w24s2 = true) ∧ (w24s2.rd F.sysRstlive ≠ 0) ∧
  (resetActs w24s2 = true) ∧ (w24s2.rd F.sysRstlive ≠ 0) ∧
  (w20s6.powered = true) ∧ (resetActs w20s6 = false) ∧ (w20s6.rd F.sysRstlive ≠ 0) ∧
  (w24s6.powered = true) ∧ (w24s6.pw.coldStore = true) ∧ (powerStored w24s6 = true) ∧
  (w24s7.powered = true) ∧ (w24s7.pw.coldStore = true) ∧ (powerStored w24s7 = true) ∧
  (resetActs w24s2 = true) ∧ (w24s2.rd F.sysRstlive ≠ 0) ∧
  (w24s9.live = true) ∧ (w24s9.rd F.sysRstdeaf ≠ 0) := by
  and_intros <;> first | decide +kernel

def w25s1 : State := {up with bus.win := [(0, {space := 15, addr := 0xFFFFFF, ainc := true})]}
def w25s2 : State := {up with bus.win := [(0, {space := 15, addr := 0xFFFFFF, ainc := false})]}
theorem witness_WindowAutoIncrement :
  (Instr.wdataRead 3 [] 5 = Instr.wdataRead 3 [] 5 ∨ Instr.wdataRead 3 [] 5 = Instr.wdataWrite 0 3 5) ∧ (busUp w25s1) ∧
  (Instr.wdataWrite 127 3 5 = Instr.wdataRead 3 [] 5 ∨ Instr.wdataWrite 127 3 5 = Instr.wdataWrite 127 3 5) ∧ (busUp w25s2) ∧
  (Instr.busTimeout true 7 5 = Instr.hostAccessAbandon 7 ∨ Instr.busTimeout true 7 5 = Instr.busTimeout true 7 5) ∧
  (w25s1.powered = true) ∧ (w25s1.domOn 13 = true) ∧
  (Instr.hostAccessAbandon 7 = Instr.hostAccessAbandon 7 ∨ Instr.hostAccessAbandon 7 = Instr.busTimeout true 7 5) ∧
  (w25s1.powered = true) ∧ (w25s1.domOn 13 = true) := by
  and_intros <;> first | decide +kernel

def w26s1 : State := {up with bus.win := [(0, {space := 15, addr := 0, ainc := true})]}
def w26s2 : State := put [(F.fabOvrs 0, 3)] up
def w26s3 : State := {up with bus.win := [(0, {space := 15, addr := 2, ainc := false, snap := some ⟨15, 0, 3, 0x123456789ABC⟩})]}
def w26s4 : State := {up with bus.win := [(0, {space := 15, addr := 2, ainc := false})]}
def w26s5 : State := {up with bus.win := [(0, {space := 2, addr := 2})]}
abbrev litSnapshotsAndReadClears1 : Snap := { sp := 15, base := 0, words := 3, value := 20015998343868 : Snap }
theorem witness_SnapshotsAndReadClears :
  (busLive w26s1) ∧ (Instr.wdataRead 3 [] 5 = Instr.wdataRead 3 [] 5 ∧ (w26s1.winOf 0).space = 15 ∧
  (w26s1.winOf 0).addr = 0 ∨ Instr.wdataRead 3 [] 5 = Instr.rcFieldRead (15#5) (0#24) 5 ∧ 15 < 16 ∧ 0 < 2 ^ 24) ∧
  (unavail w26s1 0 15 0 = none) ∧ (grpAt 15 0 = some (grp 15 0)) ∧ ((grp 15 0).base = 0) ∧ (15 ≠ 0) ∧ (¬(15 = 4 ∧ 1024 ≤ 0 ∧ 0 < 1280)) ∧
  (busLive w26s2) ∧ (Instr.rcFieldRead 15 24 5 = Instr.wdataRead 3 [] 5 ∧ (w26s2.winOf 0).space = 15 ∧
  (w26s2.winOf 0).addr = 24 ∨ Instr.rcFieldRead 15 24 5 = Instr.rcFieldRead (15#5) (24#24) 5 ∧ 15 < 16 ∧ 24 < 2 ^ 24) ∧
  (unavail w26s2 0 15 24 = none) ∧ (grpAt 15 24 = some (grp 15 24)) ∧ ((grp 15 24).base = 24) ∧ (15 ≠ 0) ∧ (¬(15 = 4 ∧ 1024 ≤ 24 ∧
  24 < 1280)) ∧
  (busLive w26s3) ∧ (unavail w26s3 0 (w26s3.winOf 0).space 2 = none) ∧ ((w26s3.winOf 0).addr = 2) ∧
  (grpAt (w26s3.winOf 0).space 2 = some (grp 15 0)) ∧ ((grp 15 0).base < 2) ∧
  ((w26s3.winOf 0).snap = some litSnapshotsAndReadClears1) ∧
  (litSnapshotsAndReadClears1.sp = (w26s3.winOf 0).space) ∧
  (litSnapshotsAndReadClears1.base = (grp 15 0).base) ∧
  (busLive w26s4) ∧ (unavail w26s4 0 (w26s4.winOf 0).space 2 = none) ∧ ((w26s4.winOf 0).addr = 2) ∧
  (grpAt (w26s4.winOf 0).space 2 = some (grp 15 0)) ∧ ((grp 15 0).base < 2) ∧ ((w26s4.winOf 0).snap = none) ∧
  (busUp w26s5) ∧ ({ double := false, addr := 192, port := 0, slot := 0 : EccIn }.double = false) ∧ ((w26s5.winOf 0).space ≠ 12) ∧
  ((w26s5.winOf 0).space ≠ 15) := by
  and_intros <;> first | decide +kernel

def w27s1 : State := {up with bus.win := [(0, {space := 15, addr := 0x9999})]}
def w27s2 : State := put [(F.dPowstat, 0x3FFF - 128)] {up with bus.win := [(0, {space := 5, addr := 0x108})]}
def w27s3 : State := {up with phase := .boot, bus.win := [(0, {space := 15, addr := 0x9999})]}
theorem witness_UnavailableWindowAccesses :
  (busUp w27s1) ∧ (w27s1.live = false ∧ F.dWsUnmap = F.dWsNotready ∨ w27s1.live = true ∧
  unavail w27s1 0 (w27s1.winOf 0).space (w27s1.winOf 0).addr = some F.dWsUnmap) ∧
  (busUp w27s2) ∧ (w27s2.live = false ∧ F.dWsOffdom = F.dWsNotready ∨ w27s2.live = true ∧
  unavail w27s2 0 (w27s2.winOf 0).space (w27s2.winOf 0).addr = some F.dWsOffdom) ∧
  (busUp w27s3) ∧ (w27s3.live = false ∧ F.dWsNotready = F.dWsNotready ∨ w27s3.live = true ∧
  unavail w27s3 0 (w27s3.winOf 0).space (w27s3.winOf 0).addr = some F.dWsNotready) ∧
  (busUp w27s1) ∧ (w27s1.live = false ∧ F.dWsUnmap = F.dWsNotready ∨ w27s1.live = true ∧
  unavail w27s1 0 (w27s1.winOf 0).space (w27s1.winOf 0).addr = some F.dWsUnmap) ∧
  (busUp w27s3) ∧ (w27s3.live = false ∧ F.dWsNotready = F.dWsNotready ∨ w27s3.live = true ∧
  unavail w27s3 0 (w27s3.winOf 0).space (w27s3.winOf 0).addr = some F.dWsNotready) := by
  and_intros <;> first | decide +kernel

def w28s1 : State := {up with bus.cmd := some ⟨1,0,true⟩}
theorem witness_DirectRegisterWrites :
  (48 ≤ 48) ∧
  (busLive up) ∧
  (busLive w28s1) ∧
  (busLive w20s2) := by
  and_intros <;> first | decide +kernel

theorem witness_HostBusAccessesGoneWrong :
  (up.powered = true) ∧ (up.domOn 13 = true) ∧
  (w21s2.powered = true) ∧ (w21s2.domOn 13 = true) ∧ (w21s2.pw.auxLow = true) ∧
  (busUp up) := by
  and_intros <;> first | decide +kernel

def w30s1 : State := {up with bus.dstage := [(F.dPowreq, 4), (F.dManual, 1)], bus.staging := [⟨0, [(F.servoSlewlim, 7)]⟩, ⟨1, []⟩]}
def w30s2 : State := {up with bus.staging := [⟨0, [(F.servoSlewlim, 1501)]⟩]}
def w30s3 : State := {up with tm.latch := some 5}
theorem witness_StagedWritesAndTimeLatch :
  (w30s1.live = true) ∧ (w30s1.tm.running = true) ∧ (w30s1.en.restart = none) ∧
  (w30s2.live = true) ∧ (w30s2.tm.running = true) ∧ (w30s2.en.restart = none) ∧ (w30s2.bus.dstage = []) ∧
  (w30s2.bus.staging = [{ agent := 0, flds := [(F.servoSlewlim, 1501)] : Staged }]) ∧
  (up.live = true) ∧
  (w30s3.live = true) := by
  and_intros <;> first | decide +kernel

def w31s1 : State := put [(F.refEnable 3, 1)] up
def w31s2 : State := put [(F.refEnable 4, 1)] up
def w31s3 : State := put [(F.refEnable 4, 0), (F.refState 4, 5)] (withRec .refFailed 2 16 up)
def w31s4 : State := {put [(F.refState 4, 2), (F.refQualtime 4, 1), (F.portLink 0, 1), (F.sysUntraced, 1)] up with rf.recs := [(4, {clean := 1024, samples := [77]})]}
def w31s5 : State := {put [(F.refState 0, 2), (F.refQualtime 0, 1)] up with rf.recs := [(0, {clean := 1024, samples := [77]})]}
def w31s6 : State := {put [(F.refState 9, 2), (F.refSusptime 9, 10)] up with rf.recs := [(9, {violRun := 10})]}
def w31s7 : State := {put [(F.refState 0, 4), (F.refSusptime 0, 10)] up with rf.recs := [(0, {susp := 10})]}
def w31s8 : State := put [(F.refState 4, 3)] up
def w31s9 : State := {put [(F.refState 4, 4), (F.refSuspclr 4, 12)] up with rf.recs := [(4, {clean := 12})]}
def w31s10 : State := {put [(F.refState 0, 5), (F.refFailhold 0, 1)] (withRec .refFailed 2 1 up) with rf.recs := [(0, {clean := 1024})]}
def w31s11 : State := put [(F.refState 0, 1), (F.refRisecnt 0, 16), (F.refFallcnt 0, 16)] up
def w31s12 : State := {put [(F.refState 0, 3), (F.refSettled 0, 1)] up with rf.recs := [(0, {ind := true})]}
theorem witness_ReferencesFollowTheTable :
  (refJudged w31s1 3 = true) ∧ (w31s1.refState 3 = 0) ∧
  (refJudged w31s2 4 = true) ∧ (w31s2.refState 4 = 0) ∧
  (refsRun w31s3 = true) ∧ (w31s3.refState 4 ≠ 0) ∧ (w31s3.is (F.refEnable 4) = false) ∧
  (refJudged w31s4 4 = true) ∧ (w31s4.refState 4 = 2) ∧ (w31s4.rd (F.refQualtime 4) * 1024 ≤ (w31s4.ref 4).clean) ∧
  (refAbsent w31s4 4 = false) ∧ (4 < 4 → paired w31s4 4 = true → w31s4.is F.dGnsstod = true) ∧
  (w31s4.untraced = true → timeRef w31s4 4 = true → hasOffset w31s4 4 = true) ∧
  (refJudged w31s5 0 = true) ∧ (w31s5.refState 0 = 2) ∧ (w31s5.rd (F.refQualtime 0) * 1024 ≤ (w31s5.ref 0).clean) ∧
  (refAbsent w31s5 0 = false) ∧ (0 < 4 → paired w31s5 0 = true → w31s5.is F.dGnsstod = true) ∧
  (w31s5.untraced = true → timeRef w31s5 0 = true → hasOffset w31s5 0 = true) ∧
  (refJudged w31s6 9 = true) ∧ (bit (w31s6.frec FC.refFailed).live 9 = false) ∧ (w31s6.refState 9 = 2 ∧
  w31s6.rd (F.refSusptime 9) ≤ (w31s6.ref 9).violRun ∨ w31s6.refState 9 = 4 ∧ w31s6.rd (F.refSusptime 9) ≤ (w31s6.ref 9).susp) ∧
  (refJudged w31s7 0 = true) ∧ (bit (w31s7.frec FC.refFailed).live 0 = false) ∧ (w31s7.refState 0 = 2 ∧
  w31s7.rd (F.refSusptime 0) ≤ (w31s7.ref 0).violRun ∨ w31s7.refState 0 = 4 ∧ w31s7.rd (F.refSusptime 0) ≤ (w31s7.ref 0).susp) ∧
  (refJudged w31s8 4 = true) ∧ (bit (w31s8.frec FC.refFailed).live 4 = false) ∧ (w31s8.refState 4 ≠ 0) ∧ (w31s8.refState 4 ≠ 5) ∧
  (refAbsent w31s8 4 = true) ∧ (refFrozen w31s8 4 = false) ∧
  (refJudged w31s9 4 = true) ∧ (w31s9.refState 4 = 4) ∧ ((w31s9.ref 4).jump = false) ∧
  (w31s9.rd (F.refSuspclr 4) ≤ (w31s9.ref 4).clean) ∧ ((w31s9.ref 4).susp < w31s9.rd (F.refSusptime 4)) ∧
  (refJudged w31s10 0 = true) ∧ (w31s10.refState 0 = 5) ∧ (w31s10.rd (F.refFailhold 0) * 1024 ≤ (w31s10.ref 0).clean) ∧
  (refAbsent w31s10 0 = false) ∧
  (refJudged w31s11 0 = true) ∧ (w31s11.refState 0 = 1) ∧ (16 ≤ w31s11.rd (F.refRisecnt 0)) ∧ (16 ≤ w31s11.rd (F.refFallcnt 0)) ∧
  (w31s12.powered = true) ∧ (w31s12.live = true → refsRun w31s12 = true) ∧ ((w31s12.ref 0).ind = true) ∧ (w31s12.refState 0 ≠ 0) := by
  and_intros <;> first | decide +kernel

def w32s1 : State := {put [(F.refThrfrz 3, 0)] up with rf.recs := [(3, {seenHi := true, seenLo := true, mids := List.replicate 33 800})]}
def w32s2 : State := {put [(F.refLevel 3, 2), (F.refGlitch 3, 2)] up with rf.recs := [(3, {bandBeats := 9})]}
def w32s3 : State := put [(F.refGlitch 3, 2), (F.refMidband 3, 1)] (withRec .rinMidband 1 8 up)
def w32s4 : State := {put [(F.refGlitch 3, 2), (F.refState 3, 1), (F.refSettled 3, 1), (F.refRisecnt 3, 31), (F.refMidband 3, 1)] (withRec .rinMidband 1 8 up) with rf.recs := [(3, {side := some false})]}
def w32s5 : State := {put [(F.refState 3, 1), (F.refSettled 3, 1), (F.refFallcnt 3, 15)] up with rf.recs := [(3, {side := some true})]}
def w32s6 : State := {put [(F.refState 3, 1), (F.refSettled 3, 1), (F.refFallcnt 3, 15)] up with rf.recs := [(3, {side := some false, dwelt := true})]}
def w32s7 : State := {put [(F.refLevel 3, 2)] up with rf.recs := [(3, {bandBeats := 2049})]}
def w32s8 : State := {put [(F.dRevert, 1), (F.dManual, 0), (F.dSelref, 0), (F.refState 0, 3), (F.refPrio 0, 5), (F.refState 3, 3), (F.refPrio 3, 4), (F.refWtr 3, 2)] (upIn .track) with rf.recs := [(3, {qualBeats := 2048})]}
theorem witness_InputFrontEndAndRevertiveSwitch :
  (w32s1.powered = true) ∧ (w32s1.domOn 11 = true) ∧ (w32s1.is (F.refThrfrz 3) = false) ∧ ((w32s1.ref 3).seenHi = true) ∧
  ((w32s1.ref 3).seenLo = true) ∧ (threshStill (w32s1.ref 3) = true) ∧
  (up.powered = true) ∧ (up.domOn 11 = true) ∧
  (w32s2.powered = true) ∧ (w32s2.domOn 11 = true) ∧
  (w32s3.powered = true) ∧ (w32s3.domOn 11 = true) ∧ (1 ≠ 2) ∧ (passesGlitch w32s3 3 1 = false) ∧
  (w32s4.powered = true) ∧ (w32s4.domOn 11 = true) ∧ (1 ≠ 2) ∧ (passesGlitch w32s4 3 2 = true) ∧ (w32s4.refState 3 = 1) ∧
  (w32s4.is (F.refSettled 3) = true) ∧ (bit w32s4.rf.calStale 3 = false) ∧ ((w32s4.ref 3).side = some (1 != 1)) ∧
  (w32s5.powered = true) ∧ (w32s5.domOn 11 = true) ∧ (0 ≠ 2) ∧ (passesGlitch w32s5 3 500 = true) ∧ (w32s5.refState 3 = 1) ∧
  (w32s5.is (F.refSettled 3) = true) ∧ (bit w32s5.rf.calStale 3 = false) ∧ ((w32s5.ref 3).side = some (0 != 1)) ∧
  (w32s6.powered = true) ∧ (w32s6.domOn 11 = true) ∧ (0 ≠ 2) ∧ (passesGlitch w32s6 3 500 = true) ∧ (w32s6.refState 3 = 1) ∧
  (w32s6.is (F.refSettled 3) = true) ∧ (bit w32s6.rf.calStale 3 = false) ∧ ((w32s6.ref 3).side = some (0 == 1)) ∧
  ((w32s6.ref 3).dwelt = true) ∧
  (w32s7.powered = true) ∧ (w32s7.domOn 11 = true) ∧ (w32s7.rd (F.refLevel 3) = 2) ∧ (2048 < (w32s7.ref 3).bandBeats) ∧
  (bit (w32s7.frec FC.rinMidband).live 3 = false) ∧
  (refsRun w32s8 = true) ∧ (w32s8.is F.dRevert = true) ∧ (w32s8.is F.dManual = false) ∧ (selHeld w32s8 = true) ∧
  (w32s8.refQual 3 = true) ∧ (prio w32s8 3 ≠ 0) ∧ (ranksAbove w32s8 3 (w32s8.rd F.dSelref) = true) ∧
  (w32s8.rd (F.refWtr 3) * 1024 ≤ (w32s8.ref 3).qualBeats) := by
  and_intros <;> first | decide +kernel

def w33s1 : State := put [(F.refGnssen, 1), (F.refGnssrin, 2), (F.refNomfreq 2, 16)] up
def w33s4 : State := {put [(F.refGnssen, 1), (F.refGnssrin, 2), (F.refNomfreq 2, 16)] up with rf.gn := {rin := some 2, edge := some (100 * unitsPerSec - 655359999999)}}
def w33s5 : State := {put [(F.refGnssen, 1), (F.refGnssrin, 2), (F.refNomfreq 2, 16)] up with rf.gn := {rin := some 2, edge := some (100 * unitsPerSec - 655360000000), last := some (946684836, 99 * unitsPerSec - 655360000000)}}
def w33s6 : State := {put [(F.refGnssen, 1), (F.refGnssrin, 2), (F.refNomfreq 2, 16)] up with rf.gn := {rin := some 2, edge := some (100 * unitsPerSec - 64880640000000), last := some (946684835, 99 * unitsPerSec - 64880640000000)}}
def w33s7 : State := {put [(F.refGnssen, 1), (F.refGnssrin, 2), (F.refNomfreq 2, 16)] up with rf.gn := {rin := some 2, edge := some (100 * unitsPerSec - 64880640000000)}}
def w33s8 : State := {put [(F.dGnsstod, 1)] up with rf.gn := {since := 3072}}
def w33s9 : State := {put [(F.refGnssen, 1), (F.refGnsstxlen, 3), (F.refGnsstx 0, 0x4142), (F.refGnsstx 1, 0x4344)] up with rf.gn := {txGo := true}}
theorem witness_GnssTimeOfDay :
  (refsRun w33s1 = true) ∧ (w33s1.domOn 11 = true) ∧ (w33s1.is F.refGnssen = true) ∧ (nmeaJudge (List.replicate 20 65) = Nmea.other) ∧
  (refsRun w33s1 = true) ∧ (w33s1.domOn 11 = true) ∧ (w33s1.is F.refGnssen = true) ∧ (nmeaJudge (List.take 20 zda) = Nmea.bad) ∧
  (refsRun w33s1 = true) ∧ (w33s1.domOn 11 = true) ∧ (w33s1.is F.refGnssen = true) ∧ (nmeaJudge zda = Nmea.utc 946684800) ∧
  (w33s1.rd F.timeLeappend = 0) ∧
  (refsRun w33s4 = true) ∧ (w33s4.domOn 11 = true) ∧ (w33s4.is F.refGnssen = true) ∧ (paired w33s4 (w33s4.rd F.refGnssrin) = true) ∧
  (w33s4.rf.gn.rin = some (w33s4.rd F.refGnssrin)) ∧ (nmeaLabel w33s4 (nmeaJudge zda) = some 946684837) ∧
  (w33s4.rf.gn.edge = some (100 * unitsPerSec - 655359999999)) ∧ (¬(100 * unitsPerSec - 655359999999 + 655360000000 ≤ w33s4.at 0 ∧
  w33s4.at 0 ≤ 100 * unitsPerSec - 655359999999 + 64880640000000)) ∧
  (refsRun w33s5 = true) ∧ (w33s5.domOn 11 = true) ∧ (w33s5.is F.refGnssen = true) ∧ (paired w33s5 (w33s5.rd F.refGnssrin) = true) ∧
  (w33s5.rf.gn.rin = some (w33s5.rd F.refGnssrin)) ∧ (nmeaLabel w33s5 (nmeaJudge zda) = some 946684837) ∧
  (w33s5.rf.gn.edge = some (100 * unitsPerSec - 655360000000)) ∧ (w33s5.rf.gn.named = none) ∧
  (100 * unitsPerSec - 655360000000 + 655360000000 ≤ w33s5.at 0) ∧ (w33s5.at 0 ≤ 100 * unitsPerSec - 655360000000 + 64880640000000) ∧
  (refsRun w33s6 = true) ∧ (w33s6.domOn 11 = true) ∧ (w33s6.is F.refGnssen = true) ∧ (paired w33s6 (w33s6.rd F.refGnssrin) = true) ∧
  (w33s6.rf.gn.rin = some (w33s6.rd F.refGnssrin)) ∧ (nmeaLabel w33s6 (nmeaJudge zda) = some 946684837) ∧
  (w33s6.rf.gn.edge = some (100 * unitsPerSec - 64880640000000)) ∧ (w33s6.rf.gn.named = none) ∧
  (100 * unitsPerSec - 64880640000000 + 655360000000 ≤ w33s6.at 0) ∧ (w33s6.at 0 ≤ 100 * unitsPerSec - 64880640000000 + 64880640000000) ∧
  (refsRun w33s7 = true) ∧ (w33s7.domOn 11 = true) ∧ (w33s7.is F.refGnssen = true) ∧ (paired w33s7 (w33s7.rd F.refGnssrin) = true) ∧
  (w33s7.rf.gn.rin = some (w33s7.rd F.refGnssrin)) ∧ (nmeaLabel w33s7 (nmeaJudge zda) = some 946684837) ∧
  (w33s7.rf.gn.edge = some (100 * unitsPerSec - 64880640000000)) ∧ (w33s7.rf.gn.named = none) ∧
  (100 * unitsPerSec - 64880640000000 + 655360000000 ≤ w33s7.at 0) ∧ (w33s7.at 0 ≤ 100 * unitsPerSec - 64880640000000 + 64880640000000) ∧
  (refsRun w33s8 = true) ∧ (w33s8.is F.dGnsstod = true) ∧ (3072 ≤ w33s8.rf.gn.since) ∧
  (up.powered = true) ∧ (up.domOn 11 = true) ∧
  (gnssTxOn w33s9 = true) ∧ (w33s9.rf.gn.txGo = true) := by
  and_intros <;> first | decide +kernel

def w34s1 : State := {put [(F.dSelref, 0), (F.refState 8, 3)] (upIn .track) with rf.choice := 8, rf.shown := 8, sv.common := [(8, List.replicate 16 3276800)]}
def w34s2 : State := {put [(F.dSelref, 0), (F.refState 8, 3)] (upIn .track) with rf.choice := 8, rf.shown := 8}
def w34s3 : State := {put [(F.dSelref, 0), (F.refState 4, 3), (F.sysUntraced, 1)] (upIn .track) with rf.choice := 4, rf.shown := 4}
def w34s4 : State := {put [(F.dSelref, 0), (F.refState 4, 3), (F.sysUntraced, 0)] (upIn .track) with rf.choice := 4, sv.lifted := 16}
def w34s5 : State := {put [(F.dSelref, 0), (F.refState 4, 3), (F.sysUntraced, 0), (F.servoGwin, 100), (F.dThresh, 1000)] (upIn .track) with rf.choice := 4, rf.shown := 4, rf.recs := [(4, {samples := [6553600]})]}
def w34s6 : State := {put [(F.dSelref, 0), (F.refState 4, 3), (F.sysUntraced, 0), (F.servoGwin, 100), (F.dThresh, 1000)] (upIn .track) with rf.choice := 4, rf.shown := 4, rf.recs := [(4, {samples := [6553601]})]}
def w34s7 : State := {put [(F.dSelref, 0), (F.refState 4, 3), (F.sysUntraced, 0), (F.servoGwin, 100), (F.dThresh, 1000)] (upIn .track) with rf.choice := 4, rf.shown := 4, rf.recs := [(4, {samples := [65536001]})], bus.cmd := some ⟨0x30, 4, true⟩}
def w34s8 : State := put [(F.dGraftref, 4), (F.dGrafting, 1)] {upIn .track with sv.graft := some (.build true)}
theorem witness_GraftsBuildOutOrSlew :
  (servoRuns w34s1 = true) ∧ (graftMode w34s1 = true) ∧ (graftTarget w34s1 = 8) ∧ (w34s1.sv.exRun.getD 8 0 < 4) ∧
  (w34s1.rd F.dSelref ≠ 8) ∧ (w34s1.refQual 8 = true) ∧ (w34s1.is F.dGrafting = false) ∧ (timeRef w34s1 8 = false) ∧
  (servoRuns w34s2 = true) ∧ (graftMode w34s2 = true) ∧ (graftTarget w34s2 = 8) ∧ (w34s2.sv.exRun.getD 8 0 < 4) ∧
  (w34s2.rd F.dSelref ≠ 8) ∧ (w34s2.refQual 8 = true) ∧ (w34s2.is F.dGrafting = false) ∧ (timeRef w34s2 8 = false) ∧
  (servoRuns w34s3 = true) ∧ (graftMode w34s3 = true) ∧ (graftTarget w34s3 = 4) ∧ (w34s3.sv.exRun.getD 4 0 < 4) ∧
  (w34s3.rd F.dSelref ≠ 4) ∧ (w34s3.refQual 4 = true) ∧ (w34s3.is F.dGrafting = false) ∧ (timeRef w34s3 4 = true) ∧
  (w34s3.untraced = true ∨ bit w34s3.sv.lifted 4 = true) ∧
  (servoRuns w34s4 = true) ∧ (graftMode w34s4 = true) ∧ (graftTarget w34s4 = 4) ∧ (w34s4.sv.exRun.getD 4 0 < 4) ∧
  (w34s4.rd F.dSelref ≠ 4) ∧ (w34s4.refQual 4 = true) ∧ (w34s4.is F.dGrafting = false) ∧ (timeRef w34s4 4 = true) ∧
  (w34s4.untraced = true ∨ bit w34s4.sv.lifted 4 = true) ∧
  (servoRuns w34s5 = true) ∧ (graftMode w34s5 = true) ∧ (graftTarget w34s5 = 4) ∧ (w34s5.sv.exRun.getD 4 0 < 4) ∧
  (w34s5.rd F.dSelref ≠ 4) ∧ (w34s5.refQual 4 = true) ∧ (w34s5.is F.dGrafting = false) ∧ (timeRef w34s5 4 = true) ∧
  (hasOffset w34s5 4 = true) ∧ (w34s5.untraced = false) ∧ (bit w34s5.sv.lifted 4 = false) ∧
  ((refOffset w34s5 4).natAbs ≤ nsU (graftWindow w34s5)) ∧
  (servoRuns w34s6 = true) ∧ (graftMode w34s6 = true) ∧ (graftTarget w34s6 = 4) ∧ (w34s6.sv.exRun.getD 4 0 < 4) ∧
  (w34s6.rd F.dSelref ≠ 4) ∧ (w34s6.refQual 4 = true) ∧ (w34s6.is F.dGrafting = false) ∧ (timeRef w34s6 4 = true) ∧
  (hasOffset w34s6 4 = true) ∧ (w34s6.untraced = false) ∧ (bit w34s6.sv.lifted 4 = false) ∧
  (nsU (graftWindow w34s6) < (refOffset w34s6 4).natAbs) ∧ ((refOffset w34s6 4).natAbs ≤ nsU (w34s6.rd F.dThresh)) ∧
  (servoRuns w34s7 = true) ∧ (graftMode w34s7 = true) ∧ (graftTarget w34s7 = 4) ∧ (w34s7.sv.exRun.getD 4 0 < 4) ∧
  (w34s7.rd F.dSelref ≠ 4) ∧ (w34s7.refQual 4 = true) ∧ (w34s7.is F.dGrafting = false) ∧ (timeRef w34s7 4 = true) ∧
  (hasOffset w34s7 4 = true) ∧ (w34s7.untraced = false) ∧ (bit w34s7.sv.lifted 4 = false) ∧
  (nsU (w34s7.rd F.dThresh) < (refOffset w34s7 4).natAbs) ∧
  (servoRuns w34s8 = true) ∧ (graftDone w34s8 = true) := by
  and_intros <;> first | decide +kernel

def w35s1 : State := {put [(F.refState 4, 3), (F.dAutoconf, 0)] (upIn .track) with sv.exRun := [(4, 4)], rf.recs := [(4, {samples := [-70000000000000]})]}
def w35s2 : State := {put [(F.refState 4, 4), (F.dAutoconf, 1)] (upIn .track) with sv.exRun := [(4, 4)], rf.recs := [(4, {samples := [-70000000000000], since4 := some 0})]}
def w35s3 : State := {put [(F.refState 4, 3), (F.refState 5, 4), (F.dAutoconf, 1), (F.servoGwin, 100), (F.dThresh, 1000), (F.servoJrefmask, 32)] (upIn .track) with sv.exRun := [(4, 4)], sv.joff := [(5, -70000000000002)], sv.jbeat := [(5, 1)], rf.recs := [(4, {samples := [-70000000000000]})]}
def w35s4 : State := {put [(F.refState 4, 3), (F.dThresh, 1000)] (upIn .track) with sv.exRun := [(4, 4)], sv.accepted := some (0, 70000000000000), rf.recs := [(4, {samples := [70000065536000]})]}
def w35s5 : State := {put [(F.refState 4, 3), (F.dThresh, 1000)] (upIn .track) with sv.exRun := [(4, 4)], sv.accepted := some (0, 70000000000000), rf.recs := [(4, {samples := [70000065536001]})]}
theorem witness_JumpRefusedOrConfirmed :
  (servoRuns w35s1 = true) ∧ (timeRef w35s1 4 = true) ∧ (w35s1.refState 4 = 3 ∨ suspectNow w35s1 4 = true) ∧
  (4 ≤ w35s1.sv.exRun.getD 4 0) ∧ (∀ (a : Int), w35s1.sv.accepted ≠ some (w35s1.beatcnt, a)) ∧
  (w35s1.is F.dAutoconf = false ∨ confirmer w35s1 4 (refOffset w35s1 4) = none) ∧
  (servoRuns w35s2 = true) ∧ (timeRef w35s2 4 = true) ∧ (w35s2.refState 4 = 3 ∨ suspectNow w35s2 4 = true) ∧
  (4 ≤ w35s2.sv.exRun.getD 4 0) ∧ (∀ (a : Int), w35s2.sv.accepted ≠ some (w35s2.beatcnt, a)) ∧
  (w35s2.is F.dAutoconf = false ∨ confirmer w35s2 4 (refOffset w35s2 4) = none) ∧
  (servoRuns w35s3 = true) ∧ (timeRef w35s3 4 = true) ∧ (w35s3.refState 4 = 3 ∨ suspectNow w35s3 4 = true) ∧
  (4 ≤ w35s3.sv.exRun.getD 4 0) ∧ (∀ (a : Int), w35s3.sv.accepted ≠ some (w35s3.beatcnt, a)) ∧ (w35s3.is F.dAutoconf = true) ∧
  (confirmer w35s3 4 (refOffset w35s3 4) = some 5) ∧ (w35s3.refState 5 = 4) ∧
  (servoRuns w35s4 = true) ∧ (timeRef w35s4 4 = true) ∧ (w35s4.refState 4 = 3 ∨ suspectNow w35s4 4 = true) ∧
  (4 ≤ w35s4.sv.exRun.getD 4 0) ∧ (w35s4.sv.accepted = some (w35s4.beatcnt, 70000000000000)) ∧
  (servoRuns w35s5 = true) ∧ (timeRef w35s5 4 = true) ∧ (w35s5.refState 4 = 3 ∨ suspectNow w35s5 4 = true) ∧
  (4 ≤ w35s5.sv.exRun.getD 4 0) ∧ (w35s5.sv.accepted = some (w35s5.beatcnt, 70000000000000)) := by
  and_intros <;> first | decide +kernel | exact no_pair _ _ (by decide +kernel)

def w36s1 : State := {put [(F.dServoState, 1)] up with sv.lockRun := 64}
def w36s2 : State := {put [(F.dServoState, 2), (F.dSelref, 0)] up with sv.unlockRun := 16}
def w36s3 : State := {put [(F.dServoState, 2), (F.dSelref, 0), (F.servoBwcur, 100), (F.refNoise 0, 7), (F.servoBwmanual, 0)] up with sv.input := some 0, sv.bwBeats := 64}
def w36s4 : State := {put [(F.dServoState, 2), (F.dSelref, 0), (F.servoBwcur, 200000), (F.refNoise 0, 65535), (F.servoBwmanual, 0)] up with sv.input := some 0, sv.bwBeats := 64}
def w36s5 : State := {put [(F.dServoState, 2), (F.dSelref, 0), (F.servoBwcur, 200000), (F.refNoise 0, 65535), (F.servoBwmanual, 1), (F.servoBwman, 3)] up with sv.input := some 0, sv.bwBeats := 64}
def w36s6 : State := {up with sv.clampRun := 1024}
def w36s7 : State := {put [(F.dSlewing, 1)] up with sv.jslew := true}
def w36s8 : State := {put [(F.dMq, 200), (F.dReady, 1)] up with mo.lost := true}
theorem witness_ServoLockBandwidthAndLimits :
  (servoRuns w36s1 = true) ∧ (w36s1.rd F.dServoState = 1) ∧ (64 ≤ w36s1.sv.lockRun) ∧
  (servoRuns w36s2 = true) ∧ (w36s2.rd F.dServoState = 2) ∧ (16 ≤ w36s2.sv.unlockRun) ∧
  (servoRuns w36s3 = true) ∧ (w36s3.sv.input = some 0) ∧ (64 ≤ w36s3.sv.bwBeats) ∧ (w36s3.rd F.servoBwcur < 2 ^ 32) ∧
  (servoRuns w36s4 = true) ∧ (w36s4.sv.input = some 0) ∧ (64 ≤ w36s4.sv.bwBeats) ∧ (w36s4.rd F.servoBwcur < 2 ^ 32) ∧
  (servoRuns w36s5 = true) ∧ (w36s5.sv.input = some 0) ∧ (64 ≤ w36s5.sv.bwBeats) ∧ (w36s5.rd F.servoBwcur < 2 ^ 32) ∧
  (servoRuns w36s6 = true) ∧ (1024 ≤ w36s6.sv.clampRun) ∧ (bit (w36s6.frec FC.servoLimit).live 0 = false) ∧
  (w36s7.powered = true) ∧ (w36s7.is F.dSlewing = true) ∧ (w36s7.rd F.servoSlewrem = 0) ∧ (w36s7.rd F.servoFslew = 0) ∧
  (w36s8.powered = true) ∧ (w36s8.mo.lost = true) ∧ (bit (w36s8.frec FC.thermoLost).live 0 = false) ∧
  (up.powered = true) ∧ (up.domOn 1 = true) ∧ (bit (up.frec FC.oscFail).live 0 = false) ∧
  ((withRec FC.oscFail 3 1 up).powered = true) := by
  and_intros <;> first | decide +kernel

def w37s1 : State := {upIn .track with mo.fit := some (5,6)}
def w37s2 : State := {put [(F.servoTaufit, 43000)] up with mo.runHigh := 10}
def w37s3 : State := {put [(F.servoTaufit, 2400000)] up with mo.innSq := List.replicate 3600 94371}
def w37s4 : State := {up with mo.runLong := 600}
def w37s5 : State := {put [(F.servoLearns, 1350*191), (F.dReady, 1), (F.servoResid, 100)] up with mo.mqDue := true}
def w37s6 : State := {put [(F.servoLearns, 1350*183), (F.dReady, 1)] up with mo.mqDue := true}
def w37s7 : State := {put [(F.servoLearns, 1350*192), (F.dReady, 0)] up with mo.mqDue := true}
def w37s8 : State := {up with mo.copySecs := 3600}
def w37s9 : State := put [(F.servoHlimit, 9), (F.servoHest, 10)] (upIn .holdover)
def w37s10 : State := {upIn .dormant with mo.nextWake := 100}
def w37s11 : State := {put [(F.refState 4, 3), (F.dSelref, 4)] (upIn .dormant) with mo.win := some ⟨2048, 2048, 1024, 0, 300, false⟩, mo.goodErr := [(0,4,7),(1,4,7),(2,4,7),(3,4,7),(4,4,7),(5,4,7),(6,4,7),(7,4,9)]}
def w37s12 : State := {put [(F.servoEmptywin, 1)] (upIn .dormant) with mo.win := some ⟨2048, 2048, 1024, 0, 300, false⟩}
abbrev litModelFitQualityAndWakeWindows1 : WakeWin := { elapsed := 2048, wlen := 2048, wmeas := 1024, wakeset := 0, wper := 300, rin := false : WakeWin }
theorem witness_ModelFitQualityAndWakeWindows :
  (fitRuns w37s1 = true) ∧ (w37s1.mo.fit = some (5, 6)) ∧
  (w37s2.powered = true) ∧ (w37s2.is F.servoFitfrz = false) ∧ (10 ≤ w37s2.mo.runHigh) ∧
  (w37s3.powered = true) ∧ (w37s3.is F.servoFitfrz = false) ∧ (w37s3.mo.runHigh < 10) ∧ (tauGrows w37s3 = true) ∧
  (w37s4.powered = true) ∧ (600 ≤ w37s4.mo.runLong) ∧
  (w37s5.powered = true) ∧ (w37s5.mo.mqDue = true) ∧
  (w37s6.powered = true) ∧ (w37s6.mo.mqDue = true) ∧
  (w37s7.powered = true) ∧ (w37s7.mo.mqDue = true) ∧
  (w37s8.powered = true) ∧ (w37s8.scRuns = true) ∧ (w37s8.mode ≠ Mode.replay) ∧ (3600 ≤ w37s8.mo.copySecs) ∧ (w37s8.st.store = none) ∧
  (w37s9.powered = true) ∧ (holding w37s9 = true) ∧ (w37s9.rd F.servoHlimit < w37s9.rd F.servoHest) ∧
  (bit (w37s9.frec FC.holdBound).live 0 = false) ∧
  (wakeDue w37s10 = true) ∧
  (w37s11.live = true) ∧ (w37s11.mode = Mode.dormant) ∧
  (w37s11.mo.win = some litModelFitQualityAndWakeWindows1) ∧
  (litModelFitQualityAndWakeWindows1.wlen ≤ litModelFitQualityAndWakeWindows1.elapsed) ∧
  (w37s11.md.exit ≠ some Exit.alarm) ∧
  (w37s12.live = true) ∧ (w37s12.mode = Mode.dormant) ∧
  (w37s12.mo.win = some litModelFitQualityAndWakeWindows1) ∧
  (litModelFitQualityAndWakeWindows1.wlen ≤ litModelFitQualityAndWakeWindows1.elapsed) ∧
  (w37s12.md.exit ≠ some Exit.alarm) := by
  and_intros <;> first | decide +kernel

def w38s1 : State := put [(F.synInt 0, 3)] (upIn .track)
def w38s2 : State := put [(F.synSrc 7, 0), (F.synInt 7, 5), (F.synNum 7, 0), (F.synDen 7, 1), (F.synOdiv 7, 250), (F.synBlock, 1)] (upIn .track)
def w38s3 : State := put [(F.synSrc 4, 1), (F.synInt 4, 10), (F.synNum 4, 0), (F.synDen 4, 1), (F.synOdiv 4, 250), (F.synAlock, 1)] (upIn .track)
def w38s4 : State := put [(F.synSrc 7, 0), (F.synInt 7, 5), (F.synNum 7, 0), (F.synDen 7, 1), (F.synOdiv 7, 250), (F.synBlock, 1)] up
def w38s5 : State := {put [(F.synCken 7, 1), (F.synLocked 7, 1), (F.synBlock, 1), (F.synSrc 7, 0), (F.synInt 7, 5), (F.synNum 7, 0), (F.synDen 7, 1), (F.synOdiv 7, 250)] (upIn .track) with sy.chans := [(7, {start := some (100 * unitsPerSec + unitsPerBeat)})]}
def w38s6 : State := put [(F.synCken 7, 1), (F.synRunning 7, 1), (F.synLocked 7, 1)] (upIn .track)
def w38s9 : State := {put [(F.synCken 7, 1), (F.synHeld 7, 1), (F.synLocked 7, 1)] (upIn .track) with sy.chans := [(7, {change := some ⟨0, 8, 0, 1, 300⟩})]}
def w38s10 : State := {put [(F.synCken 4, 1), (F.synRunning 4, 1)] (upIn .track) with sy.chans := [(4, {change := some ⟨0, 8, 0, 1, 300⟩})]}
def w38s11 : State := {put [(F.synCken 4, 1), (F.synHeld 4, 1)] (upIn .track) with sy.chans := [(4, {change := some ⟨1, 8, 0, 1, 250⟩, hold := some (100 * unitsPerSec - 65536000)})]}
def w38s12 : State := {put [(F.synCken 4, 1), (F.synHeld 4, 1)] (upIn .track) with sy.chans := [(4, {change := some ⟨0, 8, 0, 1, 250⟩, hold := some (100 * unitsPerSec - 65536000), wait := some ⟨0,8,0,1,300⟩})]}
def w38s13 : State := put [(F.synCken 4, 1), (F.synRunning 4, 1), (F.synInt 4, 10), (F.synOdiv 4, 250), (F.synDen 4, 1)] up
def w38s14 : State := put [(F.synCken 4, 1), (F.synRunning 4, 1), (F.synInt 4, 1), (F.synOdiv 4, 250), (F.synDen 4, 1)] up
abbrev litChannelsStartStopAndChange1 : Plan := { src := 1, int := 8, num := 0, den := 1, odiv := 250 : Plan }
abbrev litChannelsStartStopAndChange2 : Plan := { src := 0, int := 8, num := 0, den := 1, odiv := 250 : Plan }
theorem witness_ChannelsStartStopAndChange :
  (w38s1.live = true) ∧ (w38s1.is (F.synCken 0) = false) ∧ (planCode 0 (w38s1.rd (F.synSlew 0)) (planNow w38s1 0) ≠ 0) ∧
  (w38s2.live = true) ∧ (w38s2.is (F.synCken 7) = false) ∧ (planCode 7 (w38s2.rd (F.synSlew 7)) (planNow w38s2 7) = 0) ∧
  ((srcReady w38s2 7 && !w38s2.isolated FC.ckUnlock 7 && w38s2.domOn 12 && (w38s2.mode.runs || (w38s2.mode == Mode.provision || w38s2.mode == Mode.safe) && (w38s2.chan 7).faulted) && !chanRunning w38s2 7 && (w38s2.chan 7).start.isNone) = true) ∧
  (w38s3.live = true) ∧ (w38s3.is (F.synCken 4) = false) ∧ (planCode 4 (w38s3.rd (F.synSlew 4)) (planNow w38s3 4) = 0) ∧
  ((srcReady w38s3 4 && !w38s3.isolated FC.ckUnlock 4 && w38s3.domOn 12 && (w38s3.mode.runs || (w38s3.mode == Mode.provision || w38s3.mode == Mode.safe) && (w38s3.chan 4).faulted) && !chanRunning w38s3 4 && (w38s3.chan 4).start.isNone) = true) ∧
  (w38s4.live = true) ∧ (w38s4.is (F.synCken 7) = false) ∧ (planCode 7 (w38s4.rd (F.synSlew 7)) (planNow w38s4 7) = 0) ∧
  ((srcReady w38s4 7 && !w38s4.isolated FC.ckUnlock 7 && w38s4.domOn 12 && (w38s4.mode.runs || (w38s4.mode == Mode.provision || w38s4.mode == Mode.safe) && (w38s4.chan 7).faulted) && !chanRunning w38s4 7 && (w38s4.chan 7).start.isNone) = false) ∧
  (w38s5.live = true) ∧ (mayStart w38s5 7 = true) ∧ ((w38s5.chan 7).start = some (100 * unitsPerSec + unitsPerBeat)) ∧
  (100 * unitsPerSec + unitsPerBeat ≤ beatEnd w38s5) ∧
  (w38s6.live = true) ∧ (w38s6.is (F.synCken 7) = true) ∧
  (w38s6.live = true) ∧ (planCode 7 (w38s6.rd (F.synSlew 7)) (planOf (w38s6.rd (F.synSrc 7)) 0) ≠ 0) ∧
  (w38s6.live = true) ∧ (planCode 7 (w38s6.rd (F.synSlew 7)) (planOf (w38s6.rd (F.synSrc 7)) 396140812571321687972014719226) = 0) ∧
  (w38s6.rd (F.synSrc 7) < 2) ∧
  (up.live = true) ∧ (planCode 7 (up.rd (F.synSlew 7)) (planOf (up.rd (F.synSrc 7)) 396140812571321687972014719226) = 0) ∧
  (up.rd (F.synSrc 7) < 2) ∧
  (w38s9.live = true) ∧ (planCode 7 (w38s9.rd (F.synSlew 7)) (planOf (w38s9.rd (F.synSrc 7)) 396140812571321687972014719226) = 0) ∧
  (w38s9.rd (F.synSrc 7) < 2) ∧
  (up.live = true) ∧ (3 < 4) ∧
  (up.live = true) ∧ (4 ≤ 4) ∧
  (w38s10.live = true) ∧ (w38s10.is (F.synRunning 4) = true) ∧ ((w38s10.chan 4).change ≠ none) ∧
  (w38s11.live = true) ∧ (w38s11.is (F.synHeld 4) = true) ∧ ((w38s11.chan 4).hold = some (100 * unitsPerSec - 65536000)) ∧
  ((w38s11.chan 4).change = some litChannelsStartStopAndChange1) ∧
  (resumeAt litChannelsStartStopAndChange1 (100 * unitsPerSec - 65536000) ≤ beatEnd w38s11) ∧
  (w38s12.live = true) ∧ (w38s12.is (F.synHeld 4) = true) ∧ ((w38s12.chan 4).hold = some (100 * unitsPerSec - 65536000)) ∧
  ((w38s12.chan 4).change = some litChannelsStartStopAndChange2) ∧
  (resumeAt litChannelsStartStopAndChange2 (100 * unitsPerSec - 65536000) ≤ beatEnd w38s12) ∧
  (up.live = true) ∧ (3 < 4 ∨ b2n true = up.rd (F.synSrc 3) ∨ up.mode ≠ Mode.provision) ∧
  ((upIn Mode.track).live = true) ∧ (4 < 4 ∨ b2n true = (upIn Mode.track).rd (F.synSrc 4) ∨ (upIn Mode.track).mode ≠ Mode.provision) ∧
  (up.live = true) ∧ (4 < 4 ∨ b2n false = up.rd (F.synSrc 4) ∨ up.mode ≠ Mode.provision) ∧
  (up.live = true) ∧ (4 ≤ 4) ∧ (b2n true ≠ up.rd (F.synSrc 4)) ∧ (up.mode = Mode.provision) ∧ (chanRunning up 4 = false) ∧
  (w38s13.live = true) ∧ (4 ≤ 4) ∧ (b2n true ≠ w38s13.rd (F.synSrc 4)) ∧ (w38s13.mode = Mode.provision) ∧
  (chanRunning w38s13 4 = true) ∧
  (planCode 4 (w38s13.rd (F.synSlew 4))     (have __src := planNow w38s13 4;     { src := b2n true, int := __src.int, num := __src.num, den := __src.den, odiv := __src.odiv : Plan }) =   0) ∧
  (w38s14.live = true) ∧ (4 ≤ 4) ∧ (b2n true ≠ w38s14.rd (F.synSrc 4)) ∧ (w38s14.mode = Mode.provision) ∧
  (chanRunning w38s14 4 = true) ∧
  (planCode 4 (w38s14.rd (F.synSlew 4))     (have __src := planNow w38s14 4;     { src := b2n true, int := __src.int, num := __src.num, den := __src.den, odiv := __src.odiv : Plan }) ≠   0) := by
  and_intros <;> first | decide +kernel

def w39s1 : State := put [(F.synAlock, 1), (F.synRampRunning, 1), (F.synSrc 4, 1), (F.synCken 4, 1), (F.synRunning 4, 1), (F.synCken 0, 1), (F.synRunning 0, 1)] (upIn .track)
def w39s2 : State := put [(F.synBlock, 1), (F.synRampRunning, 1), (F.synSrc 4, 1), (F.synCken 4, 1), (F.synRunning 4, 1), (F.synCken 0, 1), (F.synRunning 0, 1)] (upIn .track)
def w39s3 : State := put [(F.synBlock, 0), (F.synSrc 4, 1), (F.synCken 4, 1), (F.synRunning 4, 1), (F.synCken 0, 1)] (withRec .synbUnlock 2 1 (upIn .track))
def w39s4 : State := put [(F.synCken 7, 1), (F.synLocked 7, 1), (F.synRunning 7, 1)] (upIn .track)
def w39s5 : State := put [(F.synCken 7, 1)] (withRec .ckUnlock 2 128 (upIn .track))
def w39s6 : State := put [(F.servoFword, 84442493014)] up
def w39s7 : State := put [(F.synRampRunning, 1), (F.synRoff, 500001), (F.synRampMode, 1)] up
def w39s8 : State := {put [(F.synRampRunning, 1), (F.synShadow 0, 1), (F.synShadow 127, 9), (F.synSegnow, 4), (F.synSegbeats, 6), (F.synLooppass, 8)] up with sy.load := true}
def w39s9 : State := {put [(F.synRampRunning, 0), (F.synShadow 0, 1), (F.synShadow 127, 9), (F.synSegnow, 4), (F.synSegbeats, 6), (F.synLooppass, 8)] up with sy.load := true}
def w39s10 : State := put [(F.synRampen, 1), (F.synRampRunning, 1)] up
def w39s11 : State := put [(F.synRampen, 1), (F.synRampRunning, 0)] up
def w39s12 : State := {put [(F.synRampRunning, 1)] up with sy.stop := some 1024}
theorem witness_ClockFaultsAndRamp :
  (w39s1.powered = true) ∧ (bit (w39s1.frec FC.synaUnlock).live 0 = false) ∧
  (w39s2.powered = true) ∧ (bit (w39s2.frec FC.synbUnlock).live 0 = false) ∧
  (w39s3.powered = true) ∧ (w39s3.domOn 4 = true) ∧ (w39s3.is F.synBlock = false) ∧
  (w39s4.live = true) ∧ (w39s4.is (F.synCken 7) = true) ∧ (w39s4.is (F.synLocked 7) = true) ∧
  (bit (w39s4.frec FC.ckUnlock).live 7 = false) ∧
  (w39s5.live = true) ∧ (bit (w39s5.frec FC.ckUnlock).live 7 = true) ∧
  (w39s6.live = true) ∧ (84442493013 < (w39s6.rdS F.servoFword).natAbs) ∧ (bit (w39s6.frec FC.synbRange).live 0 = false) ∧
  (w39s7.live = true) ∧ (rampOver w39s7 = true) ∧ (bit (w39s7.frec FC.rampClamp).live 0 = false) ∧
  (w39s8.live = true) ∧ (w39s8.sy.load = true) ∧
  (w39s9.live = true) ∧ (w39s9.sy.load = true) ∧
  (up.live = true) ∧ (up.is F.synRampen = false) ∧
  (w39s10.live = true) ∧ (w39s10.is F.synRampen = true) ∧
  (w39s11.live = true) ∧ (w39s11.is F.synRampen = true) ∧
  (w39s12.live = true) ∧ (w39s12.sy.stop = some 1024) := by
  and_intros <;> first | decide +kernel

def w40s1 : State := put [(F.dPipctl, 0x8000), (F.timePipPeriodic 15, 1), (F.timePipStart 15, 90 * 2^48), (F.timePipPeriod 15, 2^48), (F.timePipWidth 15, 1000)] (upIn .track)
def w40s2 : State := put [(F.dPipctl, 0x8000), (F.timePipPeriodic 15, 0), (F.timePipStart 15, 101 * 2^48), (F.timePipWidth 15, 1000)] (upIn .track)
def w40s3 : State := put [(F.dPipctl, 0x8000), (F.timePipPeriodic 15, 0), (F.timePipStart 15, 90 * 2^48), (F.timePipWidth 15, 1000)] (upIn .track)
def w40s4 : State := put [(F.dPipctl, 0x8000), (F.timePipPeriodic 15, 1), (F.timePipStart 15, 90 * 2^48), (F.timePipWidth 15, 0)] (upIn .track)
def w40s5 : State := {put [(F.timePipArmed 15, 1)] (upIn .track) with tm.pipPrev := 0x8000, tm.pips := [(15, {due := some 5, pulse := some 4})]}
def w40s6 : State := put [(F.timeLeappend, 1), (F.timeLeapat, 100), (F.timeUtcoff, 37), (F.timeLeapdir, 1)] up
def w40s7 : State := put [(F.timeLeappend, 1), (F.timeLeapat, 100), (F.timeUtcoff, 37), (F.timeLeapdir, 0)] up
def w40s8 : State := {put [(F.timePipArmed 15, 1), (F.timePipPeriodic 15, 1), (F.timePipPinen 15, 1), (F.timePipPin 15, 3), (F.timePipPol 15, 1), (F.timePipBramen 15, 1), (F.timePipWidth 15, 1000), (F.timePipPeriod 15, 2^48), (F.timeTioDir 3, 2)] (upIn .track) with tm.pips := [(15, {due := some (100 * unitsPerSec), out := some (3, true)})]}
def w40s9 : State := {put [(F.timePipArmed 15, 1), (F.timePipPeriodic 15, 1), (F.timePipPinen 15, 1), (F.timePipPin 15, 3), (F.timePipWidth 15, 1000), (F.timePipPeriod 15, 64000000000), (F.timeTioDir 3, 2)] (upIn .track) with tm.pips := [(15, {due := some (100 * unitsPerSec), out := some (3, false)})]}
def w40s10 : State := {put [(F.timePipArmed 15, 1), (F.timePipPeriodic 15, 0), (F.timePipPinen 15, 0), (F.timePipPin 15, 3), (F.timePipWidth 15, 1000)] (upIn .track) with tn.own := [(15, 2)], tm.pips := [(15, {due := some (100 * unitsPerSec + unitsPerBeat - 1)})]}
def w40s11 : State := {put [(F.timePipArmed 15, 1), (F.timePipPinen 15, 1), (F.timePipPin 15, 3), (F.timeTioDir 3, 2)] (upIn .track) with tm.pips := [(15, {pulse := some (100 * unitsPerSec), out := some (3, false)})], tm.tio := [(3, {drive := true, slewNext := some 2})]}
def w40s12 : State := {put [(F.timePipArmed 15, 1), (F.timePipPinen 15, 1), (F.timePipPin 15, 3), (F.timeTioDir 3, 2)] (upIn .track) with tm.pips := [(15, {pulse := some (100 * unitsPerSec), due := some (101 * unitsPerSec), out := some (3, true)})], tm.tio := [(3, {drive := false})]}
def w40s13 : State := {put [(F.timePipArmed 15, 1)] (upIn .track) with tm.pipPrev := 0x8000, tm.pips := [(15, {due := some 5, out := some (3, true)})]}
theorem witness_PipsArmFireAndEnd :
  (w40s1.live = true) ∧ (pipEn w40s1 15 = true) ∧ (bit w40s1.tm.pipPrev 15 = false) ∧ (armingWaits w40s1.mode = false) ∧
  (w40s2.live = true) ∧ (pipEn w40s2 15 = true) ∧ (bit w40s2.tm.pipPrev 15 = false) ∧ (armingWaits w40s2.mode = false) ∧
  (w40s3.live = true) ∧ (pipEn w40s3 15 = true) ∧ (bit w40s3.tm.pipPrev 15 = false) ∧ (armingWaits w40s3.mode = false) ∧
  (w40s4.live = true) ∧ (pipEn w40s4 15 = true) ∧ (bit w40s4.tm.pipPrev 15 = false) ∧ (armingWaits w40s4.mode = false) ∧
  (w40s5.live = true) ∧ (pipEn w40s5 15 = false) ∧ (bit w40s5.tm.pipPrev 15 = true) ∧
  (w40s6.powered = true) ∧ (w40s6.tm.running = true) ∧ (leapDue w40s6 = true) ∧ (-30000 < w40s6.rdS F.timeUtcoff) ∧
  (w40s6.rdS F.timeUtcoff < 30000) ∧
  (w40s7.powered = true) ∧ (w40s7.tm.running = true) ∧ (leapDue w40s7 = true) ∧ (-30000 < w40s7.rdS F.timeUtcoff) ∧
  (w40s7.rdS F.timeUtcoff < 30000) ∧
  (w40s8.live = true) ∧ ((w40s8.pip 15).due = some (100 * unitsPerSec)) ∧ (w40s8.is (F.timePipArmed 15) = true) ∧
  (w40s8.tm.now ≤ 100 * unitsPerSec) ∧ (100 * unitsPerSec < nextStrobe w40s8) ∧
  (w40s9.live = true) ∧ ((w40s9.pip 15).due = some (100 * unitsPerSec)) ∧ (w40s9.is (F.timePipArmed 15) = true) ∧
  (w40s9.tm.now ≤ 100 * unitsPerSec) ∧ (100 * unitsPerSec < nextStrobe w40s9) ∧
  (w40s10.live = true) ∧ ((w40s10.pip 15).due = some (100 * unitsPerSec + unitsPerBeat - 1)) ∧ (w40s10.is (F.timePipArmed 15) = true) ∧
  (w40s10.tm.now ≤ 100 * unitsPerSec + unitsPerBeat - 1) ∧ (100 * unitsPerSec + unitsPerBeat - 1 < nextStrobe w40s10) ∧
  (w40s11.live = true) ∧ ((w40s11.pip 15).pulse = some (100 * unitsPerSec)) ∧ (100 * unitsPerSec < nextStrobe w40s11) ∧
  (w40s12.live = true) ∧ ((w40s12.pip 15).pulse = some (100 * unitsPerSec)) ∧ (100 * unitsPerSec < nextStrobe w40s12) ∧
  (w40s13.live = true) ∧ (pipEn w40s13 15 = false) ∧ (bit w40s13.tm.pipPrev 15 = true) := by
  and_intros <;> first | decide +kernel

def w41s1 : State := put [(F.timePipArmed 2, 1), (F.timePipPinen 2, 1), (F.timePipPin 2, 15), (F.timeTioDir 15, 2)] up
def w41s2 : State := {put [(F.timeTioDir 15, 2)] (upIn .track) with md.leftProv := true}
def w41s3 : State := {put [(F.timeTioDir 15, 2)] (upIn .track) with tm.tio := [(15, {drive := true, pulse := some 5, slewNext := some 2})]}
def w41s4 : State := {put [(F.timeCapSrc 15, 3), (F.timeTioDir 3, 1), (F.timeTioGlitch 3, 125), (F.timeCapEdge 15, 2)] (upIn .track) with md.leftProv := true, tm.caps := [(15, {})]}
def w41s5 : State := {put [(F.timeCapSrc 15, 3), (F.timeTioDir 3, 1), (F.timeTioGlitch 3, 125), (F.timeCapEdge 15, 2)] (upIn .track) with md.leftProv := true, tm.caps := [(15, {lastEdge := some (100 * unitsPerSec + 9 * unitsPerEdge + 131071 + 524287)})]}
def w41s6 : State := {put [(F.timeCapSrc 15, 3), (F.timeTioDir 3, 1), (F.timeTioGlitch 3, 125), (F.timeCapEdge 15, 2)] (upIn .track) with md.leftProv := true, tm.caps := [(15, {lastEdge := some (100 * unitsPerSec + 9 * unitsPerEdge + 131071 + 524288)})]}
def w41s7 : State := {put [(F.timeCapSrc 15, 3), (F.timeTioDir 3, 1), (F.timeTioGlitch 3, 125), (F.timeCapEdge 15, 2)] (upIn .track) with md.leftProv := true, tm.caps := [(15, {queue := List.replicate 16 5})]}
def w41s8 : State := {put [(F.timeCapSrc 15, 3), (F.timeTioDir 3, 1), (F.timeTioGlitch 3, 125), (F.timeCapEdge 15, 2)] (upIn .track) with md.leftProv := true, tm.caps := [(15, {queue := List.replicate 15 5})]}
def w41s9 : State := {upIn .track with tm.caps := [(15, {queue := [0x1234 <<< 112, 7]})]}
def w41s10 : State := {upIn .track with tm.caps := [(15, {queue := List.replicate 16 9, recent := some ((upIn .track).beatcnt, 0, 77, List.replicate 16 9, 0, 3)})]}
def w41s11 : State := {upIn .track with tm.caps := [(15, {queue := [77], recent := some ((upIn .track).beatcnt, 0, 77, [], 0, 3)})]}
def w41s12 : State := {upIn .track with tn.own := [(79, 4)]}
def w41s13 : State := {upIn .track with pw.auxLow := true}
def w41s14 : State := {upIn .track with tn.own := [(79, 4)], pw.auxLow := true}
theorem witness_CapturesAndTioPins :
  (up.live = true) ∧ (armedOn up 15 = none) ∧
  (w41s1.live = true) ∧ (armedOn w41s1 15 = some 2) ∧
  (w41s2.live = true) ∧ (tioDriven w41s2 15 = true) ∧ (bit (w41s2.frec FC.tioShort).live 15 = false) ∧
  ((withRec FC.tioShort 2 32768 up).live = true) ∧
  (w41s3.live = true) ∧ ((w41s3.tio 15).pulse ≠ none) ∧
  (w41s4.live = true) ∧ (capsRun w41s4.mode = true) ∧ (w41s4.rd (F.timeCapSrc 15) < 16) ∧
  (tioInput w41s4 (w41s4.rd (F.timeCapSrc 15)) = true) ∧ (capSrcErr w41s4 15 = false) ∧
  (edgeSel (w41s4.rd (F.timeCapEdge 15)) true = true) ∧ (w41s4.owner 1 15 = 0) ∧
  (tioPasses w41s4 (w41s4.rd (F.timeCapSrc 15)) 50 = false) ∧
  (w41s5.live = true) ∧ (capsRun w41s5.mode = true) ∧ (w41s5.rd (F.timeCapSrc 15) < 16) ∧
  (tioInput w41s5 (w41s5.rd (F.timeCapSrc 15)) = true) ∧ (capSrcErr w41s5 15 = false) ∧
  (edgeSel (w41s5.rd (F.timeCapEdge 15)) true = true) ∧ (w41s5.owner 1 15 = 0) ∧
  (tioPasses w41s5 (w41s5.rd (F.timeCapSrc 15)) 1000 = true) ∧ (∃ p, (w41s5.cap 15).lastEdge = some p ∧
  w41s5.at 9 + 131071 % unitsPerEdge - p < 8 * 65536 ∧ p - (w41s5.at 9 + 131071 % unitsPerEdge) < 8 * 65536) ∧
  (w41s6.live = true) ∧ (capsRun w41s6.mode = true) ∧ (w41s6.rd (F.timeCapSrc 15) < 16) ∧
  (tioInput w41s6 (w41s6.rd (F.timeCapSrc 15)) = true) ∧ (capSrcErr w41s6 15 = false) ∧
  (edgeSel (w41s6.rd (F.timeCapEdge 15)) true = true) ∧ (w41s6.owner 1 15 = 0) ∧
  (tioPasses w41s6 (w41s6.rd (F.timeCapSrc 15)) 1000 = true) ∧ (¬∃ p, (w41s6.cap 15).lastEdge = some p ∧
  w41s6.at 9 + 131071 % unitsPerEdge - p < 8 * 65536 ∧ p - (w41s6.at 9 + 131071 % unitsPerEdge) < 8 * 65536) ∧
  ((w41s6.cap 15).queue.length < 16) ∧
  (w41s7.live = true) ∧ (capsRun w41s7.mode = true) ∧ (w41s7.rd (F.timeCapSrc 15) < 16) ∧
  (tioInput w41s7 (w41s7.rd (F.timeCapSrc 15)) = true) ∧ (capSrcErr w41s7 15 = false) ∧
  (edgeSel (w41s7.rd (F.timeCapEdge 15)) true = true) ∧ (w41s7.owner 1 15 = 0) ∧
  (tioPasses w41s7 (w41s7.rd (F.timeCapSrc 15)) 1000 = true) ∧ (¬∃ p, (w41s7.cap 15).lastEdge = some p ∧
  w41s7.at 9 + 131071 % unitsPerEdge - p < 8 * 65536 ∧ p - (w41s7.at 9 + 131071 % unitsPerEdge) < 8 * 65536) ∧
  (16 ≤ (w41s7.cap 15).queue.length) ∧
  (w41s8.live = true) ∧ (capsRun w41s8.mode = true) ∧ (w41s8.rd (F.timeCapSrc 15) < 16) ∧
  (tioInput w41s8 (w41s8.rd (F.timeCapSrc 15)) = true) ∧ (capSrcErr w41s8 15 = false) ∧
  (edgeSel (w41s8.rd (F.timeCapEdge 15)) true = true) ∧ (w41s8.owner 1 15 = 0) ∧
  (tioPasses w41s8 (w41s8.rd (F.timeCapSrc 15)) 1000 = true) ∧ (¬∃ p, (w41s8.cap 15).lastEdge = some p ∧
  w41s8.at 9 + 131071 % unitsPerEdge - p < 8 * 65536 ∧ p - (w41s8.at 9 + 131071 % unitsPerEdge) < 8 * 65536) ∧
  ((w41s8.cap 15).queue.length < 16) ∧
  (w41s9.live = true) ∧ (w41s9.owner 1 15 = 0) ∧ (w41s9.pw.auxLow = false) ∧
  (w41s10.live = true) ∧ (w41s10.owner 1 15 = 0) ∧ (w41s10.pw.auxLow = false) ∧
  (w41s11.live = true) ∧ (w41s11.owner 1 15 = 0) ∧ (w41s11.pw.auxLow = false) ∧
  (w41s12.live = true) ∧ (w41s12.owner 1 15 = 4) ∧ (w41s12.pw.auxLow = false) ∧
  (w41s13.live = true) ∧ (w41s13.owner 1 15 = 0) ∧ (w41s13.pw.auxLow = true) ∧ (0 = 0) ∧
  (w41s14.live = true) ∧ (w41s14.owner 1 15 = 4) ∧ (w41s14.pw.auxLow = true) ∧ (4 ≠ 0) := by
  and_intros <;> first | decide +kernel

def w42s1 : State := put [(F.portPmode 1, 1)] (withRec .sfpUnsupported 1 2 up)
def w42s2 : State := put [(F.portSfppres 1, 1), (F.portSfpok 1, 1), (F.portPen 1, 1), (F.portLink 1, 1), (F.portTxfault 1, 1)] (withRec .sfpTxfault 2 2 up)
def w42s3 : State := put [(F.portSfppres 1, 1), (F.portSfpok 1, 1), (F.portPen 1, 1), (F.portLink 1, 1)] up
def w42s4 : State := put [(F.portSfppres 1, 1), (F.portTxfault 1, 1)] (withRec .sfpTxfault 2 2 up)
def w42s5 : State := {put [(F.portSfppres 1, 1), (F.portLink 1, 1)] up with po.ports := [(1, {a0 := List.replicate 92 0 ++ [0x60], diagNow := true})]}
def w42s6 : State := {put [(F.portSfppres 1, 1)] (withRec .sfpAlarm 1 2 up) with po.ports := [(1, {a0 := List.replicate 92 0 ++ [0x60], diagNow := true})]}
def w42s7 : State := put [(F.portPen 2, 1)] (withRec .linkDown 1 4 up)
def w42s8 : State := put [(F.portPen 3, 1)] (withRec .linkDown 1 8 up)
def w42s9 : State := {put [(F.portPen 3, 1), (F.portLink 3, 1)] up with po.addrs := [⟨5, 0, 3, 0⟩, ⟨6, 0, 2, 0⟩], po.ports := [(3, {queues := [(2, [⟨1, 5, 6, [], none, 0, 1, 0, 64, 2⟩])]})]}
def w42s10 : State := put [(F.portPen 3, 0), (F.portLink 3, 1)] up
def w42s11 : State := put [(F.portPen 3, 1), (F.portLink 3, 1), (F.dPowstat, 0x3FFF - 1024)] up
def w42s12 : State := put [(F.portLink 2, 1)] up
def w42s13 : State := put [(F.portLink 2, 1), (F.portCmhold 2, 1), (F.portEqfrz 2, 1)] up
def w42s14 : State := put [(F.portLink 2, 1), (F.portCmhold 2, 1)] up
def w42s15 : State := {put [(F.portLink 2, 1), (F.portPen 2, 1)] up with po.ports := [(2, {bad := 5})]}
def w42s16 : State := put [(F.portLink 3, 1), (F.portPen 3, 1)] up
theorem witness_PortsLinksAndTransceivers :
  (up.live = true) ∧ (up.domOn (portDom 1) = true) ∧ (sfpLayer (up.rd (F.portPmode 1)) [] = 0) ∧
  (bit (up.frec FC.sfpUnsupported).live 1 = false) ∧
  (w42s1.live = true) ∧ (w42s1.domOn (portDom 1) = true) ∧ (sfpLayer (w42s1.rd (F.portPmode 1)) [3] ≠ 0) ∧
  (w42s2.live = true) ∧ (w42s2.is (F.portSfppres 1) = true) ∧
  (w42s3.live = true) ∧ (w42s3.domOn (portDom 1) = true) ∧ (w42s3.is (F.portSfppres 1) = true) ∧
  (bit (w42s3.frec FC.sfpTxfault).live 1 = false) ∧ ((w42s3.frec FC.sfpTxfault).uncl = false) ∧
  (w42s4.live = true) ∧ (w42s4.is (F.portTxfault 1) = true) ∧
  (w42s5.live = true) ∧ (w42s5.domOn (portDom 1) = true) ∧ (w42s5.is (F.portSfppres 1) = true) ∧ (hasDiag (w42s5.port 1).a0 = true) ∧
  (w42s5.po.diagBeat ≠ some w42s5.beatcnt) ∧ ((w42s5.port 1).diagNow = true) ∧
  (w42s6.live = true) ∧ (w42s6.domOn (portDom 1) = true) ∧ (w42s6.is (F.portSfppres 1) = true) ∧ (hasDiag (w42s6.port 1).a0 = true) ∧
  (w42s6.po.diagBeat ≠ some w42s6.beatcnt) ∧ ((w42s6.port 1).diagNow = true) ∧
  (up.live = true) ∧ (up.po.diagBeat ≠ some up.beatcnt) ∧
  (w42s7.live = true) ∧ (portReady w42s7 2 = true) ∧ (w42s7.is (F.portLink 2) = false) ∧
  (w42s8.live = true) ∧ (portReady w42s8 3 = true) ∧ (w42s8.is (F.portLink 3) = false) ∧
  (w42s9.live = true) ∧ (w42s9.is (F.portLink 3) = true) ∧ (bit (w42s9.frec FC.linkDown).live 3 = false) ∧
  (w42s10.powered = true) ∧ (w42s10.is (F.portPen 3) = false ∨ w42s10.domOn (portDom 3) = false) ∧ (w42s10.is (F.portLink 3) = true) ∧
  (w42s11.powered = true) ∧ (w42s11.is (F.portPen 3) = false ∨ w42s11.domOn (portDom 3) = false) ∧ (w42s11.is (F.portLink 3) = true) ∧
  (w42s12.live = true) ∧ (w42s12.domOn 9 = true) ∧ (50 < 51) ∧
  (w42s13.live = true) ∧ (w42s13.domOn 9 = true) ∧ (50 < 51) ∧
  (w42s14.live = true) ∧ (w42s14.is (F.portCmhold 2) = true) ∧
  (w42s15.live = true) ∧ (w42s15.is (F.portLink 2) = true) ∧ (4 < (w42s15.port 2).bad) ∧
  (w42s16.live = true) ∧ (w42s16.domOn (portDom 3) = true) ∧ (bit (w42s16.frec FC.phyFail).live 3 = false) ∧
  ((w42s16.frec FC.phyFail).uncl = false) ∧
  ((withRec FC.phyFail 2 8 up).powered = true) := by
  and_intros <;> first | decide +kernel

def w43s1 : State := put [(F.portLink 3, 1)] up
def w43s2 : State := put [(F.portCutthru 0, 1), (F.portLink 3, 1)] up
def w43s7 : State := put [(F.portLink 3, 1), (F.portPvid 3, 9)] up
def w43s8 : State := {put [(F.portLink 3, 1)] up with po.ports := [(3, {queues := [(1, [⟨2, 5, 6, [], none, 0, 1, 0, 64, 2⟩]), (2, [⟨1, 5, 6, [8,0,1], none, 0, 1, 0, 64, 2⟩])]})]}
def w43s9 : State := {put [(F.fabBeatcnt, 307201), (F.portAgetime, 300)] up with po.addrs := [⟨5, 0, 3, 1⟩, ⟨6, 0, 2, 0⟩]}
def w43s10 : State := {up with po.addrs := [⟨5, 0, 3, 0⟩, ⟨6, 0, 1, 0⟩]}
def w43s11 : State := put [(F.portValid 7, 1), (F.portVowner 7, 1), (F.portUntag 7, 8), (F.portMember 7, 15)] up
def w43s12 : State := put [(F.portValid 0, 0), (F.portValid 7, 1), (F.portVowner 7, 4), (F.portUntag 7, 8), (F.portMember 7, 15)] up
abbrev litBridgeForwardsInsideVlans1 : FrameIn := { bytes := [1, 128, 194, 0, 0, 1, 0, 0, 0, 0, 0, 1, 136, 8, 0, 1] ++ List.replicate 48 0, fcsOk := true, ce := true, ue := false : FrameIn }
abbrev litBridgeForwardsInsideVlans2 : FrameIn := { bytes := List.replicate 1537 1, fcsOk := true, ce := false, ue := false : FrameIn }
abbrev litBridgeForwardsInsideVlans3 : FrameIn := { bytes := List.replicate 1536 1, fcsOk := true, ce := true, ue := false : FrameIn }
abbrev litBridgeForwardsInsideVlans4 : FrameIn := { bytes := List.replicate 64 1, fcsOk := false, ce := true, ue := false : FrameIn }
abbrev litBridgeForwardsInsideVlans5 : FrameIn := { bytes := List.replicate 63 1, fcsOk := true, ce := true, ue := false : FrameIn }
abbrev litBridgeForwardsInsideVlans6 : FrameIn := { bytes := List.replicate 64 1, fcsOk := true, ce := true, ue := true : FrameIn }
abbrev litBridgeForwardsInsideVlans7 : Addr := { mac := 5, entry := 0, port := 3, seen := 1 : Addr }
theorem witness_BridgeForwardsInsideVlans :
  (w43s1.live = true) ∧ (w43s1.domOn 6 = true) ∧ (w43s1.is (F.portLink 3) = true) ∧
  (litBridgeForwardsInsideVlans4.fcsOk = false) ∧
  (w43s1.is (F.portCutthru 0) = false) ∧
  (w43s2.live = true) ∧ (w43s2.domOn 6 = true) ∧ (w43s2.is (F.portLink 3) = true) ∧
  (litBridgeForwardsInsideVlans4.fcsOk = false) ∧
  (w43s2.is (F.portCutthru 0) = true) ∧
  (w43s1.live = true) ∧ (w43s1.domOn 6 = true) ∧ (w43s1.is (F.portLink 3) = true) ∧
  (litBridgeForwardsInsideVlans5.fcsOk = true) ∧
  (¬(64 ≤ litBridgeForwardsInsideVlans5.bytes.length ∧
  litBridgeForwardsInsideVlans5.bytes.length ≤ 1536)) ∧
  (w43s1.live = true) ∧ (w43s1.domOn 6 = true) ∧ (w43s1.is (F.portLink 3) = true) ∧
  (litBridgeForwardsInsideVlans2.fcsOk = true) ∧
  (¬(64 ≤ litBridgeForwardsInsideVlans2.bytes.length ∧
  litBridgeForwardsInsideVlans2.bytes.length ≤ 1536)) ∧
  (w43s1.live = true) ∧ (w43s1.domOn 6 = true) ∧ (w43s1.is (F.portLink 3) = true) ∧
  (litBridgeForwardsInsideVlans6.fcsOk = true) ∧
  (64 ≤ litBridgeForwardsInsideVlans6.bytes.length) ∧
  (litBridgeForwardsInsideVlans6.bytes.length ≤ 1536) ∧
  (litBridgeForwardsInsideVlans6.ue = true) ∧
  (w43s1.live = true) ∧ (w43s1.domOn 6 = true) ∧ (w43s1.is (F.portLink 3) = true) ∧
  (litBridgeForwardsInsideVlans1.fcsOk = true) ∧
  (64 ≤ litBridgeForwardsInsideVlans1.bytes.length) ∧
  (litBridgeForwardsInsideVlans1.bytes.length ≤ 1536) ∧
  (litBridgeForwardsInsideVlans1.ue = false) ∧
  (isPause (parseFrame (List.take (litBridgeForwardsInsideVlans1.bytes.length - 4) litBridgeForwardsInsideVlans1.bytes)) = true) ∧
  (w43s7.live = true) ∧ (w43s7.domOn 6 = true) ∧ (w43s7.is (F.portLink 3) = true) ∧
  (litBridgeForwardsInsideVlans3.fcsOk = true) ∧
  (64 ≤ litBridgeForwardsInsideVlans3.bytes.length) ∧
  (litBridgeForwardsInsideVlans3.bytes.length ≤ 1536) ∧
  (litBridgeForwardsInsideVlans3.ue = false) ∧
  (isPause (parseFrame (List.take (litBridgeForwardsInsideVlans3.bytes.length - 4) litBridgeForwardsInsideVlans3.bytes)) = false) ∧
  (reserved (parseFrame (List.take (litBridgeForwardsInsideVlans3.bytes.length - 4) litBridgeForwardsInsideVlans3.bytes)).dst = false) ∧
  (isPtp (parseFrame (List.take (litBridgeForwardsInsideVlans3.bytes.length - 4) litBridgeForwardsInsideVlans3.bytes)) = false) ∧
  (vlanOf w43s7 (frameVid w43s7 3 (parseFrame (List.take (litBridgeForwardsInsideVlans3.bytes.length - 4) litBridgeForwardsInsideVlans3.bytes)).tag).fst = none) ∧
  (w43s8.live = true) ∧ (w43s8.domOn 6 = true) ∧ (w43s8.is (F.portLink 3) = true) ∧ (2 < 5) ∧
  (w43s8.queue 3 2 = [{ id := 1, dst := 5, src := 6, body := [8, 0, 1], tag := none, entry := 0, vid := 1, pcp := 0, len := 64, port := 2 : Frame }]) ∧
  (∀ (r : Nat), 2 < r → r < 5 → w43s8.queue 3 r = []) ∧
  (w43s9.live = true) ∧ (w43s9.domOn 6 = true) ∧ (addrOf w43s9 5 0 = some litBridgeForwardsInsideVlans7) ∧
  (w43s9.rd F.portAgetime ≠ 0) ∧
  (litBridgeForwardsInsideVlans7.seen + 1024 * w43s9.rd F.portAgetime ≤ w43s9.beatcnt) ∧
  (w43s10.live = true) ∧
  (w43s11.live = true) ∧ (vlanMixes w43s11 63 9251519598951333890 = true) ∧
  (w43s12.live = true) ∧ (vlanMixes w43s12 63 9251519598951333894 = false) := by
  and_intros <;> first | decide +kernel | exact q34 _ (by decide +kernel) (by decide +kernel)

def w44a1 : PtpMsg := {msg0 with clk := 7, port := 1}
def w44s1 : State := {ptpIn .track 1 9 with pt.admE := 64}
def w44a2 : PtpMsg := {msg0 with clk := 7, port := 1, sec := 99, corr := 65536}
def w44s2 : State := {put [(F.refEnable 5, 1), (F.ptpAsym 1, 20)] (ptpIn .track 1 9) with pt.admE := 63, pt.ports := [(1, {parent := some (7, 1), delays := [3, 5]})]}
def w44a3 : PtpMsg := {msg0 with clk := 7, port := 1, sec := 99, corr := 65536, twoStep := true}
def w44s4 : State := {ptpIn .track 1 9 with pt.admG := 32}
def w44a5 : PtpMsg := {msg0 with clk := 7, port := 1, sec := 99, corr := 65536, seq := 4}
def w44s5 : State := {ptpIn .track 1 9 with pt.admG := 31, pt.ports := [(1, {parent := some (7, 1), delays := [3, 5], sync := some ⟨4, 99 * 65536000000000 + 777, 3, 0⟩})]}
def w44a7 : PtpMsg := {msg0 with clk := 7, port := 1, reqClk := Config.clkid, reqPort := 2, seq := 4, sec := 1}
def w44s7 : State := {ptpIn .track 1 9 with pt.ports := [(1, {parent := some (7, 1), last := some (10, 30, 2), req := some ⟨4, 50, 0, 0⟩})]}
def w44s8 : State := {put [(F.ptpMech 1, 1)] (ptpIn .track 1 9) with pt.admE := 64}
def w44a9 : PtpMsg := {msg0 with clk := 7, port := 1, reqClk := Config.clkid, reqPort := 2, seq := 4, sec := 1, corr := 8}
def w44s9 : State := {put [(F.ptpMech 1, 1)] (ptpIn .track 1 9) with pt.ports := [(1, {req := some ⟨4, 50, 0, 0⟩})]}
def w44a10 : PtpMsg := {msg0 with clk := 7, port := 1, reqClk := Config.clkid, reqPort := 2, seq := 4, sec := 1, corr := 8, twoStep := true}
def w44s11 : State := {put [(F.ptpMech 1, 1)] (ptpIn .track 1 9) with pt.ports := [(1, {req := some ⟨4, 50, 0, 0⟩, resp := some ⟨4, 60, 70, 1⟩})]}
def w44a13 : PtpMsg := {msg0 with clk := Config.clkid + 1, port := 1}
def w44s13 : State := {put [(F.fabBeatcnt, 8)] up with pt.ports := [(1, {fup := some ⟨3, 4, 5, 7⟩})]}
def w44s14 : State := {ptpIn .track 1 9 with pt.admE := 3}
def w44s15 : State := {ptpIn .track 1 9 with en.eng := [(2, {reload := true, stopped := true})]}
def w44a16 : PtpMsg := {msg0 with clk := 7, port := 1, sec := 99, corr := 65536, seq := 4, twoStep := true}
def w44s16 : State := {put [(F.refEnable 5, 1), (F.ptpAsym 1, 20)] (ptpIn .track 1 9) with pt.admE := 63, pt.ports := [(1, {parent := some (7, 1), delays := [3, 5], fup := some ⟨4, 99 * 65536000000000 + 777, 3, 0⟩})]}
def w44s17 : State := {put [(F.ptpMech 1, 1)] (ptpIn .track 1 9) with pt.admG := 32}
abbrev litBudgetAndOffsetSamples1 : Half := { seq := 4, t := 99 * 65536000000000 + 777, corr := 3, beat := 0 : Half }
abbrev litBudgetAndOffsetSamples2 : PdResp := { seq := 4, t2 := 60, t4 := 70, corr := 1 : PdResp }
theorem witness_BudgetAndOffsetSamples :
  (ptpMine w44s1 1 w44a1 = true) ∧ (clkType w44s1 ≠ 3) ∧ (w44s1.pcRuns = false ∨ admits w44s1 true (syncClass w44s1 1 w44a1) 1 = false) ∧
  (ptpMine w44s2 1 w44a2 = true) ∧ (clkType w44s2 ≠ 3) ∧ (w44s2.pcRuns = true) ∧ (admits w44s2 true 1 1 = true) ∧
  (following w44s2 1 = true) ∧ (fromParent w44s2 1 w44a2 = true) ∧ ((w44s2.port 1).stalled = false) ∧ (w44a2.twoStep = false) ∧
  (pathDelay w44s2 1 = some 4) ∧
  (ptpMine w44s2 1 w44a3 = true) ∧ (clkType w44s2 ≠ 3) ∧ (w44s2.pcRuns = true) ∧ (admits w44s2 true 1 1 = true) ∧
  (following w44s2 1 = true) ∧ (fromParent w44s2 1 w44a3 = true) ∧ ((w44s2.port 1).stalled = false) ∧ (w44a3.twoStep = true) ∧
  (∀ (h : Half), (w44s2.ptp 1).fup = some h → h.seq ≠ 0) ∧
  (ptpMine w44s4 1 w44a1 = true) ∧ (clkType w44s4 ≠ 3) ∧
  (w44s4.pcRuns = false ∨ admits w44s4 false (syncClass w44s4 1 w44a1) 1 = false) ∧
  (ptpMine w44s5 1 w44a5 = true) ∧ (clkType w44s5 ≠ 3) ∧ (w44s5.pcRuns = true) ∧ (admits w44s5 false 1 1 = true) ∧
  (following w44s5 1 = true) ∧ (fromParent w44s5 1 w44a5 = true) ∧
  ((w44s5.ptp 1).sync = some litBudgetAndOffsetSamples1) ∧
  (litBudgetAndOffsetSamples1.seq = 4) ∧ (pathDelay w44s5 1 = some 4) ∧
  (ptpMine w44s4 1 w44a1 = true) ∧ (clkType w44s4 ≠ 3) ∧
  (w44s4.pcRuns = false ∨ admits w44s4 false (if (w44s4.rd (F.ptpMech 1) == 0 && answersUs w44s4 1 w44a1) = true then 2 else 4) 1 = false) ∧
  (ptpMine w44s7 1 w44a7 = true) ∧ (clkType w44s7 ≠ 3) ∧
  ((if (w44s7.rd (F.ptpMech 1) == 0 && answersUs w44s7 1 w44a7) = true then 2 else 4) = 2) ∧ (w44s7.pcRuns = true) ∧
  (admits w44s7 false 2 1 = true) ∧ ((w44s7.ptp 1).req = some { seq := 4, t := 50, corr := 0, beat := 0 : Half }) ∧
  ((w44s7.ptp 1).last = some (10, 30, 2)) ∧
  (ptpMine w44s8 1 w44a1 = true) ∧ (clkType w44s8 ≠ 3) ∧
  (w44s8.pcRuns = false ∨ admits w44s8 true (if (w44s8.rd (F.ptpMech 1) == 1 && answersUs w44s8 1 w44a1) = true then 2 else 4) 1 = false) ∧
  (ptpMine w44s9 1 w44a9 = true) ∧ (clkType w44s9 ≠ 3) ∧
  ((if (w44s9.rd (F.ptpMech 1) == 1 && answersUs w44s9 1 w44a9) = true then 2 else 4) = 2) ∧ (w44s9.pcRuns = true) ∧
  (admits w44s9 true 2 1 = true) ∧ ((w44s9.port 1).stalled = false) ∧
  ((w44s9.ptp 1).req = some { seq := 4, t := 50, corr := 0, beat := 0 : Half }) ∧ (w44a9.twoStep = false) ∧
  (ptpMine w44s9 1 w44a10 = true) ∧ (clkType w44s9 ≠ 3) ∧
  ((if (w44s9.rd (F.ptpMech 1) == 1 && answersUs w44s9 1 w44a10) = true then 2 else 4) = 2) ∧ (w44s9.pcRuns = true) ∧
  (admits w44s9 true 2 1 = true) ∧ ((w44s9.port 1).stalled = false) ∧
  ((w44s9.ptp 1).req = some { seq := 4, t := 50, corr := 0, beat := 0 : Half }) ∧ (w44a10.twoStep = true) ∧
  (ptpMine w44s11 1 w44a9 = true) ∧ (clkType w44s11 ≠ 3) ∧
  ((if (w44s11.rd (F.ptpMech 1) == 1 && answersUs w44s11 1 w44a9) = true then 2 else 4) = 2) ∧ (w44s11.pcRuns = true) ∧
  (admits w44s11 false 2 1 = true) ∧ ((w44s11.ptp 1).req = some { seq := 4, t := 50, corr := 0, beat := 0 : Half }) ∧
  ((w44s11.ptp 1).resp = some litBudgetAndOffsetSamples2) ∧
  (litBudgetAndOffsetSamples2.seq = 4) ∧
  (ptpMine w44s4 1 w44a1 = true) ∧ (clkType w44s4 ≠ 3) ∧ (w44s4.pcRuns = false ∨ admits w44s4 false 4 1 = false) ∧
  (ptpMine (ptpIn Mode.track 1 4) 1 w44a13 = true) ∧ (clkType (ptpIn Mode.track 1 4) ≠ 3) ∧ ((ptpIn Mode.track 1 4).pcRuns = true) ∧
  (admits (ptpIn Mode.track 1 4) false 4 1 = true) ∧ (w44a13.clk.toNat ≠ Config.clkid.toNat) ∧
  (w44s13.live = true) ∧ ((w44s13.ptp 1).fup = some { seq := 3, t := 4, corr := 5, beat := 7 : Half }) ∧
  ({ seq := 3, t := 4, corr := 5, beat := 7 : Half }.beat < w44s13.beatcnt) ∧
  (ptpMine w44s14 1 w44a1 = true) ∧ (clkType w44s14 ≠ 3) ∧ (w44s14.pcRuns = true) ∧ (syncClass w44s14 1 w44a1 = 4) ∧
  (admits w44s14 true 4 1 = true) ∧
  (ptpMine w44s15 1 w44a1 = true) ∧ (clkType w44s15 ≠ 3) ∧
  (w44s15.pcRuns = false ∨ admits w44s15 true (syncClass w44s15 1 w44a1) 1 = false) ∧
  (ptpMine w44s16 1 w44a16 = true) ∧ (clkType w44s16 ≠ 3) ∧ (w44s16.pcRuns = true) ∧ (admits w44s16 true 1 1 = true) ∧
  (following w44s16 1 = true) ∧ (fromParent w44s16 1 w44a16 = true) ∧ ((w44s16.port 1).stalled = false) ∧ (w44a16.twoStep = true) ∧
  ((w44s16.ptp 1).fup = some litBudgetAndOffsetSamples1) ∧
  (litBudgetAndOffsetSamples1.seq = 4) ∧ (pathDelay w44s16 1 = some 4) ∧
  (ptpMine w44s17 1 w44a1 = true) ∧ (clkType w44s17 ≠ 3) ∧
  (w44s17.pcRuns = false ∨ admits w44s17 false (if (w44s17.rd (F.ptpMech 1) == 1 && answersUs w44s17 1 w44a1) = true then 2 else 4) 1 = false) := by
  and_intros <;> first | decide +kernel | exact answersUs_of _ _ _ rfl (by decide +kernel) (by decide +kernel) | exact answersUs_not _ _ _ (by decide +kernel) | exact clk_ne | exact Or.inr (by split <;> decide +kernel) | exact Or.inl (by decide +kernel) | exact if_pos (by rw [answersUs_of _ _ _ rfl (by decide +kernel) (by decide +kernel)]; decide +kernel)

def w45s1 : State := {ptpIn .track 1 6 with po.ports := [(1, {queues := [(4, List.replicate 32 ⟨2, 5, 6, [], none, 0, 1, 0, 64, 2⟩)]})]}
def w45s2 : State := put [(F.ptpMech 1, 1), (F.ptpOnestep 1, 1)] (ptpIn .track 1 6)
def w45s3 : State := put [(F.ptpMech 1, 1), (F.ptpOnestep 1, 0)] (ptpIn .track 1 6)
def w45s4 : State := put [(F.ptpMech 2, 1), (F.ptpOnestep 2, 1)] (ptpIn .track 2 6)
def w45s5 : State := {ptpIn .track 1 6 with po.ports := [(1, {stalled := true})]}
def w45s6 : State := {put [(F.ptpOnestep 1, 1)] (ptpIn .track 1 6) with pt.ports := [(1, {seqSync := 65535})]}
def w45s7 : State := {put [(F.ptpOnestep 2, 1)] (ptpIn .track 2 6) with pt.ports := [(2, {seqSync := 65534})]}
def w45s8 : State := put [(F.ptpMech 1, 1)] (ptpIn .track 1 6)
def w45s9 : State := {put [(F.ptpClktype, 3), (F.ptpEn 2, 1), (F.portLink 2, 1)] (ptpIn .track 1 3) with po.ports := [(1, {stalled := true})]}
def w45s10 : State := {put [(F.ptpClktype, 3), (F.ptpEn 2, 1), (F.portLink 2, 1)] (ptpIn .track 1 3) with po.ports := []}
def w45s11 : State := {put [(F.ptpClktype, 4), (F.ptpEn 2, 1), (F.portLink 2, 1)] (ptpIn .track 1 3) with pt.ports := [(1, {link := some 40})]}
def w45s12 : State := {put [(F.ptpClktype, 3), (F.ptpEn 2, 1), (F.portLink 2, 1)] (ptpIn .track 1 3) with pt.ports := [(2, {tcTab := [⟨0, 0, 700, 0⟩]})]}
def w45s13 : State := put [(F.ptpClktype, 3), (F.ptpEn 2, 1), (F.portLink 2, 1)] (ptpIn .track 1 3)
def w45s15 : State := {put [(F.fabBeatcnt, 1030)] up with pt.ports := [(2, {tcHold := [([], 7), ([], 6)]})]}
def w45s16 : State := put [(F.ptpClktype, 3)] (ptpIn .track 1 6)
def w45s17 : State := {put [(F.ptpClktype, 3), (F.ptpEn 2, 1), (F.portLink 2, 1)] (ptpIn .track 1 3) with en.eng := [(2, {reload := true, stopped := true})]}
abbrev litPtpSendsAndCorrects1 : FrameIn := { bytes := List.replicate 64 1, fcsOk := true, ce := true, ue := true : FrameIn }
abbrev litPtpSendsAndCorrects2 : Resid := { src := 0, seq := 0, val := 700, beat := 0 : Resid }
theorem witness_PtpSendsAndCorrects :
  (ptpMine (ptpIn Mode.track 1 6) 1 w44a1 = true) ∧ (clkType (ptpIn Mode.track 1 6) ≠ 3) ∧ ((ptpIn Mode.track 1 6).pcRuns = true) ∧
  (pstate (ptpIn Mode.track 1 6) 1 = 6) ∧ (admits (ptpIn Mode.track 1 6) true 3 1 = true) ∧
  ((ptpIn Mode.track 1 6).rd (F.ptpMech 1) = 0) ∧ (ptpSends (ptpIn Mode.track 1 6) = true) ∧
  (((ptpIn Mode.track 1 6).port 1).stalled = false) ∧ (tqRoom (ptpIn Mode.track 1 6) 1 = true) ∧
  (ptpMine w45s1 1 w44a1 = true) ∧ (clkType w45s1 ≠ 3) ∧ (w45s1.pcRuns = true) ∧ (pstate w45s1 1 = 6) ∧
  (admits w45s1 true 3 1 = true) ∧ (w45s1.rd (F.ptpMech 1) = 0) ∧ (ptpSends w45s1 = true) ∧ ((w45s1.port 1).stalled = false) ∧
  (tqRoom w45s1 1 = false) ∧
  (ptpMine w45s2 1 w44a1 = true) ∧ (clkType w45s2 ≠ 3) ∧ (w45s2.pcRuns = true) ∧ (w45s2.rd (F.ptpMech 1) = 1) ∧
  (admits w45s2 true 3 1 = true) ∧ ((w45s2.port 1).stalled = false) ∧ (oneStepNow w45s2 1 true = true) ∧ (tqRoom w45s2 1 = true) ∧
  (ptpMine w45s3 1 w44a1 = true) ∧ (clkType w45s3 ≠ 3) ∧ (w45s3.pcRuns = true) ∧ (w45s3.rd (F.ptpMech 1) = 1) ∧
  (admits w45s3 true 3 1 = true) ∧ ((w45s3.port 1).stalled = false) ∧ (oneStepNow w45s3 1 true = false) ∧
  ((w45s3.queue 1 4).length < 31) ∧
  (ptpMine w45s4 2 w44a1 = true) ∧ (clkType w45s4 ≠ 3) ∧ (w45s4.pcRuns = true) ∧ (w45s4.rd (F.ptpMech 2) = 1) ∧
  (admits w45s4 true 3 2 = true) ∧ ((w45s4.port 2).stalled = false) ∧ (oneStepNow w45s4 2 true = false) ∧
  ((w45s4.queue 2 4).length < 31) ∧
  (ptpUp w45s5 1 = true) ∧ (clkType w45s5 < 3) ∧ (pstate w45s5 1 = 6) ∧ (ptpSends w45s5 = true) ∧
  ((sendDue w45s5 1 0 (w45s5.rdS (F.ptpLogsync 1)) || (w45s5.ptp 1).syncPend) = true) ∧ ((w45s5.port 1).stalled = true) ∧
  (ptpUp w45s6 1 = true) ∧ (clkType w45s6 < 3) ∧ (pstate w45s6 1 = 6) ∧ (ptpSends w45s6 = true) ∧
  ((sendDue w45s6 1 0 (w45s6.rdS (F.ptpLogsync 1)) || (w45s6.ptp 1).syncPend) = true) ∧ ((w45s6.port 1).stalled = false) ∧
  (oneStepNow w45s6 1 false = true) ∧ (tqRoom w45s6 1 = true) ∧
  (ptpUp w45s7 2 = true) ∧ (clkType w45s7 < 3) ∧ (pstate w45s7 2 = 6) ∧ (ptpSends w45s7 = true) ∧
  ((sendDue w45s7 2 0 (w45s7.rdS (F.ptpLogsync 2)) || (w45s7.ptp 2).syncPend) = true) ∧ ((w45s7.port 2).stalled = false) ∧
  (oneStepNow w45s7 2 true = false) ∧ ((w45s7.queue 2 4).length < 31) ∧
  (ptpUp (ptpIn Mode.track 1 6) 1 = true) ∧ (clkType (ptpIn Mode.track 1 6) < 3) ∧ (pstate (ptpIn Mode.track 1 6) 1 = 6) ∧
  (ptpSends (ptpIn Mode.track 1 6) = true) ∧
  (sendDue (ptpIn Mode.track 1 6) 1 11 ((ptpIn Mode.track 1 6).rdS (F.ptpLogann 1)) = true) ∧ (tqRoom (ptpIn Mode.track 1 6) 1 = true) ∧
  (ptpUp (ptpIn Mode.track 1 9) 1 = true) ∧ (sendDue (ptpIn Mode.track 1 9) 1 1 ((ptpIn Mode.track 1 9).rdS (F.ptpLogdreq 1)) = true) ∧
  (((ptpIn Mode.track 1 9).port 1).stalled = false) ∧ (tqRoom (ptpIn Mode.track 1 9) 1 = true) ∧
  ((ptpIn Mode.track 1 9).rd (F.ptpMech 1) = 0 ∧
  following (ptpIn Mode.track 1 9) 1 = true ∨ (ptpIn Mode.track 1 9).rd (F.ptpMech 1) = 1 ∧ clkType (ptpIn Mode.track 1 9) ≠ 3) ∧
  (ptpUp w45s8 1 = true) ∧ (sendDue w45s8 1 1 (w45s8.rdS (F.ptpLogdreq 1)) = true) ∧ ((w45s8.port 1).stalled = false) ∧
  (tqRoom w45s8 1 = true) ∧ (w45s8.rd (F.ptpMech 1) = 0 ∧ following w45s8 1 = true ∨ w45s8.rd (F.ptpMech 1) = 1 ∧ clkType w45s8 ≠ 3) ∧
  (3 ≤ clkType w45s9) ∧ (ptpUp w45s9 1 = true) ∧ (ptpUp w45s9 2 = true) ∧ (1 ≠ 2) ∧
  (clkType w45s9 = 4 → peerKind (msgKind (List.replicate 44 0)) = false) ∧
  ((w45s9.port 1).stalled = true ∨ (w45s9.port 2).stalled = true) ∧
  (3 ≤ clkType w45s10) ∧ (ptpUp w45s10 1 = true) ∧ (ptpUp w45s10 2 = true) ∧ (1 ≠ 2) ∧
  (clkType w45s10 = 4 → peerKind (msgKind (List.replicate 44 0)) = false) ∧ ((w45s10.port 1).stalled = false) ∧
  ((w45s10.port 2).stalled = false) ∧ (tqRoom w45s10 2 = true) ∧ (msgKind (List.replicate 44 0) = 0 ∧
  msgTwoStep (List.replicate 44 0) = false ∨ msgKind (List.replicate 44 0) = 1) ∧
  (tcValue w45s10 1 (msgKind (List.replicate 44 0)) 700 ≠ 0) ∧
  (3 ≤ clkType w45s11) ∧ (ptpUp w45s11 1 = true) ∧ (ptpUp w45s11 2 = true) ∧ (1 ≠ 2) ∧
  (clkType w45s11 = 4 → peerKind (msgKind ([0, 2, 0, 44, 0, 0, 2] ++ List.replicate 37 0)) = false) ∧
  ((w45s11.port 1).stalled = false) ∧ ((w45s11.port 2).stalled = false) ∧ (tqRoom w45s11 2 = true) ∧
  (msgKind ([0, 2, 0, 44, 0, 0, 2] ++ List.replicate 37 0) = 0) ∧ (msgTwoStep ([0, 2, 0, 44, 0, 0, 2] ++ List.replicate 37 0) = true) ∧
  ((w45s11.ptp 2).tcHold = []) ∧
  (3 ≤ clkType w45s12) ∧ (ptpUp w45s12 1 = true) ∧ (ptpUp w45s12 2 = true) ∧ (1 ≠ 2) ∧
  (clkType w45s12 = 4 → peerKind (msgKind ([8, 2, 0, 44, 0, 0, 0] ++ List.replicate 37 0)) = false) ∧
  ((w45s12.port 1).stalled = false) ∧ ((w45s12.port 2).stalled = false) ∧ (tqRoom w45s12 2 = true) ∧
  (msgKind ([8, 2, 0, 44, 0, 0, 0] ++ List.replicate 37 0) = 8) ∧
  ((w45s12.ptp 2).tcTab = [litPtpSendsAndCorrects2]) ∧
  (litPtpSendsAndCorrects2.src = msgSrc ([8, 2, 0, 44, 0, 0, 0] ++ List.replicate 37 0)) ∧
  (litPtpSendsAndCorrects2.seq = msgSeq ([8, 2, 0, 44, 0, 0, 0] ++ List.replicate 37 0)) ∧
  (litPtpSendsAndCorrects2.val ≠ 0) ∧
  (3 ≤ clkType w45s13) ∧ (ptpUp w45s13 1 = true) ∧ (ptpUp w45s13 2 = true) ∧ (1 ≠ 2) ∧
  (clkType w45s13 = 4 → peerKind (msgKind ([8, 2, 0, 44, 0, 0, 0] ++ List.replicate 37 0)) = false) ∧
  ((w45s13.port 1).stalled = false) ∧ ((w45s13.port 2).stalled = false) ∧ (tqRoom w45s13 2 = true) ∧
  (msgKind ([8, 2, 0, 44, 0, 0, 0] ++ List.replicate 37 0) = 8) ∧ ((w45s13.ptp 2).tcTab = []) ∧
  (3 ≤ clkType w45s13) ∧ (ptpUp w45s13 1 = true) ∧ (ptpUp w45s13 2 = true) ∧ (1 ≠ 2) ∧
  (clkType w45s13 = 4 → peerKind (msgKind ([2, 2, 0, 44, 0, 0, 0] ++ List.replicate 37 0)) = false) ∧
  ((w45s13.port 1).stalled = false) ∧ ((w45s13.port 2).stalled = false) ∧ (tqRoom w45s13 2 = true) ∧
  (1 < msgKind ([2, 2, 0, 44, 0, 0, 0] ++ List.replicate 37 0)) ∧ (msgKind ([2, 2, 0, 44, 0, 0, 0] ++ List.replicate 37 0) ≠ 8) ∧
  (w45s15.live = true) ∧ (((w45s15.ptp 2).tcHold.any fun r => decide (r.snd + 1024 ≤ w45s15.beatcnt)) = true) ∧
  (ptpHears (ptpIn Mode.track 1 6) 1 = true) ∧
  (ptpTakes (ptpIn Mode.track 1 6) 1 (parseFrame (List.take (litPtpSendsAndCorrects1.bytes.length - 4) litPtpSendsAndCorrects1.bytes)) = true) ∧
  (clkType (ptpIn Mode.track 1 6) < 3) ∧ ((ptpIn Mode.track 1 6).pcRuns = true) ∧ (admits (ptpIn Mode.track 1 6) false 4 1 = true) ∧
  (ptpHears w45s16 1 = true) ∧
  (ptpTakes w45s16 1 (parseFrame (List.take (litPtpSendsAndCorrects1.bytes.length - 4) litPtpSendsAndCorrects1.bytes)) = true) ∧
  (3 ≤ clkType w45s16) ∧
  (3 ≤ clkType w45s17) ∧ (ptpHears w45s17 1 = true) ∧ (ptpHears w45s17 2 = true) ∧ (1 ≠ 2) ∧ (w45s17.pcRuns = false) ∧
  (clkType w45s17 = 4 → peerKind (msgKind (List.replicate 44 0)) = false) ∧
  ((ptpIn Mode.track 1 6).live = true) ∧ ((ptpIn Mode.track 1 6).domOn 6 = true) ∧ ((ptpIn Mode.track 1 6).is (F.portLink 1) = true) ∧
  (ptpPort (ptpIn Mode.track 1 6) 1 = true) := by
  and_intros <;> first | decide +kernel

def w46s1 : State := {ptpIn .track 1 8 with pt.ports := [(1, {nsamp := 16})]}
def w46s2 : State := {put [(F.ptpArto 1, 3), (F.ptpLogann 1, 0)] (ptpIn .track 1 9) with pt.ports := [(1, {annAge := 3072, parent := some (7, 1)})]}
def w46s3 : State := {upIn .track with pt.dropPort := some 2, pt.ovRun := 8}
def w46s4 : State := {put [(F.ptpOvlive, 1)] (withRec .ptpOverload 1 1 up) with pt.clean := true}
def w46s5 : State := {put [(F.ptpEsmcen 1, 1), (F.ptpQltx 1, 4)] (ptpIn .track 1 9) with pt.ports := [(1, {esmcDue := true})]}
def w46s6 : State := {put [(F.ptpEsmcen 1, 1), (F.ptpQltx 1, 4)] (ptpIn .track 1 9) with pt.ports := [(1, {qlEvent := true})]}
def w46s7 : State := {put [(F.refQlrx 9, 4)] (ptpIn .track 1 9) with pt.ports := [(1, {qlAge := 5120})]}
theorem witness_PtpStatesOverloadAndEsmc :
  (w46s1.live = true) ∧ (pstate w46s1 1 = 8) ∧ (16 ≤ (w46s1.ptp 1).nsamp) ∧
  (ptpUp w46s2 1 = true) ∧ (following w46s2 1 = true) ∧ ((w46s2.ptp 1).annOut = false) ∧ (annTimeout w46s2 1 ≤ (w46s2.ptp 1).annAge) ∧
  (w46s3.live = true) ∧ (w46s3.pt.dropPort = some 2) ∧ (8 ≤ w46s3.pt.ovRun) ∧ (w46s3.is F.ptpOvlive = false) ∧
  (bit (w46s3.frec FC.ptpOverload).live 0 = false) ∧
  (w46s4.live = true) ∧ (w46s4.is F.ptpOvlive = true) ∧ (w46s4.pt.clean = true) ∧
  (esmcUp w46s5 1 = true) ∧ (tqRoom w46s5 1 = true) ∧ ((w46s5.ptp 1).esmcDue = true) ∧
  (esmcUp w46s6 1 = true) ∧ (tqRoom w46s6 1 = true) ∧ ((w46s6.ptp 1).qlEvent = true) ∧
  ((ptpIn Mode.track 1 9).live = true) ∧ ((ptpIn Mode.track 1 9).is (F.portLink 1) = true) ∧ ((ptpIn Mode.track 1 9).pcRuns = true) ∧
  (w46s7.live = true) ∧ (5120 ≤ (w46s7.ptp 1).qlAge) := by
  and_intros <;> first | decide +kernel

def w47s1 : State := {put [(F.ensLepen 1, 1), (F.portLink 1, 1)] (upIn .track) with es.due := true, es.seq := 65535}
def w47s2 : State := {put [(F.ensLepen 1, 1), (F.portLink 1, 1)] (upIn .track) with es.leave := 2}
def w47a1 : BeaconIn := {beacon0 with clk := Config.clkid}
def w47s3 : State := put [(F.ensLepen 1, 1), (F.portLink 1, 1)] (upIn .track)
def w47s4 : State := put [(F.ensLepen 1, 1), (F.portLink 1, 1), (F.ensRelay, 0)] (upIn .track)
def w47a2 : BeaconIn := {beacon0 with version := 0x20}
def w47a3 : BeaconIn := {beacon0 with hops := 4}
def w47s6 : State := {put [(F.ensLepen 1, 1), (F.portLink 1, 1), (F.ensRelay, 1), (F.ensHopmax, 4)] (upIn .track) with pt.admG := 32}
def w47a4 : BeaconIn := {beacon0 with hops := 3}
def w47s7 : State := {put [(F.ensLepen 1, 1), (F.portLink 1, 1), (F.ensRelay, 1), (F.ensHopmax, 4)] (upIn .track) with pt.admG := 32, es.relayed := [⟨lepSrc beacon0, 9, 0⟩]}
def w47s8 : State := {put [(F.ensLepen 0, 1), (F.portLink 0, 1), (F.ensLepen 1, 1), (F.portLink 1, 1), (F.ensRelay, 1), (F.ensHopmax, 4)] (upIn .track) with pt.admG := 32}
def w47s9 : State := {put [(F.ensPstate 15, 1), (F.ensPqual, 3)] up with es.peers := [(15, {run := 3})]}
def w47s10 : State := {put [(F.ensPstate 15, 2)] up with es.peers := [(15, {bad := 2})]}
def w47s11 : State := put [(F.ensPstate 15, 2), (F.ensPlost, 4), (F.ensAge 15, 4)] up
def w47s12 : State := put [(F.ensPstate 15, 1), (F.ensPlost, 4), (F.ensAge 15, 4)] up
def w47s13 : State := {put [(F.ensPstate 15, 3), (F.ensClockid 15, 7)] (withRec .digestMismatch 1 0x8000 up) with es.peers := [(15, {quiet := 3686400})]}
def w47s14 : State := {put [(F.ensPstate 15, 4), (F.ensClockid 15, 7)] up with es.peers := [(15, {quiet := 3686400})]}
def w47s15 : State := {put [(F.dSelref, 10), (F.ensConsoff, 6553600), (F.servoGwin, 100), (F.dThresh, 1000)] (withRec .ensWide 1 1 (upIn .ensemble)) with es.newIv := true}
def w47s16 : State := {put [(F.dSelref, 10), (F.ensConsoff, 6553601), (F.servoGwin, 100), (F.dThresh, 1000)] (upIn .ensemble) with es.newIv := true}
def w47s17 : State := {put [(F.dSelref, 10), (F.ensConsoff, 65536001), (F.servoGwin, 100), (F.dThresh, 1000)] (upIn .ensemble) with es.newIv := true}
def w47s18 : State := {put [(F.ensLepen 1, 1), (F.portLink 1, 1)] (upIn .track) with en.eng := [(2, {reload := true, stopped := true})]}
theorem witness_EnsemblePeersAndSamples :
  (lepPort w47s1 (1 - 1) = false) ∧ (tqRoom w47s1 1 = true) ∧ (w47s1.live = true) ∧ (w47s1.es.due = true) ∧ (ptpSends w47s1 = true) ∧
  (lepPort w47s1 1 = true) ∧ (gossipRuns w47s1 = true) ∧
  (lepPort w47s2 (1 - 1) = false) ∧ (tqRoom w47s2 1 = true) ∧ (w47s2.powered = true) ∧ (w47s2.es.leave = 2 ^ 1) ∧
  (w47s2.is (F.portLink 1) = true) ∧ (portIsol w47s2 1 = false) ∧ (w47s2.pcRuns = true) ∧
  (lepRxOn w47s3 1 = true) ∧ (w47s3.pcRuns = true) ∧ (lepOwn w47a1 = true) ∧
  (lepRxOn w47s4 1 = true) ∧ (w47s4.pcRuns = true) ∧ (lepOwn beacon0 = false) ∧ (w47s4.is F.ensRelay = false) ∧
  (admits w47s4 false 4 1 = true) ∧ (16 / 16 = 1) ∧
  (lepRxOn w47s4 1 = true) ∧ (w47s4.pcRuns = true) ∧ (lepOwn w47a2 = false) ∧ (w47s4.is F.ensRelay = false) ∧
  (admits w47s4 false 4 1 = true) ∧ (32 / 16 ≠ 1) ∧
  (lepRxOn w47s6 1 = true) ∧ (w47s6.pcRuns = true) ∧ (lepOwn w47a3 = false) ∧ (w47s6.is F.ensRelay = true) ∧
  (admits w47s6 false 4 1 = false) ∧ (w47s6.rd F.ensHopmax < 4 + 1) ∧
  (lepRxOn w47s7 1 = true) ∧ (w47s7.pcRuns = true) ∧ (lepOwn w47a4 = false) ∧ (w47s7.is F.ensRelay = true) ∧
  (admits w47s7 false 4 1 = false) ∧ (3 + 1 ≤ w47s7.rd F.ensHopmax) ∧ (lepDup w47s7 w47a4 = true) ∧
  (lepRxOn w47s8 1 = true) ∧ (w47s8.pcRuns = true) ∧ (lepOwn w47a4 = false) ∧ (w47s8.is F.ensRelay = true) ∧
  (admits w47s8 false 4 1 = false) ∧ (3 + 1 ≤ w47s8.rd F.ensHopmax) ∧ (lepDup w47s8 w47a4 = false) ∧
  (w47s8.is (F.ensLepen (1 - 1)) = true) ∧ (w47s8.is (F.portLink (1 - 1)) = true) ∧ ((w47s8.port 1).stalled = false) ∧
  ((w47s8.port (1 - 1)).stalled = false) ∧ (tqRoom w47s8 (1 - 1) = true) ∧
  (ensRuns w47s9 = true) ∧ (peerState w47s9 15 = 1) ∧ (w47s9.rd F.ensPqual ≤ (w47s9.peer 15).run) ∧
  (ensRuns w47s10 = true) ∧ (peerState w47s10 15 = 2) ∧ (2 ≤ (w47s10.peer 15).bad) ∧
  (ensRuns w47s11 = true) ∧ (peerState w47s11 15 = 1 ∨ peerState w47s11 15 = 2) ∧ (w47s11.rd F.ensPlost ≤ w47s11.rd (F.ensAge 15)) ∧
  (ensRuns w47s12 = true) ∧ (peerState w47s12 15 = 1 ∨ peerState w47s12 15 = 2) ∧ (w47s12.rd F.ensPlost ≤ w47s12.rd (F.ensAge 15)) ∧
  (ensRuns w47s13 = true) ∧ (peerState w47s13 15 = 3 ∨ peerState w47s13 15 = 4) ∧ (3686400 ≤ (w47s13.peer 15).quiet) ∧
  (ensRuns w47s14 = true) ∧ (peerState w47s14 15 = 3 ∨ peerState w47s14 15 = 4) ∧ (3686400 ≤ (w47s14.peer 15).quiet) ∧
  (servoRuns w47s15 = true) ∧ (follows w47s15 = true) ∧ (w47s15.es.newIv = true) ∧ (inputRef w47s15 = 10) ∧
  (w47s15.is F.dGrafting = false) ∧ ((w47s15.rdS F.ensConsoff).natAbs ≤ nsU (w47s15.rd F.dThresh)) ∧
  (¬nsU (graftWindow w47s15) < (w47s15.rdS F.ensConsoff - w47s15.rdS F.servoSlewrem).natAbs) ∧
  (servoRuns w47s16 = true) ∧ (follows w47s16 = true) ∧ (w47s16.es.newIv = true) ∧ (inputRef w47s16 = 10) ∧
  (w47s16.is F.dGrafting = false) ∧ ((w47s16.rdS F.ensConsoff).natAbs ≤ nsU (w47s16.rd F.dThresh)) ∧
  (nsU (graftWindow w47s16) < (w47s16.rdS F.ensConsoff - w47s16.rdS F.servoSlewrem).natAbs) ∧
  (servoRuns w47s17 = true) ∧ (follows w47s17 = true) ∧ (w47s17.es.newIv = true) ∧ (inputRef w47s17 = 10) ∧
  (w47s17.is F.dGrafting = false) ∧ (nsU (w47s17.rd F.dThresh) < (w47s17.rdS F.ensConsoff).natAbs) ∧
  (bit (w47s17.frec FC.ensWide).live 0 = false) ∧
  (lepRxOn w47s18 1 = true) ∧ (w47s18.pcRuns = false) ∧ (lepOwn beacon0 = false) := by
  and_intros <;> first | decide +kernel | (simp [lepOwn, w47a1, w47a2, w47a3, w47a4, w47a4, beacon0]; done) | exact dup_beacon _ _ beacon0 rfl rfl rfl rfl (by decide +kernel)

def w48s1 : State := put [(F.bramCen 30, 2^32)] (upIn .track)
def w48s2 : State := {put [(F.bramPen 30, 2^40), (F.bramCen 30, 2^32)] (upIn .track) with br.due := 2^40}
def w48s3 : State := {put [(F.bramCen 30, 2^32)] (upIn .track) with br.fifos := [(0, List.replicate 16 5)]}
def w48s4 : State := put [(F.bramCen 30, 2^38)] (upIn .dormant)
def w48s5 : State := {upIn .track with br.lastDel := [(31, 10)]}
def w48s6 : State := {upIn .track with br.lastDel := [(31, 10)], tn.own := [(159, 2)]}
def w48s7 : State := {upIn .track with br.fifos := [(4, [5, 6])]}
def w48s8 : State := {put [(F.bramAlarmok, 8), (F.bramCen 31, 2^38), (F.bramCen 30, 2^38)] (upIn .track) with tn.own := [(159, 4)]}
theorem witness_BrambleCarriesEvents :
  (w48s1.live = true) ∧ (w48s1.domOn 5 = true) ∧ (w48s1.owner 2 30 = 0) ∧ (Instr.brambleFire 0 30 9 5 = Instr.brambleFire 0 30 9 5 ∧
  w48s1.br.lastDel.get? 30 ≠ some (9 + 1) ∨ ∃ p, 32 ≤ ↑p ∧ Instr.brambleFire 0 30 9 5 = Instr.brambleEvent (BitVec.twoPow 48 ↑p) 9 5 ∧
  bit w48s1.br.due ↑p = true ∧ w48s1.br.lastDel.get? 30 ≠ some 9 ∧ w48s1.rd (F.bramPath 30) = 0 ∧
  ∀ (d : Fin 32), bit (w48s1.rd (F.bramPen ↑d)) ↑p = decide (d = 30)) ∧ (cenView w48s1 30 = 2 ^ 32) ∧ ((w48s1.fifo 0).length < 16) ∧
  (w48s2.live = true) ∧ (w48s2.domOn 5 = true) ∧ (w48s2.owner 2 30 = 0) ∧
  (Instr.brambleEvent (BitVec.twoPow 48 40) 9 5 = Instr.brambleFire 0 30 9 5 ∧ w48s2.br.lastDel.get? 30 ≠ some (9 + 1) ∨ ∃ p, 32 ≤ ↑p ∧
  Instr.brambleEvent (BitVec.twoPow 48 40) 9 5 = Instr.brambleEvent (BitVec.twoPow 48 ↑p) 9 5 ∧ bit w48s2.br.due ↑p = true ∧
  w48s2.br.lastDel.get? 30 ≠ some 9 ∧ w48s2.rd (F.bramPath 30) = 0 ∧
  ∀ (d : Fin 32), bit (w48s2.rd (F.bramPen ↑d)) ↑p = decide (d = 30)) ∧ (cenView w48s2 30 = 2 ^ 32) ∧ ((w48s2.fifo 0).length < 16) ∧
  (w48s3.live = true) ∧ (w48s3.domOn 5 = true) ∧ (w48s3.owner 2 30 = 0) ∧ (Instr.brambleFire 0 30 9 5 = Instr.brambleFire 0 30 9 5 ∧
  w48s3.br.lastDel.get? 30 ≠ some (9 + 1) ∨ ∃ p, 32 ≤ ↑p ∧ Instr.brambleFire 0 30 9 5 = Instr.brambleEvent (BitVec.twoPow 48 ↑p) 9 5 ∧
  bit w48s3.br.due ↑p = true ∧ w48s3.br.lastDel.get? 30 ≠ some 9 ∧ w48s3.rd (F.bramPath 30) = 0 ∧
  ∀ (d : Fin 32), bit (w48s3.rd (F.bramPen ↑d)) ↑p = decide (d = 30)) ∧ (cenView w48s3 30 = 2 ^ 32) ∧ (16 ≤ (w48s3.fifo 0).length) ∧
  (w48s4.live = true) ∧ (w48s4.domOn 5 = true) ∧ (w48s4.owner 2 30 = 0) ∧ (Instr.brambleFire 0 30 9 5 = Instr.brambleFire 0 30 9 5 ∧
  w48s4.br.lastDel.get? 30 ≠ some (9 + 1) ∨ ∃ p, 32 ≤ ↑p ∧ Instr.brambleFire 0 30 9 5 = Instr.brambleEvent (BitVec.twoPow 48 ↑p) 9 5 ∧
  bit w48s4.br.due ↑p = true ∧ w48s4.br.lastDel.get? 30 ≠ some 9 ∧ w48s4.rd (F.bramPath 30) = 0 ∧
  ∀ (d : Fin 32), bit (w48s4.rd (F.bramPen ↑d)) ↑p = decide (d = 30)) ∧ (cenView w48s4 30 = 2 ^ 38) ∧ (w48s4.mode = Mode.dormant) ∧
  ((upIn Mode.track).live = true) ∧ ((upIn Mode.track).domOn 5 = true) ∧ ((upIn Mode.track).owner 2 30 = 0) ∧
  (Instr.brambleFire 0 30 9 5 = Instr.brambleFire 0 30 9 5 ∧ (upIn Mode.track).br.lastDel.get? 30 ≠ some (9 + 1) ∨ ∃ p, 32 ≤ ↑p ∧
  Instr.brambleFire 0 30 9 5 = Instr.brambleEvent (BitVec.twoPow 48 ↑p) 9 5 ∧ bit (upIn Mode.track).br.due ↑p = true ∧
  (upIn Mode.track).br.lastDel.get? 30 ≠ some 9 ∧ (upIn Mode.track).rd (F.bramPath 30) = 0 ∧
  ∀ (d : Fin 32), bit ((upIn Mode.track).rd (F.bramPen ↑d)) ↑p = decide (d = 30)) ∧ (cenView (upIn Mode.track) 30 = 0) ∧
  (w48s5.live = true) ∧ (w48s5.domOn 5 = true) ∧ (w48s5.owner 2 31 = 0) ∧ (w48s5.br.lastDel.get? 31 = some (9 + 1)) ∧
  (w48s6.live = true) ∧ (w48s6.domOn 5 = true) ∧ (w48s6.owner 2 31 = 2) ∧ (w48s6.br.lastDel.get? 31 = some (9 + 1)) ∧
  ((upIn Mode.track).live = true) ∧ ((upIn Mode.track).domOn 5 = true) ∧ ((upIn Mode.track).owner 2 31 ≠ 2) ∧
  (w48s7.live = true) ∧ (w48s7.pw.auxLow = false) ∧
  ((upIn Mode.track).live = true) ∧ ((upIn Mode.track).pw.auxLow = false) ∧
  (w48s8.live = true) ∧
  (w41s13.live = true) ∧ (w41s13.pw.auxLow = true) ∧
  (w41s13.live = true) ∧ (w41s13.pw.auxLow = true) := by
  and_intros <;> first | decide +kernel | exact Or.inl ⟨rfl, by decide +kernel⟩ | exact Or.inr ⟨40, by decide +kernel⟩

def w49s1 : State := linked 3 {}
def w49s2 : State := {linked 3 {queue := [⟨1, [1]⟩]} with pw.auxLow := true}
def w49s3 : State := linked 4 {queue := [⟨1, [1, 2]⟩, ⟨3, [4]⟩], sticky := 8}
def w49s4 : State := {linked 4 {queue := [⟨1, [1, 2]⟩, ⟨3, [4]⟩], sticky := 8} with phase := .boot}
def w49s5 : State := linked 0 {frame := true}
def w49s6 : State := linked 4 {frame := true}
def w49s9 : State := linked 3 {frame := true}
def w49s12 : State := linked 3 {frame := true, bursts := List.replicate 15 0}
def w49s13 : State := linked 3 {due := [⟨1, [7]⟩], queue := List.replicate 3 ⟨1, []⟩}
def w49s14 : State := linked 3 {due := [⟨1, [7]⟩], queue := List.replicate 4 ⟨1, []⟩}
theorem witness_LinkFrames :
  (linkServed w49s1 3 = true) ∧ ((w49s1.link 3).frame = false) ∧ (linkWiping w49s1 3 = false) ∧ (w49s1.pw.auxLow = false) ∧
  (w49s1.live = true) ∧
  (linkServed w49s2 3 = true) ∧ ((w49s2.link 3).frame = false) ∧ (linkWiping w49s2 3 = false) ∧
  (w49s2.pw.auxLow = true ∨ w49s2.live = false) ∧
  (linkServed w49s3 4 = true) ∧ ((w49s3.link 4).frame = false) ∧ (linkWiping w49s3 4 = false) ∧ (w49s3.pw.auxLow = false) ∧
  (w49s3.live = true) ∧
  (linkServed w49s4 4 = true) ∧ ((w49s4.link 4).frame = false) ∧ (linkWiping w49s4 4 = false) ∧
  (w49s4.pw.auxLow = true ∨ w49s4.live = false) ∧
  (frameOpen w49s5 0 = true) ∧ (judgeFrame [65, 0, 1, 15, 1, 111] 0 = Judged.read 4 271 1) ∧
  (frameOpen w49s6 4 = true) ∧ (judgeFrame [34, 0, 0, 0, 1, 171, 205, 218] 0 = Judged.write 2 0 [43981]) ∧
  (frameOpen w49s5 0 = true) ∧ (judgeFrame [0, 0, 0, 0, 0, 178] 0 = Judged.nop) ∧
  (frameOpen w49s5 0 = true) ∧ (judgeFrame [0, 0, 0, 0, 0, 178] 0 = Judged.nop) ∧ (0 ≠ 4) ∧
  (frameOpen w49s9 3 = true) ∧ (w49s9.live = true) ∧ (judgeFrame [145, 0, 1, 0, 1, 205] 0 = Judged.read 9 256 1) ∧
  (frameOpen w49s9 3 = true) ∧ (judgeFrame [65, 0, 1, 15, 1, 111] 5 = Judged.framing ∧ linkFramecnt 3 = linkFramecnt 3 ∧
  3 = 3 ∨ judgeFrame [65, 0, 1, 15, 1, 111] 5 = Judged.abort ∧ linkFramecnt 3 = linkAbortcnt 3 ∧
  3 = 4 ∨ judgeFrame [65, 0, 1, 15, 1, 111] 5 = Judged.crc ∧ linkFramecnt 3 = linkCrccnt 3 ∧ 3 = 5) ∧
  (frameOpen w49s9 3 = true) ∧ (judgeFrame [65, 0, 1, 15, 1] 0 = Judged.framing ∧ linkAbortcnt 3 = linkFramecnt 3 ∧
  4 = 3 ∨ judgeFrame [65, 0, 1, 15, 1] 0 = Judged.abort ∧ linkAbortcnt 3 = linkAbortcnt 3 ∧
  4 = 4 ∨ judgeFrame [65, 0, 1, 15, 1] 0 = Judged.crc ∧ linkAbortcnt 3 = linkCrccnt 3 ∧ 4 = 5) ∧
  (frameOpen w49s12 3 = true) ∧ (judgeFrame [65, 0, 1, 15, 1, 110] 0 = Judged.framing ∧ linkCrccnt 3 = linkFramecnt 3 ∧
  5 = 3 ∨ judgeFrame [65, 0, 1, 15, 1, 110] 0 = Judged.abort ∧ linkCrccnt 3 = linkAbortcnt 3 ∧
  5 = 4 ∨ judgeFrame [65, 0, 1, 15, 1, 110] 0 = Judged.crc ∧ linkCrccnt 3 = linkCrccnt 3 ∧ 5 = 5) ∧
  (linkServed w49s13 3 = true) ∧ ((w49s13.link 3).due = [{ status := 1, bytes := [7] : Rsp }]) ∧ ((w49s13.link 3).queue.length < 4) ∧
  (linkServed w49s14 3 = true) ∧ ((w49s14.link 3).due = [{ status := 1, bytes := [7] : Rsp }]) ∧ (4 ≤ (w49s14.link 3).queue.length) := by
  and_intros <;> first | decide +kernel

def w50s1 : State := {put [(F.tenPipmask 0, 3), (F.tenPipmask 1, 2), (F.tenChanmask 3, 2^31), (F.tenDcap 2, 4), (F.tenCapmask 3, 4)] up with tn.own := [(5, 1)]}
def w50s2 : State := {up with en.restart := some 0}
def w50s3 : State := {linked 1 {queue := [⟨1, []⟩], frame := true} with st.seq := 0}
theorem witness_AllocationFollowsTheWords :
  (w50s1.live = true) ∧ (w50s1.tm.running = true) ∧ (w50s1.en.restart = none) ∧ (w50s1.bus.staging = []) ∧
  (w50s2.en.restart ≠ none) ∧
  (w50s3.live = true) := by
  and_intros <;> first | decide +kernel

def w51s2 : State := {linked 3 {} with st.txns := [(4, [(0x40000, 7)])]}
def w51s5 : State := {put [(F.fabBeatcnt, 614399)] (linked 3 {}) with st.txns := [(4, [(0x40000, 7)])], st.tcAt := [(4, 0)]}
def w51s6 : State := {up with st.tcom := [(4, [⟨9, 0⟩])]}
def w51s7 : State := {up with st.tcom := [(4, [⟨9, 3⟩, ⟨2, 0⟩])]}
def w51s8 : State := {up with st.serial := 1, st.commits := [(0, ⟨0, 1⟩)], st.journal := [(0, ⟨1, false, [(5, 6)]⟩)]}
def w51s9 : State := {up with st.serial := 1, st.commits := [(4, ⟨256, 1⟩)], st.journal := [(256, ⟨1, false, [(0x40000, 6)]⟩)], st.store := some { why := .sched, bankB := true, jser := 0, img := {}, again := false}}
def w51s11 : State := {put [(F.tvStLoghead 3, 2047)] (linked 3 {}) with st.logs := [(4, [63])]}
def w51s12 : State := {linked 3 {} with pw.pf := .storing, st.txns := [(4, [(0x40000, 7)])]}
theorem witness_TransactionsAndCommits :
  (linkOpen w49s1 3 = true) ∧ (w49s1.pw.pf = PfStage.none) ∧ (w49s1.txn (3 + 1) = none) ∧
  (linkOpen w51s2 3 = true) ∧ (w51s2.pw.pf = PfStage.none) ∧ (w51s2.txn (3 + 1) = some [(262144, 7)]) ∧
  (linkOpen w51s2 3 = true) ∧ (w51s2.pw.pf = PfStage.none) ∧ (w51s2.txn (3 + 1) = some [(262144, 7)]) ∧
  (linkOpen w51s2 3 = true) ∧ (w51s2.pw.pf = PfStage.none) ∧ (w51s2.txn (3 + 1) = some [(262144, 7)]) ∧
  (linkOpen w51s5 3 = true) ∧ (w51s5.pw.pf = PfStage.none) ∧ (w51s5.txn (3 + 1) = some [(262144, 7)]) ∧
  (w51s6.powered = true) ∧ (w51s6.st.tcom.getD (3 + 1) [] = [{ beats := 9 : TCommit }]) ∧ (9 ≤ { beats := 9 : TCommit }.beats) ∧
  (w51s7.powered = true) ∧ (w51s7.st.tcom.getD (3 + 1) [] = [{ beats := 9, reason := 3 : TCommit }, { beats := 2 : TCommit }]) ∧
  (9 ≤ { beats := 9, reason := 3 : TCommit }.beats) ∧
  (w51s8.powered = true) ∧ (w51s8.st.commits.get? 0 = some { slot := 0, serial := 1 : Commit }) ∧
  (w51s8.st.journal.get? { slot := 0, serial := 1 : Commit }.slot = some { serial := 1, isSealed := false, words := [(5, 6)] : JEntry }) ∧
  (w51s9.powered = true) ∧ (w51s9.st.commits.get? 4 = some { slot := 256, serial := 1 : Commit }) ∧
  (w51s9.st.journal.get? { slot := 256, serial := 1 : Commit }.slot = some { serial := 1, isSealed := false, words := [(262144, 6)] : JEntry }) ∧
  (linkOpen w49s1 3 = true) ∧ (logOf w49s1 3 = []) ∧
  (linkOpen w51s11 3 = true) ∧ (w51s11.st.store = none) ∧
  (blockWord (logOf w51s11 3) (w51s11.rd (F.tvStLoghead 3)) = some (262144 + 63 * 2048 + 2047)) ∧
  (linkOpen w51s12 3 = true) ∧ (w51s12.pw.pf ≠ PfStage.none) := by
  and_intros <;> first | decide +kernel

def w52a1 : StoreRun := ⟨.sched, true, 3, {}, false⟩
def w52s1 : State := {up with st.store := some ⟨.sched, true, 3, {}, false⟩, st.hold := [.words [(5, 6)]], st.defer := [.words [(6, 6)]], st.journal := [(0, ⟨3, true, []⟩), (1, ⟨4, true, []⟩), (2, ⟨2, false, []⟩)]}
def w52a2 : StoreRun := ⟨.cmd, false, 3, {}, false⟩
def w52s2 : State := {up with st.store := some ⟨.cmd, false, 3, {}, false⟩, bus.cmd := some ⟨1, 0, true⟩}
def w52a3 : StoreRun := ⟨.resumed, false, 3, {}, false⟩
def w52s3 : State := {up with st.store := some ⟨.resumed, false, 3, {}, false⟩}
def w52s4 : State := {up with st.store := some ⟨.sched, true, 3, {}, false⟩}
def w52a5 : StoreRun := ⟨.sched, true, 3, {}, true⟩
def w52s5 : State := {up with st.store := some ⟨.sched, true, 3, {}, true⟩}
def w52s6 : State := {up with tm.now := 10800 * unitsPerSec}
def w52s7 : State := {up with tm.now := 10800 * unitsPerSec, st.store := some ⟨.sched, true, 3, {}, true⟩}
def w52s8 : State := {up with st.tallyQ := [(18, 2), (3, 1)]}
def w52s9 : State := {up with st.tallyQ := [(18, 1), (3, 1)], st.tallies := [(18, {base := 4294967295})]}
theorem witness_StoresAndTallies :
  (w52s1.powered = true) ∧ (w52s1.st.store = some w52a1) ∧ (w52a1.why = StoreWhy.sched) ∧
  (w52s2.powered = true) ∧ (w52s2.st.store = some w52a2) ∧ (w52a2.why = StoreWhy.cmd) ∧
  (w52s2.bus.cmd = some { code := 1, arg := 0, started := true : CmdRun }) ∧
  (w52s3.powered = true) ∧ (w52s3.st.store = some w52a3) ∧ (w52a3.why = StoreWhy.resumed) ∧
  (w52s4.powered = true) ∧ (w52s4.st.store = some w52a1) ∧ (w52a1.again = false) ∧
  (w52s5.powered = true) ∧ (w52s5.st.store = some w52a5) ∧ (w52a5.again = true) ∧ (w52s5.bus.cmd = none) ∧ (w52s5.tn.wipe = none) ∧
  (w52s6.live = true) ∧ (w52s6.tm.running = true) ∧ (w52s6.sec % 21600 = 10800) ∧ (w52s6.st.sched ≠ some w52s6.sec) ∧
  (w52s6.stoneIsol = false) ∧
  (w52s7.live = true) ∧ (w52s7.tm.running = true) ∧ (w52s7.sec % 21600 = 10800) ∧ (w52s7.st.sched ≠ some w52s7.sec) ∧
  (w52s7.stoneIsol = false) ∧
  (up.live = true) ∧ (18 ≤ 18) ∧
  (up.live = true) ∧ (17 < 18) ∧
  (w52s8.powered = true) ∧ (w52s8.stoneIsol = false) ∧ (w52s8.st.tallyQ = [(18, 2), (3, 1)]) ∧
  (w52s9.powered = true) ∧ (w52s9.stoneIsol = false) ∧ (w52s9.st.tallyQ = [(18, 1), (3, 1)]) := by
  and_intros <;> first | decide +kernel

def w53s1 : State := {upIn .track with ca.due := true}
def w53s2 : State := {upIn .track with ca.due := true, ca.run := some ⟨5, [0x20], 0, none, 0⟩}
def w53s3 : State := {put [(F.calThroff 3, 0), (F.calSkew 7, 0)] (upIn .track) with ca.run := some ⟨5, [0x13, 0x20], 32, none, 0⟩}
def w53s5 : State := {put [(F.calThroff 3, 0), (F.calSkew 7, 0)] (upIn .track) with ca.run := some ⟨5, [0x47], 8, none, 0⟩}
def w53s6 : State := {upIn .track with ca.run := some ⟨5, [0x35, 0x40], 17, none, 0⟩}
def w53s8 : State := {upIn .track with ca.run := some ⟨5, [], 0, none, 0⟩}
def w53s9 : State := {upIn .track with ca.run := some ⟨5, [], 0, some (2, 0x13), 0⟩}
def w53s10 : State := {upIn .track with ca.run := some ⟨5, [0x47], 0, none, 0⟩}
def w53s12 : State := {upIn .track with ca.run := some ⟨5, [1, 0x40], 64, none, 0⟩}
abbrev litCalibrationRunsAndWrites1 : CalRun := { kind := 5, items := [], rej := some (2, 19) : CalRun }
abbrev litCalibrationRunsAndWrites2 : CalRun := { kind := 5, items := [19, 32], beats := 32 : CalRun }
abbrev litCalibrationRunsAndWrites3 : CalRun := { kind := 5, items := [53, 64], beats := 17 : CalRun }
abbrev litCalibrationRunsAndWrites4 : CalRun := { kind := 5, items := [1, 64], beats := 64 : CalRun }
theorem witness_CalibrationRunsAndWrites :
  (w53s1.ca.due = true) ∧ (calMay w53s1 = true) ∧ (w53s1.ca.run = none) ∧
  (w53s2.ca.due = true) ∧ (calMay w53s2 = true) ∧ (w53s2.ca.run = some { kind := 5, items := [32] : CalRun }) ∧
  (w53s3.powered = true) ∧ (w53s3.ca.run = some litCalibrationRunsAndWrites2) ∧
  (litCalibrationRunsAndWrites2.items = [19, 32]) ∧
  (itemBeats 19 ≤ litCalibrationRunsAndWrites2.beats) ∧ (3 < 4 ∧ 19 = 16 + 3 ∧
  F.calThroff 3 = F.calThroff 3 ∧ F.calOriginThr = F.calOriginThr ∧ true = okThr (w53s3.rdS (F.calThroff 3)) 10 ∨ 3 < 8 ∧ 19 = 64 + 3 ∧
  F.calThroff 3 = F.calSkew 3 ∧ F.calOriginThr = F.calOriginSkew ∧ true = okSkew (↑(w53s3.rd (F.calSkew 3))) 10) ∧
  (w53s3.powered = true) ∧ (w53s3.ca.run = some litCalibrationRunsAndWrites2) ∧
  (litCalibrationRunsAndWrites2.items = [19, 32]) ∧
  (itemBeats 19 ≤ litCalibrationRunsAndWrites2.beats) ∧ (3 < 4 ∧ 19 = 16 + 3 ∧
  F.calThroff 3 = F.calThroff 3 ∧ F.calOriginThr = F.calOriginThr ∧ false = okThr (w53s3.rdS (F.calThroff 3)) 11 ∨ 3 < 8 ∧
  19 = 64 + 3 ∧ F.calThroff 3 = F.calSkew 3 ∧ F.calOriginThr = F.calOriginSkew ∧ false = okSkew (↑(w53s3.rd (F.calSkew 3))) 11) ∧
  (w53s5.powered = true) ∧ (w53s5.ca.run = some { kind := 5, items := [71], beats := 8 : CalRun }) ∧
  ({ kind := 5, items := [71], beats := 8 : CalRun }.items = [71]) ∧
  (itemBeats 71 ≤ { kind := 5, items := [71], beats := 8 : CalRun }.beats) ∧ (7 < 4 ∧ 71 = 16 + 7 ∧ F.calSkew 7 = F.calThroff 7 ∧
  F.calOriginSkew = F.calOriginThr ∧ true = okThr (w53s5.rdS (F.calThroff 7)) 8 ∨ 7 < 8 ∧ 71 = 64 + 7 ∧ F.calSkew 7 = F.calSkew 7 ∧
  F.calOriginSkew = F.calOriginSkew ∧ true = okSkew (↑(w53s5.rd (F.calSkew 7))) 8) ∧
  (w53s6.powered = true) ∧ (w53s6.ca.run = some litCalibrationRunsAndWrites3) ∧
  (litCalibrationRunsAndWrites3.items = [53, 64]) ∧
  (itemBeats 53 ≤ litCalibrationRunsAndWrites3.beats) ∧ (21 < 22) ∧ (53 = 32 + 21) ∧
  (passesAgree (w53s6.rd F.calTdctol) (hitsOf (List.replicate 128 100)) (hitsOf (List.replicate 128 100)) = true) ∧
  (meanOk (hitsOf (List.replicate 128 100)) (hitsOf (List.replicate 128 100)) = true) ∧
  (w53s6.powered = true) ∧ (w53s6.ca.run = some litCalibrationRunsAndWrites3) ∧
  (litCalibrationRunsAndWrites3.items = [53, 64]) ∧
  (itemBeats 53 ≤ litCalibrationRunsAndWrites3.beats) ∧ (21 < 22) ∧ (53 = 32 + 21) ∧
  (passesAgree (w53s6.rd F.calTdctol) (hitsOf (List.replicate 128 100)) (hitsOf (100 :: List.replicate 100 127)) = false) ∧
  (litCalibrationRunsAndWrites3.rej = none) ∧
  (w53s8.powered = true) ∧ (w53s8.ca.run = some { kind := 5, items := [] : CalRun }) ∧
  ({ kind := 5, items := [] : CalRun }.items = []) ∧ ({ kind := 5, items := [] : CalRun }.cmd = 0) ∧ (w53s8.ca.queued = none) ∧
  (w53s9.powered = true) ∧ (w53s9.ca.run = some litCalibrationRunsAndWrites1) ∧
  (litCalibrationRunsAndWrites1.items = []) ∧
  (litCalibrationRunsAndWrites1.cmd = 0) ∧ (w53s9.ca.queued = none) ∧
  (w53s10.live = true) ∧ (measuring w53s10 (64 + 7) = true) ∧
  (up.live = true) ∧ (measuring up (64 + 7) = false) ∧
  (okSkew ↑(Config.facSkew 7).toNat ↑((BitVec.ofNat 2048 ((Config.facSkew 7).toNat + 128)).toNat % 256) = false) ∧
  (up.live = true) ∧ (measuring up (64 + 7) = false) ∧
  (okSkew ↑(Config.facSkew 7).toNat ↑((BitVec.ofNat 2048 (Config.facSkew 7).toNat).toNat % 256) = true) ∧
  (w53s10.live = true) ∧ (w53s10.ca.run ≠ none) ∧
  (up.live = true) ∧ (up.ca.run = none) ∧
  (w53s12.powered = true) ∧ (w53s12.ca.run = some litCalibrationRunsAndWrites4) ∧
  (litCalibrationRunsAndWrites4.items = [1, 64]) ∧
  (itemBeats 1 ≤ litCalibrationRunsAndWrites4.beats) ∧ (1 = 1) := by
  and_intros <;> first | decide +kernel | exact skewFar | exact skewSame | exact noField | exact Or.inl ⟨by decide, rfl, rfl, rfl, by decide +kernel⟩ | exact Or.inr ⟨by decide, rfl, rfl, rfl, by decide +kernel⟩ | exact gainField

def w55s1 : State := up.setFrec .auxLow {level := 1, uncl := true, quiet := 86400 * 1024 + 1}
def w55s2 : State := up.setFrec .auxLow {level := 1, uncl := true, quiet := 1025}
def w55s3 : State := put [(F.fltForceinfo 0, 6)] (withRec .domainFail 2 64 up)
def w55s4 : State := up.setFrec .auxLow {level := 1, ret := true, isol := 1}
def w55s5 : State := up.setFrec .auxLow {level := 1, ret := true, isol := 1, live := 1}
theorem witness_RecoveryForceAndReturn :
  (FC.at? 0 6 = some FC.auxLow) ∧ (w55s1.powered = true) ∧ (w55s1.qcRuns = true) ∧ (canRecover w55s1 FC.auxLow = true) ∧
  (up.live = true) ∧
  (∀ (c : FC), c.blk = 13 → clampNat 1 86400 0 * 1024 < (up.frec c).quiet → (up.frec c).uncl = false ∨ (up.frec c).isLive = true) ∧
  ((withRec FC.auxLow 1 1 up).live = true) ∧
  (∀ (c : FC), c.blk = 0 → clampNat 1 86400 86401 * 1024 < ((withRec FC.auxLow 1 1 up).frec c).quiet → ((withRec FC.auxLow 1 1 up).frec c).uncl = false ∨ ((withRec FC.auxLow 1 1 up).frec c).isLive = true) ∧
  (w55s2.live = true) ∧ (FC.auxLow.blk = 0) ∧ ((w55s2.frec FC.auxLow).uncl = true) ∧ ((w55s2.frec FC.auxLow).isLive = false) ∧
  (clampNat 1 86400 0 * 1024 < (w55s2.frec FC.auxLow).quiet) ∧
  (up.live = true) ∧
  (up.live = true) ∧ (FC.auxLow.blk = 0) ∧
  (w55s3.live = true) ∧ (FC.domainFail.blk = 0) ∧
  (FC.at? 0 6 = some FC.auxLow) ∧ (w55s4.powered = true) ∧ ((w55s4.frec FC.auxLow).ret = true) ∧
  ((w55s4.frec FC.auxLow).isLive = false) ∧
  (FC.at? 0 6 = some FC.auxLow) ∧ (w55s5.powered = true) ∧ ((w55s5.frec FC.auxLow).ret = true) ∧ ((w55s5.frec FC.auxLow).isLive = true) := by
  and_intros <;> first | decide +kernel | (intro c; cases c <;> decide +kernel)

def w56s1 : State := {up with pr.trigFault := true}
def w56s2 : State := {put [(F.prsSnappol, 0)] up with pr.trigEvt := true, st.snaps := [(0, {valid := true, time := 6}), (1, {valid := true, time := 5})]}
def w56s3 : State := {put [(F.prsSnappol, 1)] up with pr.trigEvt := true, st.snaps := [(0, {valid := true}), (1, {valid := true})]}
def w56s4 : State := {up with pr.trigFault := true, pr.snap := some ⟨1, 5, 6, 2, List.replicate 8 5, false, none, []⟩}
def w56s5 : State := {put [(F.fabBeatcnt, 6), (F.prsPost, 0)] up with pr.snap := some ⟨1, 5, 6, 2, [5], false, none, []⟩}
def w56s6 : State := {put [(F.fabBeatcnt, 6), (F.prsPost, 0)] up with pr.snap := some ⟨1, 5, 6, 2, [5], false, some 0, [(0x100, 4)]⟩}
def w56s7 : State := {up with st.snaps := [(0, {valid := true}), (1, {valid := true})]}
def w56s8 : State := {up with pr.snap := some ⟨1, 5, 6, 2, [5], false, none, []⟩}
def w56s9 : State := {up with pr.slowDue := some (99, 7), pr.slow := List.replicate 680 5}
def w56s10 : State := {up with pr.slowDue := some (99, 7), pr.slow := List.replicate 681 5, st.slowPage := 3801}
def w56a1 : Replay := ⟨0, {}, []⟩
def w56s12 : State := {put [(F.prsRstate, 1)] (upIn .replay) with pr.rp := some ⟨0, {}, []⟩}
def w56a2 : Replay := ⟨2, {}, []⟩
def w56s13 : State := {put [(F.prsRstate, 1)] (upIn .replay) with pr.upload := true, pr.rp := some ⟨2, {}, []⟩}
def w56s14 : State := {put [(F.prsRstate, 2)] (upIn .replay) with pr.upload := true, pr.rp := some ⟨2, {}, []⟩}
def w56s15 : State := {up with st.snaps := [(0, {valid := true})]}
abbrev litPressSnapshotsAndReplay1 : SnapRun := { slot := 1, t := 5, time := 6, cause := 2, trigs := [5], cmd := false, pages := some 0, zero := [(256, 4)] : SnapRun }
abbrev litPressSnapshotsAndReplay2 : SnapRun := { slot := 1, t := 5, time := 6, cause := 2, trigs := [5], cmd := false : SnapRun }
theorem witness_PressSnapshotsAndReplay :
  (w56s1.live = true) ∧ (w56s1.mode ≠ Mode.replay) ∧ (1 = 1 ∧ w56s1.pr.trigFault = true ∧ w56s1.pr.trigEvt = false ∨ 1 = 2 ∧
  w56s1.pr.trigFault = false ∧ w56s1.pr.trigEvt = true) ∧ (w56s1.pr.snap = none) ∧ (snapTarget w56s1 = some 0) ∧
  (w56s2.live = true) ∧ (w56s2.mode ≠ Mode.replay) ∧ (2 = 1 ∧ w56s2.pr.trigFault = true ∧ w56s2.pr.trigEvt = false ∨ 2 = 2 ∧
  w56s2.pr.trigFault = false ∧ w56s2.pr.trigEvt = true) ∧ (w56s2.pr.snap = none) ∧ (snapTarget w56s2 = some 1) ∧
  (w56s3.live = true) ∧ (w56s3.mode ≠ Mode.replay) ∧ (2 = 1 ∧ w56s3.pr.trigFault = true ∧ w56s3.pr.trigEvt = false ∨ 2 = 2 ∧
  w56s3.pr.trigFault = false ∧ w56s3.pr.trigEvt = true) ∧ (w56s3.pr.snap = none) ∧ (snapTarget w56s3 = none) ∧
  (w56s4.live = true) ∧ (w56s4.mode ≠ Mode.replay) ∧ (1 = 1 ∧ w56s4.pr.trigFault = true ∧ w56s4.pr.trigEvt = false ∨ 1 = 2 ∧
  w56s4.pr.trigFault = false ∧ w56s4.pr.trigEvt = true) ∧
  (w56s4.pr.snap = some { slot := 1, t := 5, time := 6, cause := 2, trigs := List.replicate 8 5, cmd := false : SnapRun }) ∧
  (w56s5.live = true) ∧ (w56s5.pr.snap = some litPressSnapshotsAndReplay2) ∧
  (litPressSnapshotsAndReplay2.pages = none) ∧
  (litPressSnapshotsAndReplay2.t + w56s5.rd F.prsPost < w56s5.beatcnt) ∧
  (w56s5.stoneIsol = false) ∧
  (w56s6.live = true) ∧
  (w56s6.pr.snap = some litPressSnapshotsAndReplay1) ∧
  (litPressSnapshotsAndReplay1.pages = some 0) ∧
  (litPressSnapshotsAndReplay1.cmd = false) ∧
  (w56s7.live = true) ∧ (w56s7.pr.snap = none) ∧
  (w56s8.live = true) ∧ (w56s8.pr.snap = some litPressSnapshotsAndReplay2) ∧
  (litPressSnapshotsAndReplay2.slot = 1) ∧
  (w56s9.live = true) ∧ (w56s9.qcRuns = true) ∧ (w56s9.pr.slowDue = some (99, 7)) ∧ (w56s9.pr.slow.length < 681) ∧
  (w56s10.live = true) ∧ (w56s10.qcRuns = true) ∧ (w56s10.pr.slowDue = some (99, 7)) ∧ (681 ≤ w56s10.pr.slow.length) ∧ (true = true) ∧
  (w56s10.stoneIsol = false) ∧
  (w56s10.live = true) ∧ (w56s10.qcRuns = true) ∧ (w56s10.pr.slowDue = some (99, 7)) ∧ (681 ≤ w56s10.pr.slow.length) ∧
  (false = false ∨ w56s10.stoneIsol = true) ∧
  (w56s12.live = true) ∧ (w56s12.mode = Mode.replay) ∧ (w56s12.pr.rp = some w56a1) ∧ (w56s12.rd F.prsRstate = 1) ∧
  (replayErr w56a1.src { crcOk := true, verOk := true, hashOk := true, cfgOk := true, recs := [] : UploadIn } w56s12 ≠ 0) ∧
  (w56s13.live = true) ∧ (w56s13.mode = Mode.replay) ∧ (w56s13.pr.rp = some w56a2) ∧ (w56s13.rd F.prsRstate = 1) ∧
  (replayErr w56a2.src { crcOk := true, verOk := true, hashOk := true, cfgOk := true, recs := [{ beat := 5, gap := true, res := [(7, 8)] : UpRec }] : UploadIn } w56s13 = 0) ∧
  (w56s14.live = true) ∧ (w56s14.mode = Mode.replay) ∧ (w56s14.pr.rp = some w56a2) ∧ (w56s14.rd F.prsRstate = 2) ∧ (w56a2.todo = []) ∧
  ((up.snapSlot 0).valid = false) ∧
  ((w56s15.snapSlot 0).valid = true) ∧ ((w56s15.snapSlot 0).imgs ≠ imgIds w56s15) := by
  and_intros <;> first | decide +kernel

def w57s1 : State := {put [(F.svcPwisset, 1), (F.dLock, 1)] up with sc.gates := [(0, {len := 3}), (8, {len := 4})]}
def w57s2 : State := {put [(F.svcPwisset, 1), (F.dLock, 1)] up with sc.chal := some (5, 6), sc.gates := [(0, {len := 3}), (8, {len := 4})]}
def w57s3 : State := {put [(F.svcPwisset, 1), (F.dLock, 1), (F.dBackoff, 1)] up with sc.backTo := some (200 * unitsPerSec), sc.gates := [(0, {len := 3}), (8, {len := 4})]}
def w57s4 : State := {put [(F.dLock, 1), (F.svcFailrun, 3)] up with sc.runs := [⟨0, true, 2, 100 * unitsPerSec, false⟩]}
def w57s5 : State := {put [(F.dLock, 1), (F.svcFailrun, 3)] up with sc.runs := [⟨0, false, 3, 100 * unitsPerSec, false⟩]}
def w57s6 : State := {put [(F.dLock, 1), (F.svcFailrun, 3)] up with sc.runs := [⟨0, false, 7, 100 * unitsPerSec, false⟩]}
def w57s7 : State := {up with tm.now := 700 * unitsPerSec, sc.chal := some (7, 100)}
def w57s8 : State := put [(F.dBackoff, 1)] (withRec .unlockBackoff 1 1 up)
def w57s9 : State := put [(F.dLock, 3)] up
def w57s10 : State := put [(F.dLock, 0)] up
def w57s11 : State := put [(F.dLock, 3), (F.svcRelocktime, 60)] up
def w57s12 : State := {put [(F.dSvcsess, 1)] up with sc.lastFrame := some (90 * unitsPerSec)}
abbrev litServiceLockAttempts1 : Attempt := { agent := 0, rsp := false, result := 3, due := 100 * unitsPerSec : Attempt }
abbrev litServiceLockAttempts2 : Attempt := { agent := 0, rsp := false, result := 7, due := 100 * unitsPerSec : Attempt }
abbrev litServiceLockAttempts3 : Attempt := { agent := 0, rsp := true, result := 2, due := 100 * unitsPerSec : Attempt }
theorem witness_ServiceLockAttempts :
  (gateOpen true w57s1 = true) ∧
  (gateOpen false w57s2 = true) ∧
  (gateOpen false w57s3 = true) ∧
  (w57s4.powered = true) ∧ (w57s4.tm.running = true) ∧ (w57s4.pw.pf = PfStage.none) ∧
  (w57s4.sc.runs = [litServiceLockAttempts3]) ∧
  (litServiceLockAttempts3.due < nextBoundary w57s4) ∧
  (litServiceLockAttempts3.result = 2) ∧ (w57s4.rd F.dLock = 1) ∧
  (litServiceLockAttempts3.noLock = false) ∧
  (w57s5.powered = true) ∧ (w57s5.tm.running = true) ∧ (w57s5.pw.pf = PfStage.none) ∧
  (w57s5.sc.runs = [litServiceLockAttempts1]) ∧
  (litServiceLockAttempts1.due < nextBoundary w57s5) ∧
  (litServiceLockAttempts1.result = 3) ∧
  (w57s6.powered = true) ∧ (w57s6.tm.running = true) ∧ (w57s6.pw.pf = PfStage.none) ∧
  (w57s6.sc.runs = [litServiceLockAttempts2]) ∧
  (litServiceLockAttempts2.due < nextBoundary w57s6) ∧
  (4 ≤ litServiceLockAttempts2.result) ∧
  (litServiceLockAttempts2.result < 8) ∧ (w57s6.sc.chalNext = none) ∧
  (gateOpen true up = true) ∧ (rspRuns up = false) ∧
  (w57s7.powered = true) ∧ (w57s7.tm.running = true) ∧ (w57s7.sc.chal = some (7, 100)) ∧ (100 + 600 * unitsPerSec < nextBoundary w57s7) ∧
  (w57s8.powered = true) ∧ (w57s8.tm.running = true) ∧ (w57s8.is F.dBackoff = true) ∧ (backUntil w57s8 < nextBoundary w57s8) ∧
  (gateOpen true w57s9 = true) ∧ (w57s9.rd F.dLock = 2 ∨ w57s9.rd F.dLock = 3) ∧
  (gateOpen true w57s10 = true) ∧ (w57s10.rd F.dLock = 0 ∨ w57s10.rd F.dLock = 1) ∧
  (w57s11.powered = true) ∧ (w57s11.tm.running = true) ∧ (w57s11.rd F.dLock = 2 ∨ w57s11.rd F.dLock = 3) ∧
  (w57s11.sc.lastUse + w57s11.rd F.svcRelocktime * unitsPerSec < nextBoundary w57s11) ∧
  (w57s12.powered = true) ∧ (w57s12.tm.running = true) ∧ (w57s12.sc.lastFrame = some (90 * unitsPerSec)) ∧
  (90 * unitsPerSec + 10 * unitsPerSec < nextBoundary w57s12) := by
  and_intros <;> first | decide +kernel

def w58s1 : State := {put [(F.dLock, 2)] up with sc.gates := [(0, {len := 8, pw := [(0, 0x4141), (1, 0x4141), (2, 0x4141), (3, 0x4141)]}), (8, {len := 4})]}
def w58s2 : State := {put [(F.dLock, 2)] up with sc.gates := [(0, {len := 7}), (8, {len := 4})]}
def w58s3 : State := {put [(F.dLock, 3), (F.svcPwisset, 1)] up with sc.hash := 7}
def w58s4 : State := {put [(F.dLock, 2), (F.svcPwisset, 1)] up with sc.hash := 7}
def w58s5 : State := put [(F.dLock, 2)] up
def w58s6 : State := put [(F.dLock, 2)] (upIn .track)
def w58s7 : State := {put [(F.svcUpen, 1), (F.dLock, 0)] up with pr.upload := true}
def w58a1 : UcRun := ⟨2, 1, {engine := 3, sec := 9, ver := 1, len := 6, hashOk := true, sigOk := true}⟩
def w58s9 : State := {up with sc.uc := some ⟨2, 1, {engine := 3, sec := 9, ver := 1, len := 6, hashOk := true, sigOk := true}⟩}
def w58s11 : State := {put [(F.dLock, 3), (F.svcFloornew, 9)] up with pw.floor := 9}
def w58s12 : State := {put [(F.dLock, 3), (F.svcFloornew, 9)] up with pw.floor := 8, st.slots := [(0, {engine := 1, sec := 9, ver := 1, len := 6, hashOk := true, sigOk := true}), (3, {engine := 2, sec := 9, ver := 1, len := 6, hashOk := true, sigOk := true}), (4, {engine := 3, sec := 9, ver := 1, len := 6, hashOk := true, sigOk := true})]}
theorem witness_PasswordUploadAndMicrocode :
  (gateOpen false w58s1 = true) ∧
  (gateOpen false w58s2 = true) ∧
  (gateOpen true w58s3 = true) ∧ (w58s3.rd F.dLock = 3) ∧
  (gateOpen true w58s4 = true) ∧ (w58s4.rd F.dLock ≠ 3) ∧
  (w58s5.live = true) ∧ (svcOpen w58s5 = true) ∧ (w58s5.mode = Mode.provision ∨ w58s5.mode = Mode.safe) ∧
  (w58s6.live = true) ∧ (svcOpen w58s6 = true) ∧ (w58s6.mode ≠ Mode.provision) ∧ (w58s6.mode ≠ Mode.safe) ∧
  (w58s7.live = true) ∧ (svcOpen w58s7 = true) ∧ (w58s7.is F.svcUpen = true) ∧ (w58s7.pr.upload = true) ∧
  (w57s9.live = true) ∧ (svcOpen w57s9 = true) ∧ (bit 32769 15 = true) ∧ (w57s9.sc.uc = none) ∧
  (updateReason w57s9 (bits 32769 0 2) (stagedImage w57s9.sc.stage) ≠ 0) ∧
  (updateReason w57s9 (bits 32769 0 2) (stagedImage w57s9.sc.stage) < 16) ∧
  (w58s9.powered = true) ∧ (w58s9.sc.uc = some w58a1) ∧
  (w58s9.powered = true) ∧ (w58s9.sc.uc = some w58a1) ∧
  (w58s11.live = true) ∧ (w58s11.rd F.dLock = 3) ∧ (w58s11.sc.fuse = none) ∧
  (w58s11.rd F.svcFloornew ≤ w58s11.pw.floor ∨ floorFits w58s11 (w58s11.rd F.svcFloornew) = false) ∧
  (w58s12.live = true) ∧ (w58s12.rd F.dLock = 3) ∧ (w58s12.sc.fuse = none) ∧ (w58s12.pw.floor < w58s12.rd F.svcFloornew) ∧
  (floorFits w58s12 (w58s12.rd F.svcFloornew) = true) := by
  and_intros <;> first | decide +kernel

def w59s1 : State := {upIn .track with bus.cmd := some ⟨2, 0, true⟩, st.store := some { why := .sched, bankB := true, jser := 0, img := {}, again := false}}
def w59s2 : State := {up with bus.cmd := some ⟨2, 0, false⟩}
def w59s3 : State := {up with bus.cmd := some ⟨0x30, 0, false⟩}
def w59s4 : State := {up with en.restart := some 3}
def w59s6 : State := {up with st.txns := [(0, [(5, 6)])]}
def w59s7 : State := {up with st.txns := [(0, [])]}
def w59s9 : State := {upIn .track with sy := {}}
def w59s10 : State := {up with ca.run := some ⟨5, [0x20], 0, none, 0⟩}
theorem witness_CommandsRunOneAtATime :
  (cmdOf w59s1 (Instr.cmdStore 0) = some (1, 0, 4)) ∧ (busLive w59s1) ∧
  (w59s1.bus.cmd = some { code := 2, arg := 0, started := true : CmdRun }) ∧
  ({ code := 2, arg := 0, started := true : CmdRun }.started = true ∨ { code := 2, arg := 0, started := true : CmdRun }.code ≠ 1) ∧
  (cmdOf w59s2 (Instr.cmdStore 0) = some (1, 0, 0)) ∧ (busLive w59s2) ∧
  (w59s2.bus.cmd = some { code := 2, arg := 0, started := false : CmdRun }) ∧
  ({ code := 2, arg := 0, started := false : CmdRun }.started = true ∨ { code := 2, arg := 0, started := false : CmdRun }.code ≠ 1) ∧
  (cmdOf up (Instr.cmdStore 1) = some (1, 1, 2)) ∧ (takesCommand up) ∧ (2 ≠ 0) ∧
  (cmdOf up (Instr.cmdCalThresh 5) = some (18, 5, 2)) ∧ (takesCommand up) ∧ (2 ≠ 0) ∧
  (cmdOf up (Instr.cmdGraftNow 0) = some (48, 0, 3)) ∧ (takesCommand up) ∧ (3 ≠ 0) ∧
  (cmdOf up (Instr.cmdAcceptJump 1) = some (50, 1, 4)) ∧ (takesCommand up) ∧ (4 ≠ 0) ∧
  (cmdOf up (Instr.cmdUnknownCode 4 5) = some (4, 5, 1)) ∧ (takesCommand up) ∧ (1 ≠ 0) ∧
  (cmdOf w59s3 (Instr.cmdGraftNow 0) = some (48, 0, 3)) ∧ (w59s3.live = true) ∧ (w59s3.tm.running = true) ∧ (w59s3.en.restart = none) ∧
  (w59s3.bus.cmd = some { code := 48, arg := 0, started := false : CmdRun }) ∧ (3 ≠ 0) ∧
  (cmdOf w59s4 (Instr.cmdStore 0) = some (1, 0, 0)) ∧ (busLive w59s4) ∧ (w59s4.bus.cmd = none) ∧ (w59s4.pw.pf = PfStage.none) ∧
  (w59s4.tm.running = false ∨ w59s4.en.restart ≠ none) ∧
  (cmdOf w59s4 (Instr.cmdWipeTenant 9) = some (80, 9, 2)) ∧ (busLive w59s4) ∧ (w59s4.bus.cmd = none) ∧ (w59s4.pw.pf = PfStage.none) ∧
  (w59s4.tm.running = false ∨ w59s4.en.restart ≠ none) ∧
  (takesCommand up) ∧ (up.mode.operating = true) ∧ (stoneBusy up = false) ∧ (up.stoneIsol = false) ∧
  (takesCommand up) ∧ (up.mode.operating = true) ∧ (up.txn 0 = none) ∧
  (takesCommand w59s6) ∧ (w59s6.mode.operating = true) ∧ (w59s6.txn 0 ≠ none) ∧
  (takesCommand w59s7) ∧ (w59s7.mode.operating = true) ∧ (w59s7.txn 0 = some []) ∧
  (takesCommand w59s6) ∧ (w59s6.mode.operating = true) ∧ (w59s6.txn 0 = some [(5, 6)]) ∧ ([(5, 6)] ≠ []) ∧ (w59s6.stoneIsol = false) ∧
  (freeSlot w59s6 0 = some 0) ∧
  (takesCommand up) ∧ (up.mode.operating = true) ∧ (up.pr.snap = none) ∧ (snapTarget up = some 0) ∧
  (takesCommand up) ∧ (calMode up = true) ∧ (Instr.cmdCalAll 0 = Instr.cmdCalAll 0 ∧ 1 = 1 ∧ 0 = 0 ∧
  up.domOn 2 = true ∨ Instr.cmdCalAll 0 = Instr.cmdCalTdc 0 ∧ 1 = 2 ∧ 0 = 0 ∧
  up.domOn 2 = true ∨ Instr.cmdCalAll 0 = Instr.cmdCalThresh 0 ∧ 1 = 3 ∧ 0 ≤ 4 ∧
  up.domOn 11 = true ∨ Instr.cmdCalAll 0 = Instr.cmdCalSkew 0 ∧ 1 = 4 ∧ 0 ≤ 8) ∧ (up.ca.run = none) ∧
  (takesCommand up) ∧ (calMode up = true) ∧ (Instr.cmdCalTdc 0 = Instr.cmdCalAll 0 ∧ 2 = 1 ∧ 0 = 0 ∧
  up.domOn 2 = true ∨ Instr.cmdCalTdc 0 = Instr.cmdCalTdc 0 ∧ 2 = 2 ∧ 0 = 0 ∧
  up.domOn 2 = true ∨ Instr.cmdCalTdc 0 = Instr.cmdCalThresh 0 ∧ 2 = 3 ∧ 0 ≤ 4 ∧
  up.domOn 11 = true ∨ Instr.cmdCalTdc 0 = Instr.cmdCalSkew 0 ∧ 2 = 4 ∧ 0 ≤ 8) ∧ (up.ca.run = none) ∧
  (takesCommand up) ∧ (calMode up = true) ∧ (Instr.cmdCalThresh 4 = Instr.cmdCalAll 4 ∧ 3 = 1 ∧ 4 = 0 ∧
  up.domOn 2 = true ∨ Instr.cmdCalThresh 4 = Instr.cmdCalTdc 4 ∧ 3 = 2 ∧ 4 = 0 ∧
  up.domOn 2 = true ∨ Instr.cmdCalThresh 4 = Instr.cmdCalThresh 4 ∧ 3 = 3 ∧ 4 ≤ 4 ∧
  up.domOn 11 = true ∨ Instr.cmdCalThresh 4 = Instr.cmdCalSkew 4 ∧ 3 = 4 ∧ 4 ≤ 8) ∧ (up.ca.run = none) ∧
  (takesCommand w59s9) ∧ (calMode w59s9 = true) ∧ (Instr.cmdCalSkew 8 = Instr.cmdCalAll 8 ∧ 4 = 1 ∧ 8 = 0 ∧
  w59s9.domOn 2 = true ∨ Instr.cmdCalSkew 8 = Instr.cmdCalTdc 8 ∧ 4 = 2 ∧ 8 = 0 ∧
  w59s9.domOn 2 = true ∨ Instr.cmdCalSkew 8 = Instr.cmdCalThresh 8 ∧ 4 = 3 ∧ 8 ≤ 4 ∧
  w59s9.domOn 11 = true ∨ Instr.cmdCalSkew 8 = Instr.cmdCalSkew 8 ∧ 4 = 4 ∧ 8 ≤ 8) ∧ (w59s9.ca.run = none) ∧
  (takesCommand w59s10) ∧ (calMode w59s10 = true) ∧ (Instr.cmdCalSkew 8 = Instr.cmdCalAll 8 ∧ 4 = 1 ∧ 8 = 0 ∧
  w59s10.domOn 2 = true ∨ Instr.cmdCalSkew 8 = Instr.cmdCalTdc 8 ∧ 4 = 2 ∧ 8 = 0 ∧
  w59s10.domOn 2 = true ∨ Instr.cmdCalSkew 8 = Instr.cmdCalThresh 8 ∧ 4 = 3 ∧ 8 ≤ 4 ∧
  w59s10.domOn 11 = true ∨ Instr.cmdCalSkew 8 = Instr.cmdCalSkew 8 ∧ 4 = 4 ∧ 8 ≤ 8) ∧
  (w59s10.ca.run = some { kind := 5, items := [32] : CalRun }) := by
  and_intros <;> first | decide +kernel

def w60s1 : State := put [(F.refState 0, 3), (F.refPrio 0, 1)] (upIn .track)
def w60s2 : State := put [(F.refEnable 9, 1), (F.refState 9, 3)] (upIn .track)
def w60s3 : State := put [(F.refEnable 3, 1), (F.refState 3, 5)] (upIn .track)
def w60s4 : State := put [(F.refEnable 9, 0)] (upIn .track)
def w60s5 : State := put [(F.refEnable 9, 1), (F.refEnable 0, 1), (F.refState 0, 3)] (upIn .track)
def w60s6 : State := put [(F.dJumpPend, 1), (F.dJref, 4), (F.servoJrefmask, 16)] (upIn .track)
def w60s7 : State := put [(F.dMq, 99), (F.dReady, 1), (F.servoLearns, 6)] up
def w60s8 : State := put [(F.svcPwisset, 1), (F.dLock, 3)] up
def w60s9 : State := {put [(F.tenDpip 3, 7)] up with tn.own := [(5, 4)], br.fifos := [(4, [5])]}
def w60s10 : State := {up with tn.wipe := some ⟨3, 0, false⟩, bus.cmd := some ⟨0x50, 4, true⟩, st.dirty := [(5, 4), (6, 3)]}
def w60s11 : State := {up with tn.wipe := some ⟨3, 0, true⟩, bus.cmd := some ⟨0x50, 4, true⟩}
theorem witness_SystemCommandsTakeEffect :
  (takesCommand w60s1) ∧ (w60s1.mode = Mode.track ∨ w60s1.mode = Mode.holdover ∨ w60s1.mode = Mode.ensemble) ∧
  (preferred w60s1 = some 0) ∧ (0 ≠ w60s1.rd F.dSelref) ∧
  (takesCommand w60s2) ∧ (w60s2.mode.operating = true) ∧ (w60s2.is (F.refEnable 9) = true) ∧
  (takesCommand w60s3) ∧ (w60s3.mode.operating = true) ∧ (w60s3.is (F.refEnable 3) = true) ∧
  (takesCommand w60s4) ∧ (w60s4.mode.operating = true) ∧ (w60s4.is (F.refEnable 9) = false) ∧
  (takesCommand w60s5) ∧ (w60s5.mode.operating = true) ∧
  (takesCommand w60s6) ∧ (jumpMode w60s6 = true) ∧ (w60s6.is F.dJumpPend = true ∨ confirmedNow w60s6 = true) ∧
  (takesCommand w60s7) ∧ (w60s7.mode = Mode.provision ∨ w60s7.mode = Mode.track) ∧
  (takesCommand w60s8) ∧ (w60s8.mode.operating = true) ∧ (w60s8.is F.svcPwisset = true) ∧
  (takesCommand w60s9) ∧ (w60s9.mode.operating = true) ∧
  (w60s10.powered = true) ∧ (w60s10.tn.wipe = some { k := 3, stores := 0, failed := false : Wipe }) ∧
  ({ k := 3, stores := 0, failed := false : Wipe }.k = 3) ∧
  (w60s10.bus.cmd = some { code := 80, arg := 4, started := true : CmdRun }) ∧
  ({ k := 3, stores := 0, failed := false : Wipe }.failed = false) ∧ ({ k := 3, stores := 0, failed := false : Wipe }.stores = 0) ∧
  (w60s11.powered = true) ∧ (w60s11.tn.wipe = some { k := 3, stores := 0, failed := true : Wipe }) ∧
  ({ k := 3, stores := 0, failed := true : Wipe }.k = 3) ∧ (w60s11.bus.cmd = some { code := 80, arg := 4, started := true : CmdRun }) ∧
  ({ k := 3, stores := 0, failed := true : Wipe }.failed = true) := by
  and_intros <;> first | decide +kernel

end Sys2Proof.Tests
end

section
/-! What the effect of a staged write leaves of the host bus: no field that the engines take changes what else waits. -/
namespace Sys2Proof.Machine

/-! ## The host bus under the shared operations -/

@[simp] theorem State.wr_bus (s : State) (f : Fld) (v : Nat) : (s.wr f v).bus = s.bus := rfl
@[simp] theorem State.set1_bus (s : State) (f : Fld) : (s.set1 f).bus = s.bus := s.wr_bus f 1
@[simp] theorem State.clr_bus (s : State) (f : Fld) : (s.clr f).bus = s.bus := s.wr_bus f 0
@[simp] theorem State.wrB_bus (s : State) (f : Fld) (b : Bool) : (s.wrB f b).bus = s.bus := s.wr_bus f _
@[simp] theorem State.wrS_bus (s : State) (f : Fld) (i : Int) : (s.wrS f i).bus = s.bus := s.wr_bus f _
@[simp] theorem State.inc_bus (s : State) (f : Fld) : (s.inc f).bus = s.bus := s.wr_bus f _
@[simp] theorem State.rstFld_bus (s : State) (f : Fld) : (s.rstFld f).bus = s.bus := s.wr_bus f _
@[simp] theorem State.tally_bus (s : State) (n : Nat) : (s.tally n).bus = s.bus := rfl

/-- A fold of steps none of which touches the host bus leaves it. -/
theorem bus_foldl {α : Type} {f : State → α → State} (hf : ∀ s a, (f s a).bus = s.bus) (l : List α) (s : State) :
    (l.foldl f s).bus = s.bus := by
  induction l generalizing s with
  | nil => rfl
  | cons a l ih => exact (ih (f s a)).trans (hf s a)

theorem bus_forN {f : Nat → State → State} (hf : ∀ n s, (f n s).bus = s.bus) (n : Nat) (s : State) :
    (forN n f s).bus = s.bus := bus_foldl (fun s n => hf n s) _ s

/-! ## A field that takes its value -/

@[simp] theorem putFld_bus (f : Fld) (v : Nat) (s : State) : (putFld f v s).bus = s.bus := by
  unfold putFld
  split
  · exact s.wr_bus f _
  · rfl
  · rfl
  · rfl
  · exact s.wr_bus f _

/-- What a host write of a calibration value can do. (`calWrite` is unfolded as a function: the kernel would otherwise compute the
key of a field that is a variable.) -/
theorem calWrite_cases (f : Fld) (v : Nat) (s : State) : calWrite f v s = s ∨ calWrite f v s = s.set1 F.calWrbusy ∨
    (∃ i, calWrite f v s = (s.wr f v).wr (originOf_ i) 2) ∨ calWrite f v s = s.inc F.calWrrej := by
  generalize hw : calWrite = w
  delta calWrite at hw
  subst hw
  dsimp only
  generalize calField f v = c
  rcases c with _ | ⟨i, ok⟩
  · exact .inl rfl
  · dsimp only
    split
    · exact .inr (.inl rfl)
    · split
      · exact .inr (.inr (.inl ⟨i, rfl⟩))
      · exact .inr (.inr (.inr rfl))

theorem calWrite_bus (f : Fld) (v : Nat) (s : State) : (calWrite f v s).bus = s.bus := by
  obtain h | h | ⟨i, h⟩ | h := calWrite_cases f v s <;> simp [h]

theorem calFacload_bus (s : State) : (calFacload s).bus = s.bus := by
  unfold calFacload
  split
  · simp
  · exact bus_foldl (fun s f => s.rstFld_bus f) _ s

theorem tallyInc_bus (n : Nat) (s : State) : (tallyInc n s).bus = s.bus := by
  unfold tallyInc; split <;> simp

theorem diagNow_bus (n : Nat) (s : State) : (diagNow n s).bus = s.bus := by
  unfold diagNow; split <;> rfl

@[simp] theorem engineWrite_bus (h : Held) (s : State) : (engineWrite h s).bus = s.bus := by
  unfold engineWrite
  split
  · rfl
  · split
    · rfl
    · simp

theorem logAppend_bus (k w : Nat) (s : State) : (logAppend k w s).bus = s.bus := by
  unfold logAppend
  dsimp only
  split
  · rfl
  · split <;> simp

@[simp] theorem txnFail_bus (k r : Nat) (s : State) : (txnFail k r s).bus = s.bus := by simp [txnFail]

theorem tenantBegin_bus (k : Nat) (s : State) : (tenantBegin k s).bus = s.bus := by
  unfold tenantBegin
  split
  · simp
  · split
    · simp
    · rfl

theorem tenantCommit_bus (k : Nat) (s : State) : (tenantCommit k s).bus = s.bus := by
  unfold tenantCommit
  dsimp only
  repeat' split
  all_goals simp [txnDrop, commitBegin]

theorem tenantAbort_bus (k : Nat) (s : State) : (tenantAbort k s).bus = s.bus := by
  unfold tenantAbort
  split
  · simp
  · rfl

theorem txnctl_bus (k b : Nat) (s : State) : (txnctl k b s).bus = s.bus := by
  unfold txnctl
  split
  · exact tenantBegin_bus k s
  · exact tenantCommit_bus k s
  · exact tenantAbort_bus k s

theorem profileDefaults_bus (s : State) : (profileDefaults s).bus = s.bus := by
  unfold profileDefaults
  refine (bus_forN (fun n s => ?_) 4 _).trans ?_
  · split <;> simp
  · split <;> simp

@[simp] theorem recover_bus (c : FC) (s : State) : (recover c s).bus = s.bus := by
  simp [recover, State.followCapts, State.setFrec]

theorem recoverBlock_bus (b : Nat) (s : State) : (recoverBlock b s).bus = s.bus :=
  bus_foldl (fun s c => by split <;> simp) _ s

/-- A field that the engines take at a strobe leaves the host bus as it was, whatever command it stands for. -/
theorem applyFld_bus (f : Fld) (v : Nat) (s : State) : (applyFld f v s).bus = s.bus := by
  unfold applyFld
  split
  · exact calWrite_bus f v s
  split
  · split
    · exact calFacload_bus s
    · rfl
  split
  · exact tallyInc_bus v s
  split
  · split
    · exact diagNow_bus _ s
    · rfl
  split
  · split
    · exact txnctl_bus _ _ s
    · rfl
  split
  · exact logAppend_bus _ v s
  split
  · dsimp only
    split
    · exact putFld_bus f v s
    · exact (profileDefaults_bus _).trans (putFld_bus f v s)
  split
  · exact (recoverBlock_bus _ _).trans (putFld_bus f v s)
  · exact putFld_bus f v s

/-! ## The ranges that follow -/

theorem utcAuto_bus (s : State) : (utcAuto s).bus = s.bus := by
  unfold utcAuto
  dsimp only
  split
  · split <;> simp
  · simp

@[simp] theorem clampFld_bus (f : Fld) (g : Bool) (lo hi : Int) (p : State × Bool) : (clampFld f g lo hi p).1.bus = p.1.bus := by
  unfold clampFld
  dsimp only
  generalize (if g then p.1.rdS f else (p.1.rd f : Int)) = v
  split <;> simp

theorem clampPort_bus (n : Nat) (p : State × Bool) : (clampPort n p).1.bus = p.1.bus := by simp [clampPort]

theorem clampPorts_bus (l : List Nat) (p : State × Bool) : (l.foldl (fun p n => clampPort n p) p).1.bus = p.1.bus := by
  induction l generalizing p with
  | nil => rfl
  | cons n l ih => exact (ih _).trans (clampPort_bus n p)

theorem ptpClamp_bus (s : State) : (ptpClamp s).bus = s.bus := by
  simp only [ptpClamp, State.wrB_bus]
  split <;> simp [clampPorts_bus]

theorem applyAfter_bus (l : List (Fld × Nat)) (s : State) : (applyAfter l s).bus = s.bus := by
  have hu : (if l.any (fun p => p.1.sp == 4 && p.1.addr < 2) then utcAuto s else s).bus = s.bus := by
    split
    · exact utcAuto_bus s
    · rfl
  have hp (u : State) : (if l.any (fun p => p.1.sp == 6) then ptpClamp u else u).bus = u.bus := by
    split
    · exact ptpClamp_bus u
    · rfl
  have hw (u : State) : (wakeRanges u).bus = u.bus := by simp [wakeRanges]
  unfold applyAfter
  dsimp only
  split
  · exact (hw _).trans ((hp _).trans hu)
  · exact (hp _).trans hu

theorem applyWrite_bus (l : List (Fld × Nat)) (s : State) : (applyWrite l s).bus = s.bus :=
  (applyAfter_bus l _).trans (bus_foldl (fun s p => applyFld_bus p.1 p.2 s) l s)

/-! ## The strobe -/

/-- The notes for the vector change nothing of the host bus and of the register file. -/
theorem writeNotes_same (l : List (Fld × Nat)) (s0 s : State) :
    (writeNotes l s0 s).bus = s.bus ∧ (writeNotes l s0 s).regs = s.regs := by
  unfold writeNotes
  generalize (l.map (fun p => (p.1.sp, p.1.addr))).eraseDups = ps
  induction ps generalizing s with
  | nil => exact ⟨rfl, rfl⟩
  | cons p ps ih =>
    rw [List.foldl_cons]
    split
    · exact ih _
    · exact ih s

/-- A committed write and its note leave the host bus. -/
theorem noteApply_bus (l : List (Fld × Nat)) (s : State) : (writeNotes l s (applyWrite l s)).bus = s.bus :=
  (writeNotes_same l s _).1.trans (applyWrite_bus l s)

theorem leaveBeat_same (s : State) : (leaveBeat s).bus = s.bus ∧ (leaveBeat s).regs = s.regs := ⟨rfl, rfl⟩

/-- After the strobe's writes only POWREQ and the links' writes wait. -/
theorem stagedApply_bus (s : State) : (stagedApply s).bus = { s.bus with
    dstage := s.bus.dstage.filter (fun p => p.1.key == F.dPowreq.key)
    staging := s.bus.staging.filter (fun e => (tenantOf e.agent).isSome) } := by
  unfold stagedApply
  dsimp only
  rw [(leaveBeat_same _).1, bus_foldl (fun s (e : Staged) => noteApply_bus e.flds s), noteApply_bus]

/-! ## SLEWLIM -/

/-- SLEWLIM stands in no group with a command or a range of its own: the value goes in, held in its range. -/
theorem applyWrite_slewlim_eq (v : Nat) (s : State) :
    applyWrite [(F.servoSlewlim, v)] s = s.wr F.servoSlewlim (clampNat 1 1500 (v % 2 ^ 11)) := by
  have hf : applyFld F.servoSlewlim v s = putFld F.servoSlewlim v s := by
    simp [applyFld, F.servoSlewlim, F.calFacload, F.stoTallyinc, F.ptpProfile, Fld.key]
  have hr : inRange F.servoSlewlim v = clampNat 1 1500 (v % 2 ^ 11) := by
    simp [inRange, rangeOf, F.servoSlewlim, F.ensLoglep, Fld.key]
  have ha (u : State) : applyAfter [(F.servoSlewlim, v)] u = u := by simp [applyAfter, F.servoSlewlim]
  simp only [applyWrite, List.foldl_cons, List.foldl_nil, hf, ha, putFld, hr]
  rfl

theorem clampNat_le {lo hi : Nat} (h : lo ≤ hi) (v : Nat) : clampNat lo hi v ≤ hi := by
  unfold clampNat
  split
  · exact h
  · split <;> omega

theorem applyWrite_slewlim (v : Nat) (s : State) :
    (applyWrite [(F.servoSlewlim, v)] s).rd F.servoSlewlim = clampNat 1 1500 (v % 2 ^ 11) := by
  have hle := clampNat_le (by decide : 1 ≤ 1500) (v % 2 ^ 11)
  have hlt : clampNat 1 1500 (v % 2 ^ 11) < 2 ^ F.servoSlewlim.w := Nat.lt_of_le_of_lt hle (by decide)
  rw [applyWrite_slewlim_eq, State.rd_wr_same, Nat.mod_eq_of_lt hlt]

theorem State.rd_of_regs {s t : State} (h : t.regs = s.regs) (f : Fld) : t.rd f = s.rd f := by
  unfold State.rd; rw [h]

theorem stagedApply_slewlim {s : State} {v : Nat} (hd : s.bus.dstage = []) (hs : s.bus.staging = [⟨0, [(F.servoSlewlim, v)]⟩]) :
    (stagedApply s).rd F.servoSlewlim = clampNat 1 1500 (v % 2 ^ 11) := by
  have ht : (tenantOf 0).isNone = true := rfl
  unfold stagedApply
  simp only [hd, hs, List.filter_nil, List.filter_cons, ht, if_true, List.foldl_cons, List.foldl_nil]
  rw [State.rd_of_regs (leaveBeat_same _).2, State.rd_of_regs (writeNotes_same _ _ _).2, applyWrite_slewlim]

/-! ## The time latch -/

theorem strobes_of {s : State} (hl : s.live = true) (hr : s.tm.running = true) (he : s.en.restart = none) : strobes s = true := by
  simp [strobes, hl, hr, he]

/-- A new value of the time engine's part and of one field changes nothing else. -/
theorem Keeps.tmWr (s : State) (x : TimeSt) (f : Fld) (v : Nat) : Keeps [f] [.tm] s (({ s with tm := x } : State).wr f v) := by
  have h : Keeps [f] [.tm] s { s with tm := x } := (Keeps.refl [f] [.tm] s).upd rfl rfl
    (fun q hq => by cases q <;> first | rfl | exact absurd List.mem_cons_self hq)
  exact h.wr v List.mem_cons_self

/-- TIME_LATCH and TIME_RELEASE act once BOOT has been left. -/
theorem exec_timeLatch {s : State} (dt : Dt) (h : s.live = true) :
    exec (.timeLatch dt) s = .next (({ s with tm.latch := some (s.at dt.toNat) } : State).set1 F.dHeld) := by
  change execTimeLatch dt s = _
  simp only [execTimeLatch, when_true h]
theorem exec_timeRelease {s : State} (h : s.live = true) :
    exec .timeRelease s = .next (({ s with tm.latch := none } : State).clr F.dHeld) := by
  change execTimeRelease s = _
  simp only [execTimeRelease, when_true h]

/-- Settles O30: what a staged write does never touches what else waits on the host bus, and the latch is one part and one field. -/
theorem stagedWritesAndTimeLatch : Obligations.StagedWritesAndTimeLatch := by
  unfold Obligations.StagedWritesAndTimeLatch
  refine ⟨fun s hl hr he => ?_, fun s v hl hr he hd hs => ?_, fun dt s hl => ?_, fun s hl => ?_⟩
  · have hb := stagedApply_bus s
    exact ⟨_, when_true (strobes_of hl hr he), congrArg BusSt.dstage hb, congrArg BusSt.staging hb⟩
  · exact ⟨_, when_true (strobes_of hl hr he), stagedApply_slewlim hd hs⟩
  · exact ⟨_, exec_timeLatch dt hl, rfl, State.rd_set1 _ rfl, Keeps.tmWr s _ F.dHeld 1⟩
  · exact ⟨_, exec_timeRelease hl, rfl, State.rd_clr _ _, Keeps.tmWr s _ F.dHeld 0⟩

end Sys2Proof.Machine
end

section
/-! The register table as it is listed, and a note of HBEXTMAX, which no word outside SYS space shows. -/
namespace Sys2Proof.Machine

/-! ## Where the table lists a field -/

/-- The field stands in space `sp` at a place that its key tells apart, and no RC field has WRAP's key. -/
def Fld.listed (sp : Nat) (f : Fld) : Bool :=
  f.sp == sp && f.addr < 2 ^ 24 && f.lo < 128 && (f.acc != .rc || f.key != F.dWsWrap.key)

/-- Every field of every group of a family is listed in space `sp`. -/
def Grp.listed (sp : Nat) (g : Grp) : Bool :=
  (List.range g.n1).all (fun i => (List.range g.n2).all (fun j => (g.flds i j).all (Fld.listed sp)))

theorem grpsOf_listed : (List.range 18).all (fun sp => (grpsOf sp).all (Grp.listed sp)) = true := by decide +kernel

theorem grpsOf_beyond {sp : Nat} (h : 18 ≤ sp) : grpsOf sp = [] := by
  obtain ⟨n, rfl⟩ := Nat.exists_eq_add_of_le h
  rw [Nat.add_comm]
  rfl

theorem Grp.locate_lt {g : Grp} {a i j : Nat} (h : g.locate a = some (i, j)) : i < g.n1 ∧ j < g.n2 := by
  simp only [Grp.locate, Option.ite_none_left_eq_some, Option.ite_none_right_eq_some, Option.some.injEq, Prod.mk.injEq] at h
  obtain ⟨-, ⟨hi, hj, -⟩, rfl, rfl⟩ := h
  exact ⟨hi, hj⟩

theorem findGrp_mem {gs : List Grp} {a : Nat} {w : WordGrp} (h : findGrp gs a = some w) :
    ∃ g ∈ gs, ∃ i j, i < g.n1 ∧ j < g.n2 ∧ w.flds = g.flds i j := by
  induction gs with
  | nil => exact absurd h (by simp [findGrp])
  | cons g gs ih =>
    rw [findGrp] at h
    split at h
    · rename_i i j hl
      have hlt := Grp.locate_lt hl
      exact ⟨g, List.mem_cons_self, i, j, hlt.1, hlt.2, (congrArg WordGrp.flds (Option.some.inj h)).symm⟩
    · obtain ⟨g', hg, r⟩ := ih h
      exact ⟨g', List.mem_cons_of_mem _ hg, r⟩

/-- A field of a listed group. -/
theorem listed_of_grpAt {sp a : Nat} {w : WordGrp} (h : grpAt sp a = some w) {f : Fld} (hf : f ∈ w.flds) : f.listed sp = true := by
  obtain ⟨g, hg, i, j, hi, hj, hw⟩ := findGrp_mem h
  have hsp : sp < 18 := Nat.lt_of_not_le (fun hn => by
    rw [grpsOf_beyond hn] at hg
    exact absurd hg List.not_mem_nil)
  have hall := grpsOf_listed
  simp only [List.all_eq_true, Grp.listed, List.mem_range] at hall
  exact hall sp hsp g hg i hi j hj f (hw ▸ hf)

theorem Fld.listed_iff {sp : Nat} {f : Fld} : f.listed sp = true ↔
    f.sp = sp ∧ f.addr < 2 ^ 24 ∧ f.lo < 128 ∧ (f.acc = .rc → f.key ≠ F.dWsWrap.key) := by
  simp only [Fld.listed, Bool.and_eq_true, beq_iff_eq, decide_eq_true_eq, Bool.or_eq_true, bne_iff_ne, and_assoc, ne_eq,
    Decidable.or_iff_not_imp_left, Decidable.not_not]

theorem sp_of_grpAt {sp a : Nat} {w : WordGrp} (h : grpAt sp a = some w) {f : Fld} (hf : f ∈ w.flds) : f.sp = sp :=
  (Fld.listed_iff.1 (listed_of_grpAt h hf)).1

/-- The space of a listed field stands in its key. -/
theorem Fld.key_space {sp : Nat} {f : Fld} (h : f.listed sp = true) : f.key / 2 ^ 31 = sp := by
  obtain ⟨rfl, ha, hl, -⟩ := Fld.listed_iff.1 h
  unfold Fld.key
  omega

theorem Fld.key_ne_of_space {sp sp' : Nat} {f g : Fld} (hf : f.listed sp = true) (hg : g.listed sp' = true) (h : sp ≠ sp') :
    f.key ≠ g.key := fun e => h (by rw [← Fld.key_space hf, ← Fld.key_space hg, e])

/-! ## HBEXTMAX noted -/

theorem noteExt_rd_ne (n : Nat) (s : State) {g : Fld} (h : F.sysHbextmax.key ≠ g.key) : (noteExt n s).rd g = s.rd g :=
  State.rd_wr_ne s _ h
theorem noteExt_is_ne (n : Nat) (s : State) {g : Fld} (h : F.sysHbextmax.key ≠ g.key) : (noteExt n s).is g = s.is g := by
  unfold State.is; rw [noteExt_rd_ne n s h]

theorem hbextmax_key_ne {g : Fld} (h : g.sp ≠ 0) : F.sysHbextmax.key ≠ g.key := by
  have hk : F.sysHbextmax.key = 99328 := rfl
  rw [hk, Fld.key]
  omega

/-- A field outside SYS space reads as before. -/
theorem noteExt_rd (n : Nat) (s : State) {g : Fld} (h : g.sp ≠ 0) : (noteExt n s).rd g = s.rd g :=
  noteExt_rd_ne n s (hbextmax_key_ne h)
theorem noteExt_is (n : Nat) (s : State) {g : Fld} (h : g.sp ≠ 0) : (noteExt n s).is g = s.is g :=
  noteExt_is_ne n s (hbextmax_key_ne h)
theorem noteExt_bitOf (n : Nat) (s : State) {g : Fld} (i : Nat) (h : g.sp ≠ 0) : (noteExt n s).bitOf g i = s.bitOf g i := by
  unfold State.bitOf; rw [noteExt_rd n s h]

section
variable (n : Nat) (s : State)

@[simp] theorem noteExt_phase : (noteExt n s).phase = s.phase := rfl
@[simp] theorem noteExt_flt : (noteExt n s).flt = s.flt := rfl
@[simp] theorem noteExt_md : (noteExt n s).md = s.md := rfl
@[simp] theorem noteExt_bus : (noteExt n s).bus = s.bus := rfl
@[simp] theorem noteExt_tm : (noteExt n s).tm = s.tm := rfl
@[simp] theorem noteExt_st : (noteExt n s).st = s.st := rfl
@[simp] theorem noteExt_br : (noteExt n s).br = s.br := rfl
@[simp] theorem noteExt_tn : (noteExt n s).tn = s.tn := rfl
@[simp] theorem noteExt_pubs : (noteExt n s).pubs = s.pubs := rfl
@[simp] theorem noteExt_rf : (noteExt n s).rf = s.rf := rfl
@[simp] theorem noteExt_mo : (noteExt n s).mo = s.mo := rfl
@[simp] theorem noteExt_sc : (noteExt n s).sc = s.sc := rfl
@[simp] theorem noteExt_frec (c : FC) : (noteExt n s).frec c = s.frec c := rfl
@[simp] theorem noteExt_owner (k i : Nat) : (noteExt n s).owner k i = s.owner k i := rfl
@[simp] theorem noteExt_snapSlot (i : Nat) : (noteExt n s).snapSlot i = s.snapSlot i := rfl
@[simp] theorem noteExt_cap (i : Nat) : (noteExt n s).cap i = s.cap i := rfl
@[simp] theorem noteExt_tio (i : Nat) : (noteExt n s).tio i = s.tio i := rfl
@[simp] theorem noteExt_ref (i : Nat) : (noteExt n s).ref i = s.ref i := rfl
@[simp] theorem noteExt_fifo (i : Nat) : (noteExt n s).fifo i = s.fifo i := rfl
@[simp] theorem noteExt_txn (i : Nat) : (noteExt n s).txn i = s.txn i := rfl
@[simp] theorem noteExt_winOf (g : Nat) : (noteExt n s).winOf g = s.winOf g := rfl
@[simp] theorem noteExt_isolated (c : FC) (i : Nat) : (noteExt n s).isolated c i = s.isolated c i := rfl

@[simp] theorem noteExt_mode : (noteExt n s).mode = s.mode := by
  unfold State.mode; rw [noteExt_rd n s (Nat.succ_ne_zero _)]
@[simp] theorem noteExt_live : (noteExt n s).live = s.live := by simp [State.live]
@[simp] theorem noteExt_domOn (d : Nat) : (noteExt n s).domOn d = s.domOn d := noteExt_bitOf n s d (Nat.succ_ne_zero _)
@[simp] theorem noteExt_refState (k : Nat) : (noteExt n s).refState k = s.refState k := noteExt_rd n s (Nat.succ_ne_zero _)
@[simp] theorem noteExt_beatcnt : (noteExt n s).beatcnt = s.beatcnt := noteExt_rd n s (Nat.succ_ne_zero _)
@[simp] theorem noteExt_untraced : (noteExt n s).untraced = s.untraced := noteExt_is_ne n s (by decide)

end

end Sys2Proof.Machine
end

section
/-! No word outside SYS space shows HBEXTMAX: each function that a view reads gives the same with it noted. Where a field is read, the
discharger of `simp` unfolds it to its place in the table, whose space is not 0. -/
namespace Sys2Proof.Machine
variable (n : Nat) (s : State)

/-! ## The functions behind the views -/

@[simp] theorem noteExt_paired (k : Nat) : paired (noteExt n s) k = paired s k := by
  simp (disch := refine id ?_; with_unfolding_all exact Nat.succ_ne_zero _) [paired, noteExt_is, noteExt_rd]
@[simp] theorem noteExt_timeRef (k : Nat) : timeRef (noteExt n s) k = timeRef s k := by simp [timeRef]
@[simp] theorem noteExt_selTime : selTime (noteExt n s) = selTime s := by
  simp (disch := refine id ?_; with_unfolding_all exact Nat.succ_ne_zero _) [selTime, noteExt_rd]
@[simp] theorem noteExt_badCfg : badCfg (noteExt n s) = badCfg s := by
  simp (disch := refine id ?_; with_unfolding_all exact Nat.succ_ne_zero _) [badCfg, noteExt_is, noteExt_rd]
@[simp] theorem noteExt_prio : prio (noteExt n s) = prio s := by
  funext k
  simp (disch := refine id ?_; with_unfolding_all exact Nat.succ_ne_zero _) [prio, noteExt_rd]
@[simp] theorem noteExt_refQual : (noteExt n s).refQual = s.refQual := by
  funext k
  simp [State.refQual]
@[simp] theorem noteExt_ranksAbove : ranksAbove (noteExt n s) = ranksAbove s := by
  funext a b
  simp [ranksAbove]
@[simp] theorem noteExt_bestRef (p : Nat → Bool) : bestRef (noteExt n s) p = bestRef s p := by simp [bestRef]
@[simp] theorem noteExt_selHeld : selHeld (noteExt n s) = selHeld s := by
  simp (disch := refine id ?_; with_unfolding_all exact Nat.succ_ne_zero _) [selHeld, State.refHeld, noteExt_rd]
@[simp] theorem noteExt_wtrLeft : wtrLeft (noteExt n s) = wtrLeft s := by
  simp (disch := refine id ?_; with_unfolding_all exact Nat.succ_ne_zero _) [wtrLeft, noteExt_rd, noteExt_is]

@[simp] theorem noteExt_capSrcErr (k : Nat) : capSrcErr (noteExt n s) k = capSrcErr s k := by
  simp (disch := refine id ?_; with_unfolding_all exact Nat.succ_ne_zero _) [capSrcErr, noteExt_rd]
@[simp] theorem noteExt_tioDriven (p : Nat) : tioDriven (noteExt n s) p = tioDriven s p := by
  simp (disch := refine id ?_; with_unfolding_all exact Nat.succ_ne_zero _) [tioDriven, noteExt_rd]
@[simp] theorem noteExt_tioLevel (p : Nat) : tioLevel (noteExt n s) p = tioLevel s p := by simp [tioLevel]
@[simp] theorem noteExt_cenView (c : Nat) : cenView (noteExt n s) c = cenView s c := by
  simp (disch := refine id ?_; with_unfolding_all exact Nat.succ_ne_zero _) [cenView, noteExt_rd]

@[simp] theorem noteExt_blkLine : blkLine (noteExt n s) = blkLine s := by
  funext b
  simp (disch := refine id ?_; with_unfolding_all exact Nat.succ_ne_zero _) [blkLine, unclClasses, noteExt_rd]
@[simp] theorem noteExt_faultLines : faultLines (noteExt n s) = faultLines s := by simp [faultLines]
@[simp] theorem noteExt_blkLevel (b : Nat) : blkLevel (noteExt n s) b = blkLevel s b := rfl
@[simp] theorem noteExt_blkIsol (b : Nat) : blkIsol (noteExt n s) b = blkIsol s b := rfl
@[simp] theorem noteExt_liveWord (b : Nat) : liveWord (noteExt n s) b = liveWord s b := rfl
@[simp] theorem noteExt_recWord (b c : Nat) : recWord (noteExt n s) b c = recWord s b c := rfl
@[simp] theorem noteExt_errLow : errLow (noteExt n s) = errLow s := by
  simp (disch := refine id ?_; with_unfolding_all exact Nat.succ_ne_zero _) [errLow, State.powered, noteExt_rd, noteExt_is]

@[simp] theorem noteExt_bowait : bowait (noteExt n s) = bowait s := by
  have hb : backUntil (noteExt n s) = backUntil s := rfl
  simp (disch := refine id ?_; with_unfolding_all exact Nat.succ_ne_zero _) [bowait, hb, noteExt_is]
@[simp] theorem noteExt_chalValue : chalValue (noteExt n s) = chalValue s := rfl
@[simp] theorem noteExt_chalLeft : chalLeft (noteExt n s) = chalLeft s := rfl
@[simp] theorem noteExt_digestOf : digestOf (noteExt n s) = digestOf s := by
  simp (disch := refine id ?_; with_unfolding_all exact Nat.succ_ne_zero _) [digestOf, digestBytes, noteExt_rd]

/-- A field of CAL space reads as before, so its words and CALCRC do. -/
theorem noteExt_calWordAt (a : Nat) : calWordAt (noteExt n s) a = calWordAt s a := by
  unfold calWordAt
  split
  · rename_i g h
    have hr : ∀ f ∈ g.flds, (noteExt n s).rd f = s.rd f := fun f hf =>
      noteExt_rd n s (by rw [sp_of_grpAt h hf]; exact Nat.succ_ne_zero _)
    rw [List.foldl_rel (r := Eq) rfl (fun f hf v v' e => by rw [e, hr f hf])]
  · rfl
@[simp] theorem noteExt_calCrc : calCrc (noteExt n s) = calCrc s := by simp [calCrc, noteExt_calWordAt]

@[simp] theorem noteExt_portIrq : portIrq (noteExt n s) = portIrq s := by
  simp (disch := refine id ?_; with_unfolding_all exact Nat.succ_ne_zero _) [portIrq, noteExt_rd]
@[simp] theorem noteExt_ensLine : ensLine (noteExt n s) = ensLine s := by
  simp (disch := refine id ?_; with_unfolding_all exact Nat.succ_ne_zero _) [ensLine, noteExt_rd]
@[simp] theorem noteExt_hostPips (v : Nat) : hostPips (noteExt n s) v = hostPips s v := rfl
@[simp] theorem noteExt_irqstat : irqstat (noteExt n s) = irqstat s := by
  have hq : (noteExt n s).is F.sysSeq = s.is F.sysSeq := noteExt_is_ne n s (by decide)
  have hr : (noteExt n s).is F.sysResumed = s.is F.sysResumed := noteExt_is_ne n s (by decide)
  simp (disch := refine id ?_; with_unfolding_all exact Nat.succ_ne_zero _) [irqstat, hq, hr, noteExt_is, noteExt_rd]
@[simp] theorem noteExt_quala : quala (noteExt n s) = quala s := by simp [quala]
@[simp] theorem noteExt_peerState (k : Nat) : peerState (noteExt n s) k = peerState s k := noteExt_rd n s (Nat.succ_ne_zero _)
@[simp] theorem noteExt_ref10Qual : ref10Qual (noteExt n s) = ref10Qual s := by
  simp (disch := refine id ?_; with_unfolding_all exact Nat.succ_ne_zero _) [ref10Qual, noteExt_rd]
@[simp] theorem noteExt_thermoLive : thermoLive (noteExt n s) = thermoLive s := rfl
@[simp] theorem noteExt_summary11 : summary11 (noteExt n s) = summary11 s := by
  simp (disch := refine id ?_; with_unfolding_all exact Nat.succ_ne_zero _) [summary11, noteExt_rd, noteExt_is]
@[simp] theorem noteExt_qualb : qualb (noteExt n s) = qualb s := by simp [qualb]
@[simp] theorem noteExt_qualCount : qualCount (noteExt n s) = qualCount s := by simp [qualCount]
@[simp] theorem noteExt_hostPend : hostPend (noteExt n s) = hostPend s := rfl
@[simp] theorem noteExt_timeShown (t : Nat) : timeShown (noteExt n s) t = timeShown s t := rfl
@[simp] theorem noteExt_domWanted : domWanted (noteExt n s) = domWanted s := by
  funext d
  simp (disch := refine id ?_; with_unfolding_all exact Nat.succ_ne_zero _) [domWanted, wakes, noteExt_bitOf, noteExt_is]
@[simp] theorem noteExt_powreqView : powreqView (noteExt n s) = powreqView s := by simp [powreqView]
@[simp] theorem noteExt_maxLevel : maxLevel (noteExt n s) = maxLevel s := rfl
@[simp] theorem noteExt_faultBlk : faultBlk (noteExt n s) = faultBlk s := rfl
@[simp] theorem noteExt_stoneBusy : stoneBusy (noteExt n s) = stoneBusy s := rfl
@[simp] theorem noteExt_stoneIsol : (noteExt n s).stoneIsol = s.stoneIsol := rfl

/-! ## The views -/

theorem noteExt_refView (a lo : Nat) : refView (noteExt n s) a lo = refView s a lo := by simp [refView]
theorem noteExt_timeView (a lo : Nat) : timeView (noteExt n s) a lo = timeView s a lo := by simp [timeView]
theorem noteExt_bramView (a lo : Nat) : bramView (noteExt n s) a lo = bramView s a lo := by simp [bramView]
theorem noteExt_stoneView (a lo : Nat) : stoneView (noteExt n s) a lo = stoneView s a lo := by simp [stoneView, State.tallyC, stripUsed]
theorem noteExt_calView (a lo : Nat) : calView (noteExt n s) a lo = calView s a lo := by
  have ht : (noteExt n s).tdcOut = s.tdcOut := rfl
  simp [calView, ht]
theorem noteExt_faultView (a lo : Nat) : faultView (noteExt n s) a lo = faultView s a lo := by simp [faultView]
theorem noteExt_pressView (a lo : Nat) : pressView (noteExt n s) a lo = pressView s a lo := by simp [pressView]
theorem noteExt_svcView (g a lo : Nat) : svcView (noteExt n s) g a lo = svcView s g a lo := by
  simp (disch := refine id ?_; with_unfolding_all exact Nat.succ_ne_zero _) [svcView, noteExt_rd] <;> rfl
theorem noteExt_directView (t a lo : Nat) : directView (noteExt n s) t a lo = directView s t a lo := by
  simp (disch := refine id ?_; with_unfolding_all exact Nat.succ_ne_zero _) [directView, noteExt_rd, noteExt_is] <;> rfl
theorem noteExt_tenantView (t a lo : Nat) : tenantView (noteExt n s) t a lo = tenantView s t a lo := by
  simp (disch := refine id ?_; with_unfolding_all exact Nat.succ_ne_zero _) [tenantView, timeLatched, noteExt_rd]

/-! ## What a word reads, and whether it answers -/

/-- No live view of a field outside SYS space shows HBEXTMAX. -/
theorem noteExt_liveVal (g t : Nat) (f : Fld) : liveVal (noteExt n s) g t f = liveVal s g t f := by
  unfold liveVal
  split
  · exact noteExt_refView n s _ _
  · exact noteExt_timeView n s _ _
  · rw [noteExt_digestOf]
  · exact noteExt_bramView n s _ _
  · exact noteExt_stoneView n s _ _
  · exact noteExt_calView n s _ _
  · exact noteExt_faultView n s _ _
  · exact noteExt_pressView n s _ _
  · exact noteExt_svcView n s g _ _
  · rw [noteExt_beatcnt]
  · exact noteExt_directView n s t _ _
  · exact noteExt_tenantView n s t _ _
  · rfl

/-- What an engine published holds no note made since; one that has published nothing shows the state as it stands. -/
theorem noteExt_pub (e : Nat) :
    (noteExt n s).pub e = s.pub e ∨ (noteExt n s).pub e = noteExt n s ∧ s.pub e = s := by
  unfold State.pub
  rw [noteExt_pubs]
  cases s.pubs.get? e with
  | some p => exact .inl rfl
  | none => exact .inr ⟨rfl, rfl⟩

theorem noteExt_viewFld (g t : Nat) {f : Fld} (h : f.sp ≠ 0) : viewFld (noteExt n s) g t f = viewFld s g t f := by
  have hp : pendVal (noteExt n s) g f = pendVal s g f := by simp [pendVal]
  have hv : (liveVal (noteExt n s) g t f).getD ((noteExt n s).rd f) = (liveVal s g t f).getD (s.rd f) := by
    rw [noteExt_liveVal, noteExt_rd n s h]
  unfold viewFld
  rw [hp]
  cases f.owner with
  | none => dsimp only; rw [hv]
  | some e =>
    dsimp only
    obtain he | ⟨he, hs⟩ := noteExt_pub n s e
    · rw [he]
    · rw [he, hs, hv]

theorem noteExt_viewGrp (g t : Nat) {l : List Fld} (h : ∀ f ∈ l, f.sp ≠ 0) : viewGrp (noteExt n s) g t l = viewGrp s g t l :=
  List.foldl_rel (r := Eq) rfl (fun f hf _ _ e => by rw [e, noteExt_viewFld n s g t (h f hf)])

/-- A group outside SYS space reads as before. -/
theorem noteExt_grpVal (g t : Nat) {sp a : Nat} {w : WordGrp} (hw : grpAt sp a = some w) (h : sp ≠ 0) :
    grpVal (noteExt n s) g t sp w = grpVal s g t sp w := by
  unfold grpVal
  rw [noteExt_viewGrp n s g t (fun f hf => by rw [sp_of_grpAt hw hf]; exact h)]

theorem noteExt_denied (g sp a : Nat) : denied (noteExt n s) g sp a = denied s g sp a := by
  have ho : wordOwner (noteExt n s) sp a = wordOwner s sp a := rfl
  have hi : inSection (noteExt n s) a = inSection s a := rfl
  simp (disch := refine id ?_; with_unfolding_all exact Nat.succ_ne_zero _) [denied, tenantReaches, sharedWord,
    custodianDenied, ho, hi, noteExt_rd]

theorem noteExt_areaOf (g sp a : Nat) : areaOf (noteExt n s) g sp a = areaOf s g sp a := by
  have hp : partOf (noteExt n s) = partOf s := rfl
  have hl : logOf (noteExt n s) = logOf s := rfl
  have hs : (noteExt n s).snapSlot = s.snapSlot := rfl
  simp (disch := refine id ?_; with_unfolding_all exact Nat.succ_ne_zero _) only [areaOf, hp, hl, hs, noteExt_rd]

theorem noteExt_offDom (sp : Nat) (w : WordGrp) : offDom (noteExt n s) sp w = offDom s sp w := by simp [offDom]

/-- Which words answer does not hang on HBEXTMAX. -/
theorem noteExt_unavail (g sp a : Nat) : unavail (noteExt n s) g sp a = unavail s g sp a := by
  simp [unavail, noteExt_denied, noteExt_areaOf, noteExt_offDom]

end Sys2Proof.Machine
end

section
/-! A read of the host's window, part by part, and what each part leaves. -/
namespace Sys2Proof.Machine

/-! ## The window's own state -/

@[simp] theorem State.winOf_setWin (s : State) (g : Nat) (w : Win) : (s.setWin g w).winOf g = w := SMap.getD_set_same _ _ _ _
@[simp] theorem State.setWin_rd (s : State) (g : Nat) (w : Win) (f : Fld) : (s.setWin g w).rd f = s.rd f := rfl
@[simp] theorem drive_rd (v : Nat) (s : State) (f : Fld) : (drive v s).rd f = s.rd f := rfl
@[simp] theorem drive_winOf (v : Nat) (s : State) (g : Nat) : (drive v s).winOf g = s.winOf g := rfl
@[simp] theorem drive_rdata (v : Nat) (s : State) : (drive v s).bus.rdata = some (BitVec.ofNat 16 v) := rfl
@[simp] theorem touchGate_rd (sp a t : Nat) (s : State) (f : Fld) : (touchGate sp a t s).rd f = s.rd f := by
  unfold touchGate; split <;> rfl
@[simp] theorem touchGate_bus (sp a t : Nat) (s : State) : (touchGate sp a t s).bus = s.bus := by
  unfold touchGate; split <;> rfl

theorem State.winOf_of_bus {s t : State} (h : t.bus = s.bus) (g : Nat) : t.winOf g = s.winOf g := by
  unfold State.winOf; rw [h]

/-- Auto-increment moves the address alone; a wrap shows in WSTAT. -/
theorem windowNext_same (s : State) : (windowNext s).bus.rdata = s.bus.rdata ∧
    ((windowNext s).winOf 0).snap = (s.winOf 0).snap ∧ ∀ f, F.dWsWrap.key ≠ f.key → (windowNext s).rd f = s.rd f := by
  unfold windowNext
  dsimp only
  split
  · exact ⟨rfl, rfl, fun _ _ => rfl⟩
  · split
    · exact ⟨rfl, by rw [State.winOf_of_bus (State.set1_bus _ _), State.winOf_setWin], fun f h => State.rd_wr_ne _ _ h⟩
    · exact ⟨rfl, by rw [State.winOf_setWin], fun _ _ => rfl⟩

/-! ## A read that answers -/

/-- WDATA_READ while the host bus takes accesses. -/
theorem exec_wdataRead {s : State} (h : busUp s) (ext : BitVec 16) (ecc : List EccIn) (dt : Dt) :
    exec (.wdataRead ext ecc dt) s = .next
      (wdataRead (s.at dt.toNat) (ecc.foldl (fun s e => eccWord 0 dt.toNat e s) (noteExt ext.toNat s))) := by
  obtain ⟨hp, hd, ha⟩ := h
  change execWdataRead ext ecc dt s = _
  simp only [execWdataRead, hostAccess, when_true (show hostBus s = true by simp [hostBus, hp, hd]), ha, Bool.false_eq_true, if_false]

theorem wdataRead_live {s : State} (h : s.live = true) (t : Nat) :
    wdataRead t s = windowNext (drive (winRead 0 (s.winOf 0).space (s.winOf 0).addr t s).1
      (winRead 0 (s.winOf 0).space (s.winOf 0).addr t s).2.2) := by
  simp [wdataRead, h]

/-- RC_FIELD_READ of a window space reads the lowest word of the group. -/
theorem exec_rcFieldRead {s : State} (h : busLive s) {sp a : Nat} {w : WordGrp} (dt : Dt) (hsp : sp < 16) (ha : a < 2 ^ 24)
    (hw : grpAt sp a = some w) : exec (.rcFieldRead (BitVec.ofNat 5 sp) (BitVec.ofNat 24 a) dt) s = .next
      (drive (winRead 0 sp w.base (s.at dt.toNat) s).1 (winRead 0 sp w.base (s.at dt.toNat) s).2.2) := by
  obtain ⟨⟨hp, hd, hx⟩, hl⟩ := h
  have e1 : (BitVec.ofNat 5 sp).toNat = sp := by rw [BitVec.toNat_ofNat]; exact Nat.mod_eq_of_lt (by omega)
  have e2 : (BitVec.ofNat 24 a).toNat = a := by rw [BitVec.toNat_ofNat]; exact Nat.mod_eq_of_lt ha
  change execRcFieldRead _ _ dt s = _
  simp only [execRcFieldRead, hostAccess, when_true (show hostBus s = true by simp [hostBus, hp, hd]), hx, e1, e2, hw, hl,
    if_neg (show ¬ sp = 16 by omega), if_neg (show ¬ 16 < sp by omega), Bool.not_true, Bool.false_eq_true, if_false]

theorem agentGrp_host (sp a : Nat) : agentGrp 0 sp a = (grpAt sp a).map (fun w => (w, a - w.base)) := rfl

/-- A word that answers, in a listed group. -/
theorem winRead_lowest {s : State} {sp a t : Nat} {w : WordGrp} (hu : unavail s 0 sp a = none) (hw : grpAt sp a = some w)
    (hb : w.base = a) :
    winRead 0 sp a t s = ((readLowest 0 sp t w s).1, false, touchGate sp a t (readLowest 0 sp t w s).2) := by
  simp [winRead, hu, agentGrp_host, hw, hb]

theorem winRead_higher {s : State} {sp a t : Nat} {w : WordGrp} (hu : unavail s 0 sp a = none) (hw : grpAt sp a = some w)
    (hb : w.base < a) : winRead 0 sp a t s =
      ((readHigher 0 sp t (a - w.base) w s).1, false, touchGate sp a t (readHigher 0 sp t (a - w.base) w s).2) := by
  simp [winRead, hu, agentGrp_host, hw, show a - w.base ≠ 0 by omega]

/-! ## The lowest word -/

/-- The head of a capture queue, which an edge of the read's own cycle concerns. -/
def captureHead (sp base : Nat) : Prop := sp = 4 ∧ 0x400 ≤ base ∧ base < 0x500 ∧ base % 16 = 8

/-- The host's snapshot of a group, where it has several words. -/
def snapOf (sp : Nat) (w : WordGrp) (v : Nat) : Option Snap := if w.words = 1 then none else some ⟨sp, w.base, w.words, v⟩

theorem readLowest_eq {sp : Nat} {w : WordGrp} (h : ¬ captureHead sp w.base) (t : Nat) (s : State) :
    readLowest 0 sp t w s = (wordOf (grpVal s 0 t sp w) w.words 0, popHead sp w.base t
      (clearRc w.flds (s.setWin 0 { s.winOf 0 with snap := snapOf sp w (grpVal s 0 t sp w) }))) := by
  unfold captureHead at h
  simp only [readLowest, if_neg h, snapOf]

/-- A FIFO's head is taken from Bramble's part alone. -/
theorem popHead_same {sp base : Nat} (h : ¬ captureHead sp base) (t : Nat) (s : State) :
    (popHead sp base t s).bus = s.bus ∧ ∀ f, (popHead sp base t s).rd f = s.rd f := by
  unfold captureHead at h
  unfold popHead
  rw [if_neg h]
  split <;> exact ⟨rfl, fun _ => rfl⟩

@[simp] theorem clearRc_bus (l : List Fld) (s : State) : (clearRc l s).bus = s.bus :=
  bus_foldl (fun s f => by split <;> simp) l s

/-- What the read of a lowest word that answers leaves (R6, R107). -/
theorem winRead_lowest_effect {s : State} {sp a t : Nat} {w : WordGrp} (hu : unavail s 0 sp a = none) (hw : grpAt sp a = some w)
    (hb : w.base = a) (hc : ¬ captureHead sp w.base) :
    (winRead 0 sp a t s).1 = wordOf (grpVal s 0 t sp w) w.words 0 ∧
    ((winRead 0 sp a t s).2.2.winOf 0).snap = snapOf sp w (grpVal s 0 t sp w) ∧
    ∀ f, w.flds = [f] → f.acc = .rc → (winRead 0 sp a t s).2.2.rd f = f.rst % 2 ^ f.w := by
  rw [winRead_lowest hu hw hb, readLowest_eq hc]
  refine ⟨rfl, ?_, fun f hf hrc => ?_⟩
  · rw [State.winOf_of_bus ((touchGate_bus _ _ _ _).trans ((popHead_same hc _ _).1.trans (clearRc_bus _ _))), State.winOf_setWin]
  · rw [touchGate_rd, (popHead_same hc _ _).2, hf]
    simp [clearRc, hrc, State.rstFld, State.rd_wr_same]

/-! ## A higher word -/

theorem readHigher_held {s : State} {sp : Nat} {w : WordGrp} {sn : Snap} (h : (s.winOf 0).snap = some sn) (hs : sn.sp = sp)
    (hb : sn.base = w.base) (t i : Nat) : readHigher 0 sp t i w s = (wordOf sn.value w.words i, s) := by
  simp [readHigher, h, hs, hb]

theorem readHigher_torn {s : State} {sp : Nat} {w : WordGrp} (h : (s.winOf 0).snap = none) (t i : Nat) :
    readHigher 0 sp t i w s = (wordOf (grpVal s 0 t sp w) w.words i, (s.set1 F.dWsTorn).inc F.sysHbtorn) := by
  simp [readHigher, h]

/-! ## What a read leaves alone -/

/-- The fields that a read of the window at a word of space `sp` can change: those of its group, the marks of a capture whose last edge the
read takes back, and the host bus's own. -/
def windowFlds (sp a : Nat) : List Fld :=
  ((grpAt sp a).map WordGrp.flds).getD [] ++ ((List.range 16).map F.timeCapOvf ++ ((List.range 16).map F.timeCapLostcnt ++
    [F.dWsNotready, F.dWsDenied, F.dWsOffdom, F.dWsUnmap, F.dWsTorn, F.sysHbtorn, F.dWsWrap]))

section
variable {l : List Fld} {p : List Part} {s t : State}

theorem Keeps.setWin (h : Keeps l p s t) (g : Nat) (w : Win) (hp : Part.bus ∈ p) : Keeps l p s (t.setWin g w) :=
  h.upd rfl rfl (fun q hq => by cases q <;> first | rfl | exact absurd hp hq)

theorem Keeps.drive (h : Keeps l p s t) (v : Nat) (hp : Part.bus ∈ p) : Keeps l p s (drive v t) :=
  h.upd rfl rfl (fun q hq => by cases q <;> first | rfl | exact absurd hp hq)

theorem Keeps.setCap (h : Keeps l p s t) (n : Nat) (c : Cap) (hp : Part.tm ∈ p) : Keeps l p s (t.setCap n c) :=
  h.upd rfl rfl (fun q hq => by cases q <;> first | rfl | exact absurd hp hq)

theorem Keeps.noteExt (n : Nat) (h : Keeps l p s t) (hf : F.sysHbextmax ∈ l) : Keeps l p s (noteExt n t) := h.wr _ hf

theorem Keeps.windowNext (h : Keeps l p s t) (hf : F.dWsWrap ∈ l) (hp : Part.bus ∈ p) : Keeps l p s (windowNext t) := by
  unfold Machine.windowNext
  dsimp only
  split
  · exact h
  · split
    · exact (h.setWin _ _ hp).set1 hf
    · exact h.setWin _ _ hp

theorem Keeps.tenantLog (h : Keeps l p s t) (k kind i x : Nat) (he : Part.en ∈ p) (ht : Part.tn ∈ p) :
    Keeps l p s (tenantLog k kind i x t) := by
  unfold Machine.tenantLog
  dsimp only
  split
  · exact h
  · exact h.upd rfl rfl (fun q hq => by cases q <;> first | exact absurd he hq | exact absurd ht hq | rfl)

theorem Keeps.capBack (h : Keeps l p s t) (n x : Nat) (hp : Part.tm ∈ p) (h1 : F.timeCapOvf n ∈ l) (h2 : F.timeCapLostcnt n ∈ l) :
    Keeps l p s (capBack n x t) := by
  unfold Machine.capBack
  split
  · dsimp only
    split
    · exact h.setCap _ _ hp
    · exact ((h.setCap _ _ hp).wr _ h1).wr _ h2
  · exact h

theorem Keeps.capPop (h : Keeps l p s t) (n x : Nat) (hp : Part.tm ∈ p) (he : Part.en ∈ p) (ht : Part.tn ∈ p) :
    Keeps l p s (capPop n x t) := by
  unfold Machine.capPop
  dsimp only
  split
  · split
    · exact h.setCap _ _ hp
    · exact (h.setCap _ _ hp).tenantLog _ _ _ _ he ht
  · exact h.setCap _ _ hp

theorem Keeps.popHead (h : Keeps l p s t) (sp b x : Nat) (hp : Part.tm ∈ p) (he : Part.en ∈ p) (ht : Part.tn ∈ p)
    (hb : Part.br ∈ p) : Keeps l p s (popHead sp b x t) := by
  unfold Machine.popHead
  split
  · exact h.capPop _ _ hp he ht
  · split
    · exact h.upd rfl rfl (fun q hq => by cases q <;> first | rfl | exact absurd hb hq)
    · exact h

theorem Keeps.clearRc (h : Keeps l p s t) {fs : List Fld} (hf : ∀ f ∈ fs, f ∈ l) : Keeps l p s (clearRc fs t) := by
  unfold Machine.clearRc
  induction fs generalizing t with
  | nil => exact h
  | cons f fs ih =>
    rw [List.foldl_cons]
    have hm := hf f List.mem_cons_self
    have hs : Keeps l p s (if f.acc == .rc then t.rstFld f else t) := by
      split
      · exact h.rstFld hm
      · exact h
    exact ih hs (fun g hg => hf g (List.mem_cons_of_mem _ hg))

theorem Keeps.touchGate (h : Keeps l p s t) (sp a x : Nat) (hp : Part.sc ∈ p) : Keeps l p s (touchGate sp a x t) := by
  unfold Machine.touchGate
  split
  · exact h.upd rfl rfl (fun q hq => by cases q <;> first | rfl | exact absurd hp hq)
  · exact h

end

end Sys2Proof.Machine
end

section
/-! What a read of the host's window answers, and the fields and parts that it can change. -/
namespace Sys2Proof.Machine

/-! ## The frame of a read -/

/-- The parts beside the register file that a read of the window can change: the host bus, captures, the logs of tenants, FIFOs and the
time of the gate's last use. -/
def windowParts : List Part := [.bus, .tm, .en, .tn, .br, .sc]

theorem flds_subset_windowFlds {sp a : Nat} {w : WordGrp} (h : grpAt sp a = some w) : ∀ f ∈ w.flds, f ∈ windowFlds sp a := by
  intro f hf
  simp [windowFlds, h, hf]

theorem capture_mem_windowFlds (sp a : Nat) {n : Nat} (h : n < 16) :
    F.timeCapOvf n ∈ windowFlds sp a ∧ F.timeCapLostcnt n ∈ windowFlds sp a := by
  simp only [windowFlds, List.mem_append]
  exact ⟨.inr (.inl (List.mem_map_of_mem (List.mem_range.2 h))), .inr (.inr (.inl (List.mem_map_of_mem (List.mem_range.2 h))))⟩

/-- The host bus's own fields. -/
theorem host_mem_windowFlds (sp a : Nat) {f : Fld}
    (h : f ∈ [F.dWsNotready, F.dWsDenied, F.dWsOffdom, F.dWsUnmap, F.dWsTorn, F.sysHbtorn, F.dWsWrap]) : f ∈ windowFlds sp a := by
  simp only [windowFlds, List.mem_append]
  exact .inr (.inr (.inr h))

theorem unavail_flag {s : State} {g sp a : Nat} {f : Fld} (h : unavail s g sp a = some f) :
    f ∈ [F.dWsDenied, F.dWsOffdom, F.dWsUnmap] := by
  unfold unavail at h
  split at h
  · simp [← Option.some.inj h]
  · split at h
    · split at h
      · simp [← Option.some.inj h]
      · exact absurd h (by simp)
    · split at h
      · exact absurd h (by simp)
      · simp [← Option.some.inj h]

theorem Keeps.readLowest (s : State) {sp a : Nat} {w : WordGrp} (hw : grpAt sp a = some w) (x : Nat) :
    Keeps (windowFlds sp a) windowParts s (readLowest 0 sp x w s).2 := by
  have h0 := Keeps.refl (windowFlds sp a) windowParts s
  have hb : Part.bus ∈ windowParts := by decide
  have ht : Part.tm ∈ windowParts := by decide
  unfold Machine.readLowest
  dsimp only
  refine ((Keeps.setWin ?_ _ _ hb).clearRc (flds_subset_windowFlds hw)).popHead _ _ _ ht (by decide) (by decide) (by decide)
  split
  · rename_i hc
    obtain ⟨h1, h2⟩ := capture_mem_windowFlds sp a (n := (w.base - 0x400) / 16) (by omega)
    exact h0.capBack _ _ ht h1 h2
  · exact h0

theorem Keeps.readHigher (s : State) (sp a i x : Nat) (w : WordGrp) :
    Keeps (windowFlds sp a) windowParts s (readHigher 0 sp x i w s).2 := by
  have h0 := Keeps.refl (windowFlds sp a) windowParts s
  have htorn : Keeps (windowFlds sp a) windowParts s ((s.set1 F.dWsTorn).inc F.sysHbtorn) :=
    (h0.set1 (host_mem_windowFlds sp a (by decide))).inc (host_mem_windowFlds sp a (by decide))
  unfold Machine.readHigher
  split
  · split
    · exact h0
    · exact htorn
  · exact htorn

theorem Keeps.winRead (s : State) (sp a x : Nat) : Keeps (windowFlds sp a) windowParts s (winRead 0 sp a x s).2.2 := by
  have h0 := Keeps.refl (windowFlds sp a) windowParts s
  unfold Machine.winRead
  split
  · rename_i f hf
    have hm : f ∈ windowFlds sp a := host_mem_windowFlds sp a
      (List.mem_cons_of_mem _ (List.mem_append_left [F.dWsTorn, F.sysHbtorn, F.dWsWrap] (unavail_flag hf)))
    exact h0.set1 hm
  · rw [agentGrp_host]
    cases hw : grpAt sp a with
    | some w =>
      dsimp only [Option.map_some]
      refine Keeps.touchGate ?_ _ _ _ (by decide)
      split
      · exact Keeps.readLowest s hw x
      · exact Keeps.readHigher s sp a _ x w
    | none =>
      dsimp only [Option.map_none]
      split
      · exact h0.setWin _ _ (by decide)
      · exact h0

/-- A WDATA read that completes changes no more than its window's fields. -/
theorem Keeps.wdataRead (s : State) (x : Nat) :
    Keeps (windowFlds (s.winOf 0).space (s.winOf 0).addr) windowParts s (wdataRead x s) := by
  have hb : Part.bus ∈ windowParts := by decide
  have hw := host_mem_windowFlds (s.winOf 0).space (s.winOf 0).addr (f := F.dWsWrap) (by decide)
  unfold Machine.wdataRead
  split
  · exact (((Keeps.refl _ _ s).set1 (host_mem_windowFlds _ _ (by decide))).drive 0 hb).windowNext hw hb
  · exact ((Keeps.winRead s _ _ x).drive _ hb).windowNext hw hb

/-- A field of another space, and neither of TIME, SYS nor the direct area, is none of them. -/
theorem windowFlds_key_ne {sp' : Nat} {f : Fld} (hf : f.listed sp' = true) {sp : Nat} (h : sp ≠ sp') (hne : sp' ∉ [0, 4, 16])
    (a : Nat) : ∀ g ∈ windowFlds sp a, g.key ≠ f.key := by
  have hother : ∀ g ∈ ((List.range 16).map F.timeCapOvf ++ ((List.range 16).map F.timeCapLostcnt ++
      [F.dWsNotready, F.dWsDenied, F.dWsOffdom, F.dWsUnmap, F.dWsTorn, F.sysHbtorn, F.dWsWrap])),
      ∃ k ∈ [0, 4, 16], g.listed k = true := by decide +kernel
  intro g hg
  obtain hg | hg := List.mem_append.1 hg
  · cases hw : grpAt sp a with
    | none => simp [hw] at hg
    | some w => exact Fld.key_ne_of_space (listed_of_grpAt hw (by simpa [hw] using hg)) hf h
  · obtain ⟨k, hk, hl⟩ := hother g hg
    exact Fld.key_ne_of_space hl hf (fun e => hne (e ▸ hk))

/-! ## A corrected error -/

/-- A corrected error is noted, counted and recorded (R29). -/
theorem eccWord_corrected {e : EccIn} (h : e.double = false) (g dt : Nat) (s : State) :
    (eccWord g dt e s).rd F.fabEccaddr = e.addr.toNat ∧
    (eccWord g dt e s).rd F.fabEccce = min (s.rd F.fabEccce + 1) 65535 ∧
    ((eccWord g dt e s).frec .orchardCe).uncl = true ∧
    (eccWord g dt e s).rd FC.orchardCe.cnt = min (s.rd FC.orchardCe.cnt + 1) 65535 ∧
    (eccWord g dt e s).bus = s.bus := by
  have he : eccWord g dt e s = ((s.wr F.fabEccaddr e.addr.toNat).inc F.fabEccce).occ .orchardCe
      (e.addr.toNat / 64) (e.addr.toNat / 64) g dt := by simp [eccWord, h]
  rw [he]
  generalize hv : (s.wr F.fabEccaddr e.addr.toNat).inc F.fabEccce = v
  have hrec := State.occ_recorded v .orchardCe (e.addr.toNat / 64) (e.addr.toNat / 64) g dt
  have hk : Keeps [FC.orchardCe.cnt] [.flt, .br, .pr] v (v.occ .orchardCe (e.addr.toNat / 64) (e.addr.toNat / 64) g dt) :=
    (Keeps.refl _ _ v).occ _ _ _ _ _ List.mem_cons_self (by decide) (by decide) (by decide)
  have haddr : v.rd F.fabEccaddr = e.addr.toNat := by
    subst hv
    rw [State.inc, State.incBy, State.rd_wr_ne _ _ (by decide), State.rd_wr_same]
    exact Nat.mod_eq_of_lt e.addr.isLt
  have hce : v.rd F.fabEccce = min (s.rd F.fabEccce + 1) 65535 := by
    subst hv
    rw [State.rd_inc, State.rd_wr_ne _ _ (by decide)]
    rfl
  have hcnt : v.rd FC.orchardCe.cnt = s.rd FC.orchardCe.cnt := by
    subst hv
    rw [State.inc, State.incBy, State.rd_wr_ne _ _ (by decide), State.rd_wr_ne _ _ (by decide)]
  have hbus : v.bus = s.bus := by subst hv; simp
  exact ⟨(hk.regs _ (by decide)).trans haddr, (hk.regs _ (by decide)).trans hce, hrec.uncleared, hcnt ▸ hrec.count,
    (hk.part .bus (by decide)).trans hbus⟩

/-- A read through WDATA leaves a field of a space that neither the window shows nor the host bus keeps its marks in. -/
theorem wdataRead_leaves {s : State} (x : Nat) {sp' : Nat} {f : Fld} (hf : f.listed sp' = true) (h : (s.winOf 0).space ≠ sp')
    (hne : sp' ∉ [0, 4, 16]) : (wdataRead x s).rd f = s.rd f :=
  (Keeps.wdataRead s x).regs f (windowFlds_key_ne hf h hne _)

/-! ## WDATA_READ without an error found -/

/-- While BOOT has been left: the longest extension is noted, and the window is read and moves on. -/
theorem exec_wdataRead_live {s : State} (h : busLive s) (ext : BitVec 16) (dt : Dt) :
    exec (.wdataRead ext [] dt) s = .next (windowNext
      (drive (winRead 0 (s.winOf 0).space (s.winOf 0).addr (s.at dt.toNat) (noteExt ext.toNat s)).1
        (winRead 0 (s.winOf 0).space (s.winOf 0).addr (s.at dt.toNat) (noteExt ext.toNat s)).2.2)) := by
  rw [exec_wdataRead h.1, List.foldl_nil, wdataRead_live ((noteExt_live _ s).trans h.2), noteExt_winOf]

theorem not_captureHead {sp a : Nat} (h : ¬ (sp = 4 ∧ 0x400 ≤ a ∧ a < 0x500)) : ¬ captureHead sp a :=
  fun ⟨hsp, hlo, hhi, _⟩ => h ⟨hsp, hlo, hhi⟩

/-- The lowest word through WDATA. -/
theorem wdataRead_lowest {s : State} (h : busLive s) (ext : BitVec 16) (dt : Dt) {w : WordGrp}
    (hu : unavail s 0 (s.winOf 0).space (s.winOf 0).addr = none) (hw : grpAt (s.winOf 0).space (s.winOf 0).addr = some w)
    (hb : w.base = (s.winOf 0).addr) (hsp : (s.winOf 0).space ≠ 0) (hc : ¬ captureHead (s.winOf 0).space w.base) :
    ∃ t, exec (.wdataRead ext [] dt) s = .next t ∧
      t.bus.rdata = some (BitVec.ofNat 16 (wordOf (grpVal s 0 (s.at dt.toNat) (s.winOf 0).space w) w.words 0)) ∧
      (t.winOf 0).snap = snapOf (s.winOf 0).space w (grpVal s 0 (s.at dt.toNat) (s.winOf 0).space w) ∧
      ∀ f, w.flds = [f] → f.acc = .rc → t.rd f = f.rst % 2 ^ f.w := by
  have hu' := (noteExt_unavail ext.toNat s 0 (s.winOf 0).space (s.winOf 0).addr).trans hu
  obtain ⟨hv, hs, hr⟩ := winRead_lowest_effect (t := s.at dt.toNat) hu' hw hb hc
  rw [noteExt_grpVal ext.toNat s 0 _ hw hsp] at hv hs
  refine ⟨_, exec_wdataRead_live h ext dt, ?_, ?_, fun f hf hrc => ?_⟩
  · rw [(windowNext_same _).1, drive_rdata, hv]
  · rw [(windowNext_same _).2.1, drive_winOf, hs]
  · have hne := (Fld.listed_iff.1 (listed_of_grpAt hw (f := f) (by simp [hf]))).2.2.2 hrc
    rw [(windowNext_same _).2.2 f hne.symm, drive_rd, hr f hf hrc]

/-- The lowest word through RC_FIELD_READ. -/
theorem rcFieldRead_lowest {s : State} (h : busLive s) (dt : Dt) {sp : Nat} {w : WordGrp} (hsp : sp < 16) (ha : w.base < 2 ^ 24)
    (hu : unavail s 0 sp w.base = none) (hw : grpAt sp w.base = some w) (hc : ¬ captureHead sp w.base) :
    ∃ t, exec (.rcFieldRead (BitVec.ofNat 5 sp) (BitVec.ofNat 24 w.base) dt) s = .next t ∧
      t.bus.rdata = some (BitVec.ofNat 16 (wordOf (grpVal s 0 (s.at dt.toNat) sp w) w.words 0)) ∧
      (t.winOf 0).snap = snapOf sp w (grpVal s 0 (s.at dt.toNat) sp w) ∧
      ∀ f, w.flds = [f] → f.acc = .rc → t.rd f = f.rst % 2 ^ f.w := by
  obtain ⟨hv, hs, hr⟩ := winRead_lowest_effect (t := s.at dt.toNat) hu hw rfl hc
  refine ⟨_, exec_rcFieldRead h dt hsp ha hw, ?_, ?_, fun f hf hrc => ?_⟩
  · rw [drive_rdata, hv]
  · rw [drive_winOf, hs]
  · rw [drive_rd, hr f hf hrc]

/-- A higher word under a snapshot of its group. -/
theorem wdataRead_held {s : State} (h : busLive s) (ext : BitVec 16) (dt : Dt) {w : WordGrp} {sn : Snap}
    (hu : unavail s 0 (s.winOf 0).space (s.winOf 0).addr = none) (hw : grpAt (s.winOf 0).space (s.winOf 0).addr = some w)
    (hb : w.base < (s.winOf 0).addr) (hn : (s.winOf 0).snap = some sn) (hsp : sn.sp = (s.winOf 0).space) (hbase : sn.base = w.base) :
    ∃ t, exec (.wdataRead ext [] dt) s = .next t ∧
      t.bus.rdata = some (BitVec.ofNat 16 (wordOf sn.value w.words ((s.winOf 0).addr - w.base))) ∧ (t.winOf 0).snap = some sn ∧
      ((s.winOf 0).space ≠ 14 → Keeps [F.sysHbextmax, F.dWsWrap] [.bus] s t) := by
  have hu' := (noteExt_unavail ext.toNat s 0 (s.winOf 0).space (s.winOf 0).addr).trans hu
  refine ⟨_, exec_wdataRead_live h ext dt, ?_⟩
  rw [winRead_higher hu' hw hb, readHigher_held ((congrArg Win.snap (noteExt_winOf _ s 0)).trans hn) hsp hbase]
  refine ⟨?_, ?_, fun h14 => ?_⟩
  · rw [(windowNext_same _).1, drive_rdata]
  · rw [(windowNext_same _).2.1, drive_winOf, State.winOf_of_bus (touchGate_bus _ _ _ _), noteExt_winOf, hn]
  · rw [touchGate, if_neg (fun e => h14 e.1)]
    exact ((((Keeps.refl _ _ s).noteExt _ (by decide)).drive _ (by decide)).windowNext (by decide) (by decide))

/-- A higher word without a snapshot. -/
theorem wdataRead_torn {s : State} (h : busLive s) (ext : BitVec 16) (dt : Dt) {w : WordGrp}
    (hu : unavail s 0 (s.winOf 0).space (s.winOf 0).addr = none) (hw : grpAt (s.winOf 0).space (s.winOf 0).addr = some w)
    (hb : w.base < (s.winOf 0).addr) (hn : (s.winOf 0).snap = none) :
    ∃ t, exec (.wdataRead ext [] dt) s = .next t ∧ t.rd F.dWsTorn = 1 ∧
      t.rd F.sysHbtorn = min (s.rd F.sysHbtorn + 1) 65535 ∧ (t.winOf 0).snap = none := by
  have hu' := (noteExt_unavail ext.toNat s 0 (s.winOf 0).space (s.winOf 0).addr).trans hu
  refine ⟨_, exec_wdataRead_live h ext dt, ?_⟩
  rw [winRead_higher hu' hw hb, readHigher_torn ((congrArg Win.snap (noteExt_winOf _ s 0)).trans hn)]
  refine ⟨?_, ?_, ?_⟩
  · rw [(windowNext_same _).2.2 _ (by decide), drive_rd, touchGate_rd, State.inc, State.incBy, State.rd_wr_ne _ _ (by decide),
      State.rd_set1 _ rfl]
  · rw [(windowNext_same _).2.2 _ (by decide), drive_rd, touchGate_rd, State.rd_inc, State.set1, State.rd_wr_ne _ _ (by decide),
      noteExt_rd_ne _ _ (by decide)]
    rfl
  · rw [(windowNext_same _).2.1, drive_winOf, State.winOf_of_bus (touchGate_bus _ _ _ _), State.winOf_of_bus (State.inc_bus _ _),
      State.winOf_of_bus (State.set1_bus _ _), noteExt_winOf, hn]

/-- A read that finds a corrected error, of a space that shows neither FABRIC nor the faults. -/
theorem wdataRead_corrected {s : State} (h : busUp s) (ext : BitVec 16) {e : EccIn} (he : e.double = false) (dt : Dt)
    (h12 : (s.winOf 0).space ≠ 12) (h15 : (s.winOf 0).space ≠ 15) :
    ∃ t, exec (.wdataRead ext [e] dt) s = .next t ∧ t.rd F.fabEccaddr = e.addr.toNat ∧
      t.rd F.fabEccce = min (s.rd F.fabEccce + 1) 65535 ∧ (t.frec .orchardCe).uncl = true ∧
      t.rd FC.orchardCe.cnt = min (s.rd FC.orchardCe.cnt + 1) 65535 := by
  refine ⟨_, exec_wdataRead h ext [e] dt, ?_⟩
  rw [List.foldl_cons, List.foldl_nil]
  obtain ⟨haddr, hce, huncl, hcnt, hbus⟩ := eccWord_corrected he 0 dt.toNat (noteExt ext.toNat s)
  rw [noteExt_rd _ _ (by decide)] at hce hcnt
  generalize eccWord 0 dt.toNat e (noteExt ext.toNat s) = u at haddr hce huncl hcnt hbus ⊢
  rw [← noteExt_winOf ext.toNat s, ← State.winOf_of_bus hbus] at h12 h15
  have hflt : (wdataRead (s.at dt.toNat) u).flt = u.flt := (Keeps.wdataRead u _).part .flt (by decide)
  refine ⟨?_, ?_, ?_, ?_⟩
  · rw [wdataRead_leaves _ (sp' := 15) (by decide) h15 (by decide), haddr]
  · rw [wdataRead_leaves _ (sp' := 15) (by decide) h15 (by decide), hce]
  · rw [State.frec, hflt]; exact huncl
  · rw [wdataRead_leaves _ (sp' := 12) (by decide) h12 (by decide), hcnt]

/-- Settles O26: each clause is one of the reads above, the lowest word through WDATA or through RC_FIELD_READ. -/
theorem snapshotsAndReadClears : Obligations.SnapshotsAndReadClears := by
  unfold Obligations.SnapshotsAndReadClears
  refine ⟨fun c ext dt s sp a w h hc hu hw hb hsp hcap => ?_, fun ext dt s a w sn h hu ha hw hb hn hsp hbase => ?_,
    fun ext dt s a w h hu ha hw hb hn => ?_, fun ext e dt s h he h12 h15 => wdataRead_corrected h ext he dt h12 h15⟩
  · have hhead := not_captureHead (hb ▸ hcap)
    obtain ⟨rfl, rfl, rfl⟩ | ⟨rfl, hlt, ha⟩ := hc
    · rw [← hb]
      exact wdataRead_lowest h ext dt hu hw hb hsp hhead
    · rw [← hb] at ha hu hw ⊢
      exact rcFieldRead_lowest h dt hlt ha hu hw hhead
  · subst ha
    exact wdataRead_held h ext dt hu hw hb hn hsp hbase
  · subst ha
    exact wdataRead_torn h ext dt hu hw hb hn

end Sys2Proof.Machine
end

section
/-! The carrier's supply: what its fall does to the frames of the links, and what AUX_LOW and AUX_RESTORE leave. -/
namespace Sys2Proof.Machine

/-! ## Bits of a mask -/

theorem bit_setBit_self (v i : Nat) (b : Bool) : bit (setBit v i b) i = b := by
  unfold bit setBit
  split
  · assumption
  · rename_i h
    cases b with
    | true => simpa [Nat.testBit_two_pow_add_eq, Nat.add_comm v] using h
    | false =>
      have hv : v.testBit i = true := by simpa using h
      have hle : 2 ^ i ≤ v := Nat.ge_two_pow_of_testBit hv
      have hsum := Nat.testBit_two_pow_add_eq (v - 2 ^ i) i
      rw [Nat.add_sub_cancel' hle, hv] at hsum
      simpa using hsum.symm

/-! ## A link's frame in progress -/

theorem State.link_setLink_same (s : State) (k : Nat) (l : Link) : (s.setLink k l).link k = l := SMap.getD_set_same _ _ _ _
theorem State.link_setLink_ne (s : State) {j k : Nat} (l : Link) (h : j ≠ k) : (s.setLink k l).link j = s.link j :=
  SMap.getD_set_ne _ _ _ h.symm

theorem State.link_of_tn {s t : State} (h : t.tn = s.tn) (j : Nat) : t.link j = s.link j := by rw [State.link, State.link, h]

/-- A link replaced by one whose frame is as far as it was leaves every link's frame as it was. -/
theorem State.setLink_frame (s : State) {k : Nat} {l : Link} (h : l.frame = (s.link k).frame) (j : Nat) :
    ((s.setLink k l).link j).frame = (s.link j).frame := by
  by_cases hj : j = k
  · rw [hj, State.link_setLink_same, h]
  · rw [State.link_setLink_ne s l hj]

/-- An occurrence of a fault touches no link. -/
theorem State.occ_tn (s : State) (c : FC) (inst info master dt : Nat) : (s.occ c inst info master dt).tn = s.tn :=
  ((Keeps.refl [F.fltCnt c.blk c.bit] [.flt, .br, .pr] s).occ c inst info master dt List.mem_cons_self (by decide) (by decide)
    (by decide)).part .tn (by decide)

theorem burst_frame (k dt : Nat) (s : State) (j : Nat) : ((burst k dt s).link j).frame = (s.link j).frame := by
  unfold burst
  dsimp only
  split
  · rfl
  · split
    · rw [State.link_of_tn (State.occ_tn _ _ _ _ _ _)]
      exact State.setLink_frame s (by rfl) j
    · exact State.setLink_frame s (by rfl) j

/-- A discarded frame's count and flag begin and end no frame. -/
theorem frameDrop_frame (k dt : Nat) (f : Fld) (flag : Nat) (s : State) (j : Nat) :
    ((frameDrop k dt f flag s).link j).frame = (s.link j).frame := by
  rw [frameDrop, burst_frame]
  exact State.setLink_frame (s.inc f) (by rfl) j

theorem frameEnd_frame (k n : Nat) (s : State) (j : Nat) :
    ((frameEnd k n s).link j).frame = if j = k then false else (s.link j).frame := by
  by_cases h : j = k
  · rw [if_pos h, h, frameEnd, State.link_setLink_same]
  · rw [if_neg h, frameEnd, State.link_setLink_ne _ _ h]

/-! ## Every frame in progress abandoned -/

/-- One link's part of `linksAbandon`. -/
def linkAbandon (dt : Nat) (s : State) (k : Nat) : State :=
  if (s.link k).frame then frameDrop k dt (linkFramecnt k) 3 (frameEnd k 0 s) else s

theorem linksAbandon_eq (dt : Nat) (s : State) : linksAbandon dt s = (List.range 5).foldl (linkAbandon dt) s := rfl

theorem linkAbandon_frame (dt : Nat) (s : State) (k j : Nat) :
    ((linkAbandon dt s k).link j).frame = if j = k then false else (s.link j).frame := by
  unfold linkAbandon
  split
  · rw [frameDrop_frame, frameEnd_frame]
  · rename_i h
    split
    · rename_i e
      rw [e]
      simpa using h
    · rfl

theorem foldl_linkAbandon_frame (dt : Nat) (ks : List Nat) (s : State) (j : Nat) :
    ((ks.foldl (linkAbandon dt) s).link j).frame = if j ∈ ks then false else (s.link j).frame := by
  induction ks generalizing s with
  | nil => simp
  | cons k ks ih =>
    rw [List.foldl_cons, ih, linkAbandon_frame]
    by_cases hk : j = k <;> simp [hk]

/-- None of the five links has a frame in progress afterwards. -/
theorem linksAbandon_ends (dt : Nat) (s : State) {k : Nat} (h : k < 5) : ((linksAbandon dt s).link k).frame = false := by
  rw [linksAbandon_eq, foldl_linkAbandon_frame, if_pos (List.mem_range.2 h)]

/-- With no frame in progress there is nothing to abandon. -/
theorem linksAbandon_idle (dt : Nat) {s : State} (h : ∀ k, k < 5 → (s.link k).frame = false) : linksAbandon dt s = s := by
  have hstep : ∀ ks : List Nat, (∀ k ∈ ks, k < 5) → ks.foldl (linkAbandon dt) s = s := by
    intro ks hks
    induction ks with
    | nil => rfl
    | cons k ks ih =>
      have hk : linkAbandon dt s k = s := by simp [linkAbandon, h k (hks k List.mem_cons_self)]
      rw [List.foldl_cons, hk]
      exact ih (fun i hi => hks i (List.mem_cons_of_mem _ hi))
  exact hstep _ (fun _ => List.mem_range.1)

/-! ## AUX_LOW -/

/-- The pins released: no read data driven, and a host cycle of that moment counted as abandoned (R52, R101). -/
def pinsRelease (cy : Bool) (s : State) : State :=
  let u : State := { s with pw.auxLow := true, bus.rdata := none }
  if cy then u.inc F.sysHbabandon else u

theorem exec_auxLow {s : State} (cy : Bool) (dt : Dt) (hp : s.powered = true) (hl : s.pw.auxLow = false) :
    exec (.auxLow cy dt) s = .next ((pinsRelease cy (linksAbandon dt.toNat s)).liveSet .auxLow 0 0 9 dt.toNat) := by
  change execAuxLow cy dt s = _
  rw [execAuxLow, when_true (by simp [hp, hl])]
  rfl

theorem pinsRelease_same (cy : Bool) (s : State) : (pinsRelease cy s).pw = { s.pw with auxLow := true } ∧
    (pinsRelease cy s).bus = { s.bus with rdata := none } ∧ (pinsRelease cy s).tn = s.tn := by
  unfold pinsRelease
  cases cy <;> exact ⟨rfl, rfl, rfl⟩

theorem pinsRelease_abandoned (cy : Bool) (s : State) :
    (pinsRelease cy s).rd F.sysHbabandon = if cy then min (s.rd F.sysHbabandon + 1) 65535 else s.rd F.sysHbabandon := by
  unfold pinsRelease
  cases cy with
  | true => exact State.rd_inc _ F.sysHbabandon
  | false => rfl

theorem Keeps.pinsRelease (cy : Bool) (s : State) : Keeps [F.sysHbabandon] [.pw, .bus] s (pinsRelease cy s) := by
  have h : Keeps [F.sysHbabandon] [.pw, .bus] s { s with pw.auxLow := true, bus.rdata := none } :=
    (Keeps.refl _ _ s).upd rfl rfl (fun q hq => by cases q <;> first | rfl | exact absurd hq (by decide))
  unfold Machine.pinsRelease
  cases cy with
  | true => exact h.inc List.mem_cons_self
  | false => exact h

/-- The fault's occurrence touches neither the pins, nor the links, nor HBABANDON. -/
theorem Keeps.auxLowLive (s : State) (dt : Nat) :
    Keeps [F.fltCnt 0 6] [.flt, .br, .pr] s (s.liveSet .auxLow 0 0 9 dt) :=
  (Keeps.refl _ _ s).liveSet .auxLow 0 0 9 dt List.mem_cons_self (by decide) (by decide) (by decide)

/-- An occurrence looks back at the faults, Bramble, Press, the class's counter and the mode alone: what changed before it elsewhere
does not show in it. -/
theorem Recorded.of_keeps {l : List Fld} {p : List Part} {s u t : State} {c : FC} {inst info master : Nat}
    (h : Recorded c inst info u t master) (k : Keeps l p s u) (hc : ∀ g ∈ l, g.key ≠ (F.fltCnt c.blk c.bit).key)
    (hm : ∀ g ∈ l, g.key ≠ F.dMode.key) (hf : Part.flt ∉ p) (hb : Part.br ∉ p) (hp : Part.pr ∉ p) : Recorded c inst info s t master := by
  have eflt : u.flt = s.flt := k.part .flt hf
  have ebr : u.br = s.br := k.part .br hb
  have epr : u.pr = s.pr := k.part .pr hp
  have ecnt := k.regs _ hc
  have emode : u.mode = s.mode := congrArg Mode.ofCode (k.regs _ hm)
  have erec : ∀ d, u.frec d = s.frec d := fun d => by rw [State.frec, State.frec, eflt]
  obtain ⟨h1, h2, h3, h4, h5, h6, h7⟩ := h
  refine ⟨ecnt ▸ h1, h2, ?_, ?_, fun d hd => (h5 d hd).trans (erec d), ?_, epr ▸ h7⟩
  · rw [h3, erec, emode]
  · unfold Captured at h4 ⊢
    rwa [eflt] at h4
  · rw [h6, eflt, ebr]

/-- Away from the links' masters 4 to 7 the master code binds no level. -/
theorem Recorded.unbound {s t : State} {c : FC} {inst info master : Nat} (h : Recorded c inst info s t master)
    (hm : master < 4 ∨ 7 < master) : Recorded c inst info s t := by
  have e : ∀ d, linkBound master d = linkBound 0 d := fun d => by
    rw [linkBound, linkBound, if_neg (by omega), if_neg (by omega)]
  obtain ⟨h1, h2, h3, h4, h5, h6, h7⟩ := h
  exact ⟨h1, h2, by rw [h3, e, e], h4, h5, h6, h7⟩

/-- The supply falls with no frame in progress and AUX_LOW not live: the pins are released and AUX_LOW is one occurrence. -/
theorem auxLow_idle (cy : Bool) (dt : Dt) {s : State} (hp : s.powered = true) (hl : s.pw.auxLow = false)
    (hframe : ∀ k, k < 5 → (s.link k).frame = false) (hlive : bit (s.frec .auxLow).live 0 = false) :
    ∃ t, exec (.auxLow cy dt) s = .next t ∧ t.pw = { s.pw with auxLow := true } ∧ t.bus = { s.bus with rdata := none } ∧
      t.rd F.sysHbabandon = (if cy then min (s.rd F.sysHbabandon + 1) 65535 else s.rd F.sysHbabandon) ∧
      Recorded .auxLow 0 0 s t ∧ bit (t.frec .auxLow).live 0 = true ∧
      Keeps [F.sysHbabandon, F.fltCnt 0 6] [.pw, .bus, .flt, .br, .pr] s t := by
  have hex := exec_auxLow cy dt hp hl
  rw [linksAbandon_idle _ hframe] at hex
  have hrel := Keeps.pinsRelease cy s
  obtain ⟨hpw, hbus, -⟩ := pinsRelease_same cy s
  have hflt : (pinsRelease cy s).flt = s.flt := hrel.part .flt (by decide)
  have hocc := Keeps.auxLowLive (pinsRelease cy s) dt.toNat
  have hlive' : bit ((pinsRelease cy s).frec .auxLow).live 0 = false := by rwa [State.frec, hflt]
  obtain ⟨hrec, hset⟩ := (pinsRelease cy s).liveSet_recorded .auxLow 0 0 9 dt.toNat hlive'
  refine ⟨_, hex, (hocc.part .pw (by decide)).trans hpw, (hocc.part .bus (by decide)).trans hbus,
    (hocc.regs _ (by decide)).trans (pinsRelease_abandoned cy s), ?_, ?_, ?_⟩
  · exact (hrec.of_keeps hrel (by decide) (by decide) (by decide) (by decide) (by decide)).unbound (by decide)
  · rw [hset, bit_setBit_self]
  · exact (hrel.mono (by simp) (by simp)).trans (hocc.mono (by simp) (by simp))

/-- The supply falls, whatever is in progress: the pins are released and every link's frame ends. -/
theorem auxLow_abandons (cy : Bool) (dt : Dt) {s : State} (hp : s.powered = true) (hl : s.pw.auxLow = false) :
    ∃ t, exec (.auxLow cy dt) s = .next t ∧ t.pw.auxLow = true ∧ t.bus.rdata = none ∧
      ∀ k, k < 5 → (t.link k).frame = false := by
  obtain ⟨hpw, hbus, htn⟩ := pinsRelease_same cy (linksAbandon dt.toNat s)
  have hocc := Keeps.auxLowLive (pinsRelease cy (linksAbandon dt.toNat s)) dt.toNat
  refine ⟨_, exec_auxLow cy dt hp hl, ?_, ?_, fun k hk => ?_⟩
  · exact congrArg PowerSt.auxLow ((hocc.part .pw (by decide)).trans hpw)
  · exact congrArg BusSt.rdata ((hocc.part .bus (by decide)).trans hbus)
  · rw [State.link_of_tn ((hocc.part .tn (by decide)).trans htn)]
    exact linksAbandon_ends dt.toNat s hk

/-! ## AUX_RESTORE -/

theorem exec_auxRestore {s : State} (hp : s.powered = true) (hl : s.pw.auxLow = true) :
    exec .auxRestore s = .next (({ s with pw.auxLow := false } : State).liveClr .auxLow 0) := by
  change execAuxRestore s = _
  rw [execAuxRestore, when_true (by simp [hp, hl])]

/-- Settles O19: the fall is the pins released and one occurrence of AUX_LOW after the links' frames have ended; the return is the pins
driven and the live bit cleared. -/
theorem carrierSupplyLowAndBack : Obligations.CarrierSupplyLowAndBack := by
  unfold Obligations.CarrierSupplyLowAndBack
  refine ⟨fun cy dt s => auxLow_idle cy dt, fun cy dt s => auxLow_abandons cy dt, fun s hp hl => ?_⟩
  obtain ⟨hrec, hother⟩ := ({ s with pw.auxLow := false } : State).liveClr_frec .auxLow 0
  have hpins : Keeps [] [.pw, .flt] s { s with pw.auxLow := false } :=
    (Keeps.refl _ _ s).upd rfl rfl (fun q hq => by cases q <;> first | rfl | exact absurd hq (by decide))
  refine ⟨_, exec_auxRestore hp hl, rfl, ?_, hother, hpins.liveClr .auxLow 0 (by decide)⟩
  rw [hrec, bit_setBit_self]

end Sys2Proof.Machine
end

section
/-! A host write of a register that acts at once, and the seven requests for a mode. -/
namespace Sys2Proof.Machine

/-! ## Which host writes take effect -/

section
variable {s : State} (f : State → State) (hp : s.powered = true) (hd : s.domOn 13 = true)
include hp hd

/-- D13 is on and the unit has energy: what becomes of a host write hangs on BOOT and on the carrier's supply. -/
theorem hostWrite_eq : hostWrite f s = .next
    (if !s.live then s.inc F.sysHbbootwr else if s.pw.auxLow then s.inc F.sysHbabandon else f s) :=
  when_true (by rw [hp, hd]; rfl)

theorem hostWrite_live (hl : s.live = true) (ha : s.pw.auxLow = false) : hostWrite f s = .next (f s) := by
  simp [hostWrite_eq f hp hd, hl, ha]

theorem hostWrite_boot (hl : s.live = false) : hostWrite f s = .next (s.inc F.sysHbbootwr) := by
  simp [hostWrite_eq f hp hd, hl]

theorem hostWrite_auxLow (hl : s.live = true) (ha : s.pw.auxLow = true) : hostWrite f s = .next (s.inc F.sysHbabandon) := by
  simp [hostWrite_eq f hp hd, hl, ha]

end

/-- A counter raised is the whole of a change. -/
theorem Keeps.incOnly (s : State) (f : Fld) : Keeps [f] [] s (s.inc f) := (Keeps.refl _ _ s).inc List.mem_cons_self

/-! ## The request -/

theorem modeAsk_md {n : Nat} (h : n < 8) (s : State) : (modeAsk n s).md = { s.md with req := some n, reqAuto := false } := by
  change { s.md with req := some (n % 8), reqAuto := false } = _
  rw [Nat.mod_eq_of_lt h]

theorem modeAsk_pr {n : Nat} (h : n < 8) (s : State) :
    (modeAsk n s).pr = { s.pr with notes := s.pr.notes ++ [(0x70, bytesBE 1 n)] } := by
  change { s.pr with notes := s.pr.notes ++ [(0x70, bytesBE 1 (n % 8))] } = _
  rw [Nat.mod_eq_of_lt h]

theorem modeAsk_shown {n : Nat} (h : n < 8) (s : State) : (modeAsk n s).rd F.dModereqReq = n :=
  (s.rd_wr_same F.dModereqReq n).trans (Nat.mod_eq_of_lt h)

theorem Keeps.modeAsk (n : Nat) (s : State) : Keeps [F.dModereqReq] [.md, .pr] s (modeAsk n s) :=
  ((Keeps.refl _ _ s).wr n List.mem_cons_self).upd rfl rfl
    (fun q hq => by cases q <;> first | rfl | exact absurd hq (by decide))

/-- Settles O21: each of the seven commands is a host write of MODEREQ with its code, which fits the field's three bits. -/
theorem modeRequestsWaitForTheStrobe : Obligations.ModeRequestsWaitForTheStrobe := by
  unfold Obligations.ModeRequestsWaitForTheStrobe
  intro c n s hc hp hd
  obtain ⟨hex, hn⟩ : exec c s = hostWrite (modeAsk n) s ∧ n < 8 := by
    obtain ⟨rfl, rfl⟩ | ⟨rfl, rfl⟩ | ⟨rfl, rfl⟩ | ⟨rfl, rfl⟩ | ⟨rfl, rfl⟩ | ⟨rfl, rfl⟩ | ⟨rfl, rfl⟩ | ⟨rfl, rfl⟩ := hc <;>
      exact ⟨rfl, by decide⟩
  rw [hex]
  refine ⟨fun hl ha => ?_, fun hl => ?_, fun hl ha => ?_⟩
  · exact ⟨_, hostWrite_live _ hp hd hl ha, modeAsk_md hn s, modeAsk_shown hn s, modeAsk_pr hn s, Keeps.modeAsk n s⟩
  · exact ⟨_, hostWrite_boot _ hp hd hl, s.rd_inc F.sysHbbootwr, Keeps.incOnly s _⟩
  · exact ⟨_, hostWrite_auxLow _ hp hd hl ha, s.rd_inc F.sysHbabandon, Keeps.incOnly s _⟩

end Sys2Proof.Machine
end

section
/-! An access to WDATA that is unavailable: the flag it sets in WSTAT, and what it leaves. -/
namespace Sys2Proof.Machine

/-! ## The flag -/

/-- The flag of WSTAT that an access at the host's window sets where no word answers it: NOTREADY in BOOT, else the first of DENIED,
OFFDOM and UNMAP that applies (R85, R105). -/
def UnavailFlag (s : State) (f : Fld) : Prop :=
  (s.live = false ∧ f = F.dWsNotready) ∨ (s.live = true ∧ unavail s 0 (s.winOf 0).space (s.winOf 0).addr = some f)

theorem UnavailFlag.mem {s : State} {f : Fld} (h : UnavailFlag s f) : f ∈ [F.dWsNotready, F.dWsDenied, F.dWsOffdom, F.dWsUnmap] := by
  obtain ⟨-, rfl⟩ | ⟨-, h⟩ := h
  · exact List.mem_cons_self
  · exact List.mem_cons_of_mem _ (unavail_flag h)

/-- It is one bit, and neither WRAP nor a counter of the host bus. -/
theorem UnavailFlag.oneBit {s : State} {f : Fld} (h : UnavailFlag s f) :
    f.w = 1 ∧ F.dWsWrap.key ≠ f.key ∧ F.sysHbbootwr.key ≠ f.key := by
  have hall : ∀ g ∈ [F.dWsNotready, F.dWsDenied, F.dWsOffdom, F.dWsUnmap],
      g.w = 1 ∧ F.dWsWrap.key ≠ g.key ∧ F.sysHbbootwr.key ≠ g.key := by decide
  exact hall f h.mem

/-- The longest extension noted first changes no flag. -/
theorem UnavailFlag.noteExt {s : State} {f : Fld} (n : Nat) (h : UnavailFlag s f) : UnavailFlag (noteExt n s) f := by
  unfold UnavailFlag at h ⊢
  rwa [noteExt_live, noteExt_winOf, noteExt_unavail]

/-! ## The read -/

theorem wdataRead_unavail {s : State} {f : Fld} (h : UnavailFlag s f) (t : Nat) : wdataRead t s = windowNext (drive 0 (s.set1 f)) := by
  obtain ⟨hl, rfl⟩ | ⟨hl, hu⟩ := h
  · simp [wdataRead, hl]
  · rw [wdataRead_live hl]
    simp [winRead, hu, noteUnavail]

/-- A WDATA read at an unavailable word. -/
theorem wdataRead_unanswered {s : State} {f : Fld} (hb : busUp s) (h : UnavailFlag s f) (ext : BitVec 16) (dt : Dt) :
    ∃ t, exec (.wdataRead ext [] dt) s = .next t ∧ t.bus.rdata = some 0 ∧ t.rd f = 1 ∧
      Keeps [f, F.sysHbextmax, F.dWsWrap] [.bus] s t := by
  obtain ⟨hw, hwrap, -⟩ := h.oneBit
  refine ⟨_, exec_wdataRead hb ext [] dt, ?_⟩
  rw [List.foldl_nil, wdataRead_unavail (h.noteExt ext.toNat)]
  refine ⟨(windowNext_same _).1, ?_, ?_⟩
  · rw [(windowNext_same _).2.2 f hwrap, drive_rd, State.rd_set1 _ hw]
  · exact ((((Keeps.refl _ _ s).noteExt _ (by simp)).set1 (by simp)).drive 0 (by simp)).windowNext (by simp) (by simp)

/-! ## The write -/

/-- A fold of steps each of which leaves a state leaves it. -/
theorem forN_fixed {f : Nat → State → State} {s : State} {n : Nat} (h : ∀ i, f i s = s) : forN n f s = s := by
  unfold forN
  induction List.range n with
  | nil => rfl
  | cons i is ih => rw [List.foldl_cons, h i, ih]

/-- With the fault records as they were, nothing has come to isolate its resource. -/
theorem isolate_of_flt {s0 s : State} (h : s.flt = s0.flt) (dt : Nat) : isolate s0 dt s = s := by
  have hiso (c : FC) (i : Nat) : s.isolated c i = s0.isolated c i := by simp only [State.isolated, State.frec, h]
  have hport (n : Nat) : s.portOut n = s0.portOut n := by simp only [State.portOut, hiso]
  unfold isolate
  dsimp only
  rw [forN_fixed (n := 14), forN_fixed (n := 4), forN_fixed (n := 8)]
  · exact fun n => by simp [hiso]
  · exact fun n => by simp [hport]
  · exact fun d => by simp [hiso]

theorem wdataWrite_unavail {s : State} {f : Fld} (h : UnavailFlag s f) (w t : Nat) :
    wdataWrite w t s = windowNext (if s.live then s.set1 f else (s.set1 f).inc F.sysHbbootwr) := by
  obtain ⟨hl, rfl⟩ | ⟨hl, hu⟩ := h
  · simp [wdataWrite, hl]
  · simp [wdataWrite, hl, winWrite, hu, noteUnavail, isolate_of_flt (show (s.set1 f).flt = s.flt from rfl)]

/-- WDATA_WRITE while the host bus takes accesses. -/
theorem exec_wdataWrite {s : State} (h : busUp s) (w : Word) (ext : BitVec 16) (dt : Dt) :
    exec (.wdataWrite w ext dt) s = .next (wdataWrite w.toNat (s.at dt.toNat) (noteExt ext.toNat s)) := by
  obtain ⟨hp, hd, ha⟩ := h
  change execWdataWrite w ext dt s = _
  simp only [execWdataWrite, hostAccess, when_true (show hostBus s = true by simp [hostBus, hp, hd]), ha, Bool.false_eq_true, if_false]

/-- A WDATA write at an unavailable word. -/
theorem wdataWrite_unanswered {s : State} {f : Fld} (hb : busUp s) (h : UnavailFlag s f) (w : Word) (ext : BitVec 16) (dt : Dt) :
    ∃ t, exec (.wdataWrite w ext dt) s = .next t ∧ t.rd f = 1 ∧
      (s.live = false → t.rd F.sysHbbootwr = min (s.rd F.sysHbbootwr + 1) 65535) ∧
      (s.live = true → t.rd F.sysHbbootwr = s.rd F.sysHbbootwr) ∧
      Keeps [f, F.sysHbextmax, F.sysHbbootwr, F.dWsWrap] [.bus] s t := by
  obtain ⟨hw, hwrap, hcount⟩ := h.oneBit
  have hext := (Keeps.refl [f, F.sysHbextmax, F.sysHbbootwr, F.dWsWrap] [.bus] s).noteExt ext.toNat (by simp)
  have hflag := hext.set1 (f := f) (by simp)
  have hboot : (noteExt ext.toNat s).rd F.sysHbbootwr = s.rd F.sysHbbootwr := noteExt_rd_ne _ s (by decide)
  refine ⟨_, exec_wdataWrite hb w ext dt, ?_⟩
  rw [wdataWrite_unavail (h.noteExt ext.toNat), noteExt_live, (windowNext_same _).2.2 f hwrap,
    (windowNext_same _).2.2 F.sysHbbootwr (by decide)]
  cases hl : s.live with
  | true =>
    simp only [if_true]
    refine ⟨State.rd_set1 _ hw, nofun, fun _ => ?_, hflag.windowNext (by simp) (by simp)⟩
    rw [State.set1, State.rd_wr_ne _ _ hcount.symm, hboot]
  | false =>
    simp only [Bool.false_eq_true, if_false]
    refine ⟨?_, fun _ => ?_, nofun, (hflag.inc (by simp)).windowNext (by simp) (by simp)⟩
    · rw [State.inc, State.incBy, State.rd_wr_ne _ _ hcount, State.rd_set1 _ hw]
    · rw [State.rd_inc, State.set1, State.rd_wr_ne _ _ hcount.symm, hboot]
      rfl

/-- Settles O27: where no word answers, the access comes to its flag and the window moved on, and isolates nothing. -/
theorem unavailableWindowAccesses : Obligations.UnavailableWindowAccesses := by
  unfold Obligations.UnavailableWindowAccesses
  exact ⟨fun ext dt s f hb h => wdataRead_unanswered hb h ext dt, fun w ext dt s f hb h => wdataWrite_unanswered hb h w ext dt⟩

end Sys2Proof.Machine
end

section
/-! The store before a cold reset has ended, and the bank that BOOT recalls holds a configuration record with the key of COLD. -/
namespace Sys2Proof.Machine

/-- A configuration record that names a status bit: COLD with the value 0. No store of the model writes such a record (R348: `cfgTakes`
takes RW and RWL fields only), but a state may hold it in a bank all the same. -/
def coldBitRecord : Rec := { vals := [(F.sysCold.key, 0)] }

/-- A powered unit in the store before a cold reset, which has ended, with that record in its one sealed bank. -/
def coldBitState : State :=
  { phase := .run
    pw := { coldStore := true }
    st := { bankA := { isSealed := true, img := { cfg := some coldBitRecord } } } }

/-- A cold reset with the supply there and no time passed. -/
def coldBitPower : PowerIn := { offSecs := 0, retained := true }

/-- COLD_RESET_STORE_DONE starts BOOT. -/
theorem exec_coldResetStoreDone_pfNone {s : State} (g : Bool) (p : PowerIn) (hp : s.powered = true) (hc : s.pw.coldStore = true)
    (hs : powerStored s = true) (hpf : s.pw.pf = .none) : exec (.coldResetStoreDone g p) s = .next (coldBoot p s) := by
  change execColdResetStoreDone g p s = _
  rw [execColdResetStoreDone, when_true (by simp [hp, hc, hs])]
  simp [hpf]

/-- BOOT sets COLD in step 2, and step 12 recalls the record over it. -/
theorem coldBoot_coldBitState : (coldBoot coldBitPower coldBitState).rd F.sysCold = 0 := by decide +kernel

/-- Refutes O24: the statement is over all states, also those whose sealed bank holds a configuration record with the key of COLD. From
such a state the cold reset starts BOOT, which sets COLD (R91) and then recalls the record as it stands (R348), so COLD ends at 0. -/
theorem not_resetsAndStuckPin : ¬ Obligations.ResetsAndStuckPin := by
  unfold Obligations.ResetsAndStuckPin
  rintro ⟨-, -, -, hstored, -, -⟩
  obtain ⟨t, hnext, hboot, -⟩ := hstored coldBitPower false coldBitState rfl rfl rfl
  obtain ⟨-, hcold, -⟩ := hboot (.inl rfl)
  rw [exec_coldResetStoreDone_pfNone false coldBitPower rfl rfl rfl rfl] at hnext
  obtain rfl := Host.Outcome.next.inj hnext
  rw [coldBoot_coldBitState] at hcold
  exact absurd hcold (by decide)

end Sys2Proof.Machine
end

section
/-! Accesses of the host bus that go wrong: a protocol error, a strobe that ends early, and a cycle that is never done. -/
namespace Sys2Proof.Machine

theorem hostBus_of {s : State} (hp : s.powered = true) (hd : s.domOn 13 = true) : hostBus s = true := by
  rw [hostBus, hp, hd]
  rfl

/-- A counter raised is one of the fields that an occurrence after it may have changed. -/
theorem Recorded.ofInc {s : State} {c : FC} {dt : Nat} {f : Fld} (hcnt : f.key ≠ (F.fltCnt c.blk c.bit).key)
    (hmode : f.key ≠ F.dMode.key) : Recorded c 0 0 s ((s.inc f).occ c 0 0 0 dt) :=
  ((s.inc f).occ_recorded c 0 0 0 dt).of_keeps (Keeps.incOnly s f) (by simpa using hcnt) (by simpa using hmode) List.not_mem_nil
    List.not_mem_nil List.not_mem_nil

/-! ## RD# and WR# low together -/

theorem exec_busProtocol {s : State} (hp : s.powered = true) (hd : s.domOn 13 = true) (dt : Dt) :
    exec (.busProtocol dt) s = .next ((s.inc F.sysHbproto).occ .busProtocol 0 0 0 dt.toNat) := by
  change execBusProtocol dt s = _
  rw [execBusProtocol, when_true (hostBus_of hp hd)]

theorem busProtocol_counted {s : State} (hp : s.powered = true) (hd : s.domOn 13 = true) (dt : Dt) :
    ∃ t, exec (.busProtocol dt) s = .next t ∧ t.rd F.sysHbproto = min (s.rd F.sysHbproto + 1) 65535 ∧
      Recorded .busProtocol 0 0 s t ∧ Keeps [F.sysHbproto, F.fltCnt 11 0] [.flt, .br, .pr] s t := by
  have hocc : Keeps [F.fltCnt 11 0] [.flt, .br, .pr] (s.inc F.sysHbproto) ((s.inc F.sysHbproto).occ .busProtocol 0 0 0 dt.toNat) :=
    (Keeps.refl _ _ _).occ .busProtocol 0 0 0 dt.toNat List.mem_cons_self (by decide) (by decide) (by decide)
  refine ⟨_, exec_busProtocol hp hd dt, (hocc.regs _ (by decide)).trans (s.rd_inc F.sysHbproto),
    Recorded.ofInc (by decide) (by decide), ?_⟩
  exact ((Keeps.incOnly s F.sysHbproto).mono (by simp) (by simp)).trans (hocc.mono (by simp) (by simp))

/-! ## A strobe that ends with RDY low -/

theorem exec_hostAccessAbandon {s : State} (hp : s.powered = true) (hd : s.domOn 13 = true) (ext : BitVec 16) :
    exec (.hostAccessAbandon ext) s = .next ((noteExt ext.toNat s).inc F.sysHbabandon) := by
  change execHostAccessAbandon ext s = _
  rw [execHostAccessAbandon, when_true (hostBus_of hp hd)]

/-- HBEXTMAX holds the longest extension so far. -/
theorem noteExt_extmax (n : Nat) (s : State) : (noteExt n s).rd F.sysHbextmax = max (s.rd F.sysHbextmax) n % 65536 :=
  s.rd_wr_same F.sysHbextmax _

theorem hostAccessAbandon_counted {s : State} (hp : s.powered = true) (hd : s.domOn 13 = true) (ext : BitVec 16) :
    ∃ t, exec (.hostAccessAbandon ext) s = .next t ∧ t.rd F.sysHbabandon = min (s.rd F.sysHbabandon + 1) 65535 ∧
      t.rd F.sysHbextmax = max (s.rd F.sysHbextmax) ext.toNat % 65536 ∧ Keeps [F.sysHbabandon, F.sysHbextmax] [] s t := by
  refine ⟨_, exec_hostAccessAbandon hp hd ext, ?_, ?_, ((Keeps.refl _ _ s).noteExt _ (by simp)).inc (by simp)⟩
  · rw [State.rd_inc, noteExt_rd_ne _ s (by decide)]
    rfl
  · exact ((Keeps.incOnly _ F.sysHbabandon).regs _ (by decide)).trans (noteExt_extmax _ s)

/-! ## A cycle not done after 2.0 µs -/

/-- The cycle completes empty, before its fault is recorded: TMO and its count, and 0x0000 on the bus of a read. -/
def timeoutShown (read : Bool) (ext : Nat) (s : State) : State :=
  let s1 := ((noteExt ext s).set1 F.dWsTmo).inc F.sysHbtmo
  if read then drive 0 s1 else s1

theorem exec_busTimeout {s : State} (h : busUp s) (r : Bool) (ext : BitVec 16) (dt : Dt) :
    exec (.busTimeout r ext dt) s = .next ((timeoutShown r ext.toNat s).occ .busTimeout 0 0 0 dt.toNat) := by
  obtain ⟨hp, hd, ha⟩ := h
  change execBusTimeout r ext dt s = _
  simp only [execBusTimeout, hostAccess, when_true (hostBus_of hp hd), ha, Bool.false_eq_true, if_false, timeoutShown]

/-- While the data bus is released the access is abandoned. -/
theorem exec_busTimeout_auxLow {s : State} (hp : s.powered = true) (hd : s.domOn 13 = true) (ha : s.pw.auxLow = true) (r : Bool)
    (ext : BitVec 16) (dt : Dt) : exec (.busTimeout r ext dt) s = .next (s.inc F.sysHbabandon) := by
  change execBusTimeout r ext dt s = _
  simp only [execBusTimeout, hostAccess, when_true (hostBus_of hp hd), ha, if_true]

theorem timeoutShown_rd (r : Bool) (ext : Nat) (s : State) (f : Fld) :
    (timeoutShown r ext s).rd f = (((noteExt ext s).set1 F.dWsTmo).inc F.sysHbtmo).rd f := by
  cases r <;> rfl

theorem timeoutShown_bus (r : Bool) (ext : Nat) (s : State) :
    (timeoutShown r ext s).bus = if r then { s.bus with rdata := some 0 } else s.bus := by
  cases r <;> rfl

theorem Keeps.timeoutShown (r : Bool) (ext : Nat) (s : State) :
    Keeps [F.dWsTmo, F.sysHbtmo, F.sysHbextmax] [.bus] s (timeoutShown r ext s) := by
  have h := (((Keeps.refl [F.dWsTmo, F.sysHbtmo, F.sysHbextmax] [.bus] s).noteExt ext (by simp)).set1 (f := F.dWsTmo)
    (by simp)).inc (f := F.sysHbtmo) (by simp)
  cases r with
  | true => exact h.drive 0 (by simp)
  | false => exact h

/-- The fault's occurrence touches neither the host bus nor its counters. -/
theorem Keeps.timeoutOcc (u : State) (dt : Nat) : Keeps [F.fltCnt 11 1] [.flt, .br, .pr] u (u.occ .busTimeout 0 0 0 dt) :=
  (Keeps.refl _ _ u).occ .busTimeout 0 0 0 dt List.mem_cons_self (by decide) (by decide) (by decide)

theorem busTimeout_shown {s : State} (h : busUp s) (r : Bool) (ext : BitVec 16) (dt : Dt) :
    ∃ t, exec (.busTimeout r ext dt) s = .next t ∧ t.rd F.dWsTmo = 1 ∧ t.rd F.sysHbtmo = min (s.rd F.sysHbtmo + 1) 65535 ∧
      t.rd F.sysHbextmax = max (s.rd F.sysHbextmax) ext.toNat % 65536 ∧
      t.bus = (if r then { s.bus with rdata := some 0 } else s.bus) ∧ Recorded .busTimeout 0 0 s t ∧
      Keeps [F.dWsTmo, F.sysHbtmo, F.sysHbextmax, F.fltCnt 11 1] [.bus, .flt, .br, .pr] s t := by
  have hshown := Keeps.timeoutShown r ext.toNat s
  have hocc := Keeps.timeoutOcc (timeoutShown r ext.toNat s) dt.toNat
  refine ⟨_, exec_busTimeout h r ext dt, ?_, ?_, ?_, ?_, ?_, ?_⟩
  · rw [hocc.regs _ (by decide), timeoutShown_rd, (Keeps.incOnly _ F.sysHbtmo).regs _ (by decide), State.rd_set1 _ rfl]
  · rw [hocc.regs _ (by decide), timeoutShown_rd, State.rd_inc, State.set1, State.rd_wr_ne _ _ (by decide),
      noteExt_rd_ne _ _ (by decide)]
    rfl
  · rw [hocc.regs _ (by decide), timeoutShown_rd, (Keeps.incOnly _ F.sysHbtmo).regs _ (by decide), State.set1,
      State.rd_wr_ne _ _ (by decide), noteExt_extmax]
  · exact (hocc.part .bus (by decide)).trans (timeoutShown_bus r ext.toNat s)
  · exact (State.occ_recorded _ .busTimeout 0 0 0 dt.toNat).of_keeps hshown (by decide) (by decide) (by decide) (by decide) (by decide)
  · exact (hshown.mono (by simp) (by simp)).trans (hocc.mono (by simp) (by simp))

/-- Settles O29: each is a count, and the two that record a fault are one occurrence after it. -/
theorem hostBusAccessesGoneWrong : Obligations.HostBusAccessesGoneWrong := by
  unfold Obligations.HostBusAccessesGoneWrong
  refine ⟨fun dt s hp hd => busProtocol_counted hp hd dt, fun ext s hp hd => hostAccessAbandon_counted hp hd ext,
    fun r ext dt s hp hd ha => ?_, fun r ext dt s h => busTimeout_shown h r ext dt⟩
  exact ⟨_, exec_busTimeout_auxLow hp hd ha r ext dt, s.rd_inc F.sysHbabandon, Keeps.incOnly s _⟩

end Sys2Proof.Machine
end

section
/-! Writes of the direct registers, and WINDOW_DROP. -/
namespace Sys2Proof.Machine

/-- A direct write that takes effect: BOOT has been left, and the address is neither WDATA's nor above the registers. -/
theorem exec_registerWrite {s : State} (h : busLive s) {a : BitVec 7} (ha : a.toNat < 0x30) (hb : a.toNat ≠ 0xB) (w : Word) (dt : Dt) :
    exec (.registerWrite a w dt) s = .next (directWrite a.toNat w.toNat dt.toNat s) := by
  obtain ⟨⟨hp, hd, hx⟩, hl⟩ := h
  change execRegisterWrite a w dt s = _
  rw [execRegisterWrite, if_neg (Nat.not_le.2 ha), if_neg hb, hostWrite_live _ hp hd hl hx]

theorem exec_registerWrite_beyond (s : State) {a : BitVec 7} (ha : 0x30 ≤ a.toNat) (w : Word) (dt : Dt) :
    exec (.registerWrite a w dt) s = .next s :=
  if_pos ha

/-- The host's window replaced is a change of the host bus alone. -/
theorem Keeps.winOnly (s : State) (x : Win) : Keeps [] [.bus] s (s.setWin 0 x) :=
  (Keeps.refl _ _ s).setWin 0 x List.mem_cons_self

/-! ## WCTL and DROP -/

theorem exec_windowDrop {s : State} (h : busLive s) : exec .windowDrop s = .next (windowDrop s) :=
  hostWrite_live _ h.1.1 h.1.2.1 h.2 h.1.2.2

theorem wctl_win (w : Nat) (s : State) : (wctl w s).winOf 0 =
    if bit w 1 then { s.winOf 0 with ainc := bit w 0, snap := none, stg := none } else { s.winOf 0 with ainc := bit w 0 } := by
  unfold wctl
  split
  · simp [windowDrop]
  · exact State.winOf_setWin _ _ _

theorem Keeps.wctl (w : Nat) (s : State) : Keeps [] [.bus] s (wctl w s) := by
  unfold Machine.wctl
  split
  · exact (Keeps.winOnly s _).trans (Keeps.winOnly _ _)
  · exact Keeps.winOnly s _

/-! ## POWREQ -/

/-- POWREQ stands alone in its register, and the engines read it: a write of it waits. -/
theorem directWrite_powreq (w dt : Nat) (s : State) :
    directWrite 0x2C w dt s = { s with bus.dstage := s.bus.dstage ++ [(F.dPowreq, w % 2 ^ 14)] } := by
  have hgrp : grpAt 16 0x2C = some ⟨0x2C, 1, [F.dPowreq]⟩ := by decide
  have hval : inRange F.dPowreq (directBits s F.dPowreq w) = w % 2 ^ 14 := by
    simp [inRange, directBits, fldBits, rangeOf, F.dPowreq, F.ensLoglep, Fld.key]
  change directFlds 0x2C w s = _
  rw [← hval]
  simp only [directFlds, hgrp]
  rfl

theorem Keeps.dstageOnly (s : State) (l : List (Fld × Nat)) : Keeps [] [.bus] s { s with bus.dstage := l } :=
  (Keeps.refl _ _ s).upd rfl rfl (fun q hq => by cases q <;> first | rfl | exact absurd hq (by decide))

/-! ## CMD -/

theorem cmdWrite_unguarded {w : Nat} (h : w / 4096 ≠ 0xA) (s : State) : cmdWrite w s = s.inc F.sysHbguard := if_neg h

theorem cmdWrite_busy {w : Nat} (h : w / 4096 = 0xA) {s : State} (hb : s.bus.cmd ≠ none ∨ s.pw.pf ≠ .none) :
    cmdWrite w s = s.set1 F.dBusyrej := by
  have hbusy : cmdBusy s = true := by simpa [cmdBusy, Option.isSome_iff_ne_none] using hb
  rw [cmdWrite, if_pos h, cmdAccept, if_pos hbusy]

/-- An accepted command: CODE, STATE and ERR show it, it waits for its strobe, and Press has its note. -/
def cmdTaken (code arg : Nat) (s : State) : State :=
  ({ (((s.wr F.dStatCode code).wr F.dStatState 1).wr F.dStatErr 0) with bus.cmd := some ⟨code, arg, false⟩ } : State).note 0x70
    (bytesBE 1 code ++ bytesBE 1 arg)

theorem cmdWrite_taken {w : Nat} (h : w / 4096 = 0xA) {s : State} (hc : s.bus.cmd = none) (hp : s.pw.pf = .none) :
    cmdWrite w s = cmdTaken (w % 256) (w / 256 % 16) s := by
  have hbusy : ¬ cmdBusy s = true := by simp [cmdBusy, hc, hp]
  rw [cmdWrite, if_pos h, cmdAccept, if_neg hbusy, cmdTaken]

theorem cmdTaken_rd (code arg : Nat) (s : State) (f : Fld) :
    (cmdTaken code arg s).rd f = (((s.wr F.dStatCode code).wr F.dStatState 1).wr F.dStatErr 0).rd f := rfl

theorem cmdTaken_status (code arg : Nat) (s : State) : (cmdTaken code arg s).rd F.dStatCode = code % 256 ∧
    (cmdTaken code arg s).rd F.dStatState = 1 ∧ (cmdTaken code arg s).rd F.dStatErr = 0 := by
  refine ⟨?_, ?_, ?_⟩
  · rw [cmdTaken_rd, State.rd_wr_ne _ _ (by decide), State.rd_wr_ne _ _ (by decide), State.rd_wr_same]
    rfl
  · rw [cmdTaken_rd, State.rd_wr_ne _ _ (by decide), State.rd_wr_same]
    rfl
  · rw [cmdTaken_rd, State.rd_wr_same]
    rfl

theorem Keeps.cmdTaken (code arg : Nat) (s : State) :
    Keeps [F.dStatCode, F.dStatState, F.dStatErr] [.bus, .pr] s (cmdTaken code arg s) := by
  have h := (((Keeps.refl [F.dStatCode, F.dStatState, F.dStatErr] [.bus, .pr] s).wr (f := F.dStatCode) code (by simp)).wr
    (f := F.dStatState) 1 (by simp)).wr (f := F.dStatErr) 0 (by simp)
  exact h.upd rfl rfl (fun q hq => by cases q <;> first | rfl | exact absurd hq (by decide))

/-- What becomes of a write of CMD: counted without its guard, refused while a command runs or may not, else accepted. -/
theorem cmdWrite_effect (w : Nat) (s : State) :
    (w / 4096 ≠ 0xA → (cmdWrite w s).rd F.sysHbguard = min (s.rd F.sysHbguard + 1) 65535 ∧
      Keeps [F.sysHbguard] [] s (cmdWrite w s)) ∧
    (w / 4096 = 0xA → s.bus.cmd ≠ none ∨ s.pw.pf ≠ .none → (cmdWrite w s).rd F.dBusyrej = 1 ∧
      Keeps [F.dBusyrej] [] s (cmdWrite w s)) ∧
    (w / 4096 = 0xA → s.bus.cmd = none → s.pw.pf = .none →
      (cmdWrite w s).bus = { s.bus with cmd := some ⟨w % 256, w / 256 % 16, false⟩ } ∧
      (cmdWrite w s).rd F.dStatCode = w % 256 ∧ (cmdWrite w s).rd F.dStatState = 1 ∧ (cmdWrite w s).rd F.dStatErr = 0 ∧
      (cmdWrite w s).pr =
        { s.pr with notes := s.pr.notes ++ [(0x70, bytesBE 1 (w % 256) ++ bytesBE 1 (w / 256 % 16))] } ∧
      Keeps [F.dStatCode, F.dStatState, F.dStatErr] [.bus, .pr] s (cmdWrite w s)) := by
  refine ⟨fun h => ?_, fun h hb => ?_, fun h hc hp => ?_⟩
  · rw [cmdWrite_unguarded h]
    exact ⟨s.rd_inc F.sysHbguard, Keeps.incOnly s _⟩
  · rw [cmdWrite_busy h hb]
    exact ⟨State.rd_set1 _ rfl, (Keeps.refl _ _ s).set1 List.mem_cons_self⟩
  · rw [cmdWrite_taken h hc hp]
    obtain ⟨hcode, hstate, herr⟩ := cmdTaken_status (w % 256) (w / 256 % 16) s
    exact ⟨rfl, hcode.trans (Nat.mod_mod _ _), hstate, herr, rfl, Keeps.cmdTaken _ _ s⟩

/-- Settles O28: each register's write is one change of the host's window, one write that waits, or a command that is taken or not. -/
theorem directRegisterWrites : Obligations.DirectRegisterWrites := by
  unfold Obligations.DirectRegisterWrites
  refine ⟨fun a w dt s ha => ⟨s, exec_registerWrite_beyond s ha w dt, rfl⟩, fun w dt s h => ⟨?_, ?_, ?_, ?_, ?_, ?_⟩,
    fun s h => ⟨_, exec_windowDrop h, State.winOf_setWin _ _ _, Keeps.winOnly s _⟩⟩
  · exact ⟨_, exec_registerWrite h (by decide) (by decide) w dt, State.winOf_setWin _ _ _, Keeps.winOnly s _⟩
  · exact ⟨_, exec_registerWrite h (by decide) (by decide) w dt, State.winOf_setWin _ _ _, Keeps.winOnly s _⟩
  · exact ⟨_, exec_registerWrite h (by decide) (by decide) w dt, State.winOf_setWin _ _ _, Keeps.winOnly s _⟩
  · exact ⟨_, exec_registerWrite h (by decide) (by decide) w dt, wctl_win _ s, Keeps.wctl _ s⟩
  · refine ⟨_, exec_registerWrite h (by decide) (by decide) w dt, ?_⟩
    change (directWrite 0x2C _ _ s).bus.dstage = _ ∧ Keeps [] [.bus] s (directWrite 0x2C _ _ s)
    rw [directWrite_powreq]
    exact ⟨rfl, Keeps.dstageOnly s _⟩
  · exact ⟨_, exec_registerWrite h (by decide) (by decide) w dt, cmdWrite_effect w.toNat s⟩

end Sys2Proof.Machine
end

section
/-! What the shared operations leave of the host bus: the parts replaced one by one, occurrences of a fault, and Orchard's errors. -/
namespace Sys2Proof.Machine

/-! ## One part replaced -/

section
variable (s : State)

@[simp] theorem State.incBy_bus (f : Fld) (n : Nat) : (s.incBy f n).bus = s.bus := rfl
@[simp] theorem State.wrBit_bus (f : Fld) (i : Nat) (b : Bool) : (s.wrBit f i b).bus = s.bus := rfl
@[simp] theorem State.used_bus : s.used.bus = s.bus := rfl
@[simp] theorem State.fire_bus (p : Nat) : (s.fire p).bus = s.bus := rfl
@[simp] theorem State.note_bus (tag : Nat) (p : List Byte) : (s.note tag p).bus = s.bus := rfl
@[simp] theorem State.setFrec_bus (c : FC) (r : FRec) : (s.setFrec c r).bus = s.bus := rfl
@[simp] theorem State.liveClr_bus (c : FC) (i : Nat) : (s.liveClr c i).bus = s.bus := rfl
@[simp] theorem State.followCapts_bus (c : FC) : (s.followCapts c).bus = s.bus := rfl
@[simp] theorem State.setCap_bus (n : Nat) (c : Cap) : (s.setCap n c).bus = s.bus := rfl
@[simp] theorem State.setTio_bus (n : Nat) (p : Tio) : (s.setTio n p).bus = s.bus := rfl
@[simp] theorem State.setChan_bus (n : Nat) (c : Chan) : (s.setChan n c).bus = s.bus := rfl
@[simp] theorem State.setPort_bus (n : Nat) (p : Port) : (s.setPort n p).bus = s.bus := rfl
@[simp] theorem State.setQueue_bus (n q : Nat) (l : List Frame) : (s.setQueue n q l).bus = s.bus := rfl
@[simp] theorem State.setRef_bus (n : Nat) (r : RefRec) : (s.setRef n r).bus = s.bus := rfl
@[simp] theorem State.setSnap_bus (i : Nat) (x : SnapSlot) : (s.setSnap i x).bus = s.bus := rfl
@[simp] theorem State.setGate_bus (a : Nat) (g : Gate) : (s.setGate a g).bus = s.bus := rfl

end

/-! ## Occurrences -/

@[simp] theorem occurAt_bus (c : FC) (d k : Nat) (inst : Option Nat) (info master x : Nat) (s : State) :
    (occurAt c d k inst info master x s).bus = s.bus :=
  occurAt_part c d k inst info master x s .bus (by decide) (by decide) (by decide)

@[simp] theorem State.occ_bus (s : State) (c : FC) (inst info master dt : Nat) : (s.occ c inst info master dt).bus = s.bus :=
  ((Keeps.refl [F.fltCnt c.blk c.bit] [.flt, .br, .pr] s).occ c inst info master dt List.mem_cons_self (by decide) (by decide)
    (by decide)).part .bus (by decide)

@[simp] theorem State.liveSet_bus (s : State) (c : FC) (i info master dt : Nat) : (s.liveSet c i info master dt).bus = s.bus :=
  ((Keeps.refl [F.fltCnt c.blk c.bit] [.flt, .br, .pr] s).liveSet c i info master dt List.mem_cons_self (by decide) (by decide)
    (by decide)).part .bus (by decide)

/-! ## Errors found in Orchard -/

theorem ringSpoil_bus (a : Nat) (s : State) : (ringSpoil a s).bus = s.bus := by
  unfold ringSpoil
  split
  · rfl
  · simp

theorem frameSpoil_bus (p k : Nat) (s : State) : (frameSpoil p k s).bus = s.bus := by
  unfold frameSpoil
  split
  · simp
  · rfl

theorem eccWord_bus (g dt : Nat) (e : EccIn) (s : State) : (eccWord g dt e s).bus = s.bus := by
  simp [eccWord, apply_ite State.bus, ringSpoil_bus, frameSpoil_bus]

/-! ## Captures, the logs of tenants and the heads of queues -/

@[simp] theorem tenantLog_bus (k kind i x : Nat) (s : State) : (tenantLog k kind i x s).bus = s.bus :=
  ((Keeps.refl [] [.en, .tn] s).tenantLog k kind i x (by decide) (by decide)).part .bus (by decide)

theorem tenantNote_bus (k kind i : Nat) (s : State) : (tenantNote k kind i s).bus = s.bus := by
  simp [tenantNote, apply_ite State.bus]

theorem capLog_bus (n e : Nat) (s : State) : (capLog n e s).bus = s.bus := tenantLog_bus _ _ _ _ s

theorem capBack_bus (n x : Nat) (s : State) : (capBack n x s).bus = s.bus :=
  ((Keeps.refl [F.timeCapOvf n, F.timeCapLostcnt n] [.tm] s).capBack n x (by decide) (by simp) (by simp)).part .bus (by decide)

theorem capTake_bus (n x : Nat) (fall : Bool) (s : State) : (capTake n x fall s).bus = s.bus := by
  simp [capTake, apply_ite State.bus, capLog_bus]

theorem popHead_bus (sp base x : Nat) (s : State) : (popHead sp base x s).bus = s.bus :=
  ((Keeps.refl [] [.tm, .en, .tn, .br] s).popHead sp base x (by decide) (by decide) (by decide) (by decide)).part .bus (by decide)

end Sys2Proof.Machine
end

section
/-! What a commit that takes effect at once leaves of the host bus: each group with a behaviour of its own, by its chapter. -/
namespace Sys2Proof.Machine

/-! ## The synthesisers' channels -/

@[simp] theorem chanSquelch_bus (n : Nat) (s : State) : (chanSquelch n s).bus = s.bus := rfl
@[simp] theorem chanFault_bus (n : Nat) (s : State) : (chanFault n s).bus = s.bus := rfl
@[simp] theorem chanDisable_bus (n : Nat) (s : State) : (chanDisable n s).bus = s.bus := rfl
@[simp] theorem putPlan_bus (n : Nat) (p : Plan) (s : State) : (putPlan n p s).bus = s.bus := rfl

@[simp] theorem chanStart_bus (n x : Nat) (s : State) : (chanStart n x s).bus = s.bus := by
  simp [chanStart, apply_ite State.bus]

@[simp] theorem chanEnable_bus (n x : Nat) (s : State) : (chanEnable n x s).bus = s.bus := by
  simp [chanEnable, apply_ite State.bus]

@[simp] theorem planApply_bus (n : Nat) (p : Plan) (s : State) : (planApply n p s).bus = s.bus := by
  simp [planApply, apply_ite State.bus]

@[simp] theorem freqCommit_bus (n v : Nat) (s : State) : (freqCommit n v s).bus = s.bus := by
  simp [freqCommit, apply_ite State.bus]

@[simp] theorem srcCommit_bus (n src : Nat) (s : State) : (srcCommit n src s).bus = s.bus := by
  simp [srcCommit, apply_ite State.bus]

@[simp] theorem slewCommit_bus (n slew : Nat) (s : State) : (slewCommit n slew s).bus = s.bus := by
  simp [slewCommit, apply_ite State.bus]

@[simp] theorem fmtCommit_bus (n fmt : Nat) (s : State) : (fmtCommit n fmt s).bus = s.bus := by
  simp [fmtCommit, apply_ite State.bus]

@[simp] theorem ckWord_bus (n w x : Nat) (s : State) : (ckWord n w x s).bus = s.bus := by
  simp [ckWord, apply_ite State.bus]

@[simp] theorem rampEnable_bus (s : State) : (rampEnable s).bus = s.bus := by
  simp [rampEnable, apply_ite State.bus]

@[simp] theorem rampDisable_bus (s : State) : (rampDisable s).bus = s.bus := by
  simp [rampDisable, apply_ite State.bus]

/-! ## TIO pins and Bramble -/

theorem tioConfig_bus (p w : Nat) (s : State) : (tioConfig p w s).bus = s.bus := by
  unfold tioConfig
  dsimp only
  split <;> simp [apply_ite State.bus]

theorem commitPen_bus (c v : Nat) (s : State) : (commitPen c v s).bus = s.bus := by
  simp [commitPen, apply_ite State.bus]

theorem commitCen_bus (c v : Nat) (s : State) : (commitCen c v s).bus = s.bus := by
  simp [commitCen, apply_ite State.bus]

theorem alarmClear_bus (k : Nat) (s : State) : (alarmClear k s).bus = s.bus :=
  bus_forN (fun c s => by simp [apply_ite State.bus]) 32 _

theorem fifoPush_bus (k mask dt : Nat) (s : State) : (fifoPush k mask dt s).bus = s.bus := by
  simp [fifoPush, apply_ite State.bus]

theorem tioEvent_bus (p : Nat) (s : State) : (tioEvent p s).bus = s.bus := by
  simp [tioEvent, apply_ite State.bus]

theorem dormExit_bus (mask : Nat) (s : State) : (dormExit mask s).bus = s.bus := by
  simp [dormExit, apply_ite State.bus]

theorem consume_bus (mask x dt k : Nat) (s : State) : (consume mask x dt k s).bus = s.bus := by
  simp [consume, apply_ite State.bus, capTake_bus, tioEvent_bus, fifoPush_bus, dormExit_bus]

theorem carry_bus (mask cyc x dt : Nat) (s : State) : (carry mask cyc x dt s).bus = s.bus := by
  unfold carry
  split
  · rfl
  · refine (bus_forN (consume_bus mask x dt) 39 _).trans (bus_forN (fun c s => ?_) 32 s)
    simp [apply_ite State.bus, tenantNote_bus]

theorem coalesce_bus (mask : Nat) (s : State) : (coalesce mask s).bus = s.bus :=
  bus_forN (fun c s => by simp [apply_ite State.bus]) 32 s

theorem fireChannel_bus (k chan cyc dt : Nat) (s : State) : (fireChannel k chan cyc dt s).bus = s.bus := by
  simp [fireChannel, carryNew, apply_ite State.bus, carry_bus, coalesce_bus]

/-! ## Ports -/

theorem flushPort_bus (n : Nat) (s : State) : (flushPort n s).bus = s.bus := rfl

theorem flushMask_bus (mask : Nat) (s : State) : (flushMask mask s).bus = s.bus :=
  bus_forN (fun n s => by simp [apply_ite State.bus, flushPort_bus]) 4 s

theorem vlanCommit_bus (v w : Nat) (s : State) : (vlanCommit v w s).bus = s.bus := by
  simp [vlanCommit, apply_ite State.bus]

@[simp] theorem eqShow_bus (s : State) : (eqShow s).bus = s.bus := by
  simp [eqShow, apply_ite State.bus]

@[simp] theorem portTrains_bus (n : Nat) (s : State) : (portTrains n s).bus = s.bus := by
  simp [portTrains, apply_ite State.bus]

@[simp] theorem flushQueues_bus (n : Nat) (s : State) : (flushQueues n s).bus = s.bus := rfl

@[simp] theorem linkOut_bus (n : Nat) (inTx cut : Bool) (s : State) : (linkOut n inTx cut s).bus = s.bus := by
  simp [linkOut, pirq, apply_ite State.bus, flushPort_bus]

@[simp] theorem linkLost_bus (n : Nat) (inTx cut : Bool) (dt : Nat) (s : State) : (linkLost n inTx cut dt s).bus = s.bus := by
  simp [linkLost, apply_ite State.bus]

@[simp] theorem portOff_bus (n : Nat) (s : State) : (portOff n s).bus = s.bus := by
  simp [portOff, apply_ite State.bus]

theorem portWord_bus (n : Nat) (was s : State) : (portWord n was s).bus = s.bus := by
  simp [portWord, apply_ite State.bus]

/-! ## Faults -/

theorem ackClass_bus (c : FC) (s : State) : (ackClass c s).bus = s.bus := by
  simp [ackClass, apply_ite State.bus]

theorem ackBits_bus (b mask : Nat) (s : State) : (ackBits b mask s).bus = s.bus :=
  bus_foldl (fun s c => by simp [apply_ite State.bus, ackClass_bus]) FC.all s

theorem forceClass_bus (c : FC) (dt : Nat) (s : State) : (forceClass c dt s).bus = s.bus := by
  simp [forceClass, apply_ite State.bus]

theorem forceBits_bus (b mask dt : Nat) (s : State) : (forceBits b mask dt s).bus = s.bus := by
  unfold forceBits
  dsimp only
  split
  · exact bus_foldl (fun s c => by simp [apply_ite State.bus, forceClass_bus]) FC.all s
  · rfl

/-! ## Stone and Press -/

theorem storeBegin_bus (why : StoreWhy) (s : State) : (storeBegin why s).bus = s.bus := by
  simp [storeBegin, eraseInc, State.setBank, apply_ite State.bus]

theorem storeAsk_bus (why : StoreWhy) (s : State) : (storeAsk why s).bus = s.bus := by
  simp [storeAsk, apply_ite State.bus, storeBegin_bus]

theorem gather_bus (k a w : Nat) (s : State) : (gather k a w s).2.bus = s.bus := by
  unfold gather
  split
  · simp [apply_ite State.bus]
  · split
    · simp [apply_ite State.bus]
    · rfl

theorem slotFree_bus (i : Nat) (s : State) : (slotFree i s).bus = s.bus := by
  simp [slotFree, apply_ite State.bus]

/-! ## The service port -/

@[simp] theorem recordAccess_bus (s : State) : (recordAccess s).bus = s.bus := by
  rw [recordAccess, storeAsk_bus, engineWrite_bus]

@[simp] theorem setLock_bus (n : Nat) (s : State) : (setLock n s).bus = s.bus := recordAccess_bus _

theorem backRefresh_bus (x m : Nat) (s : State) : (backRefresh x m s).bus = s.bus := by
  simp [backRefresh, apply_ite State.bus]

theorem countAttempt_bus (agent x : Nat) (s : State) : (countAttempt agent x s).bus = s.bus := backRefresh_bus _ _ _

theorem submit_bus (agent : Nat) (rsp : Bool) (x : Nat) (s : State) : (submit agent rsp x s).bus = s.bus := by
  simp [submit, gateTouch, apply_ite State.bus, countAttempt_bus]

theorem chalreq_bus (x : Nat) (s : State) : (chalreq x s).bus = s.bus := by
  simp [chalreq, apply_ite State.bus]

theorem relock_bus (s : State) : (relock s).bus = s.bus := by
  simp [relock, apply_ite State.bus]

theorem setpw_bus (s : State) : (setpw s).bus = s.bus := by
  simp [setpw, apply_ite State.bus]

theorem pwclear_bus (s : State) : (pwclear s).bus = s.bus := by
  simp [pwclear, apply_ite State.bus]

theorem unlctl_bus (g w x : Nat) (s : State) : (unlctl g w x s).bus = s.bus := by
  simp [unlctl, apply_ite State.bus, submit_bus, chalreq_bus, relock_bus, setpw_bus, pwclear_bus]

theorem gateWrite_bus (g a w : Nat) (s : State) : (gateWrite g a w s).bus = s.bus := by
  simp [gateWrite, apply_ite State.bus]

theorem uploadOn_bus (s : State) : (uploadOn s).bus = s.bus := by
  simp [uploadOn, apply_ite State.bus]

theorem ringGap_bus (beat : Nat) (s : State) : (ringGap beat s).bus = s.bus := State.occ_bus _ _ _ _ _ _

theorem uploadEnd_bus (s : State) : (uploadEnd s).bus = s.bus := by
  simp [uploadEnd, apply_ite State.bus, ringGap_bus]

theorem microcodeUpdate_bus (w : Nat) (s : State) : (microcodeUpdate w s).bus = s.bus := by
  simp [microcodeUpdate, apply_ite State.bus]

theorem floorRaise_bus (s : State) : (floorRaise s).bus = s.bus := by
  simp [floorRaise, apply_ite State.bus]

end Sys2Proof.Machine
end

section
/-! The host's window under a write: no commit and no isolation that follows it touches a window. -/
namespace Sys2Proof.Machine

/-! ## A group with a behaviour of its own -/

/-- A commit that a group makes in its own way, where it does, leaves every window as it was in `s`. -/
def WinKept (s : State) (o : Option State) : Prop := ∀ t, o = some t → t.bus.win = s.bus.win

section
variable {s : State}

theorem WinKept.none : WinKept s none := by
  intro t h
  cases h

theorem WinKept.some {t : State} (h : t.bus = s.bus) : WinKept s (some t) := by
  intro t' ht
  rw [← Option.some.inj ht, h]

theorem WinKept.ite {c : Prop} [Decidable c] {a b : Option State} (ha : WinKept s a) (hb : WinKept s b) :
    WinKept s (if c then a else b) := by
  split
  · exact ha
  · exact hb

end

theorem tnenWrite_bus (v : Nat) (s : State) : (tnenWrite v s).bus = s.bus := rfl

/-- The groups of each space, in the order of `commitOwn`: SYS, REF, SYNTH, TIME, PORT, BRAMBLE, TENANT, FAULT, PRESS, SVC, and a
tenant's own view. FAULT's QUIET waits for the strobe beside the windows; no other commit reaches the host bus at all. -/
theorem commitOwn_win (g sp base v u x : Nat) (s : State) : WinKept s (commitOwn g sp base v u x s) := by
  unfold commitOwn
  split
  · exact .ite (.some (by simp [testStart, apply_ite State.bus])) .none
  · exact .ite (.some (by simp [apply_ite State.bus])) .none
  · exact .ite (.some (ckWord_bus _ _ _ s)) (.ite (.some (freqCommit_bus _ _ s)) (.ite (.some (by simp [apply_ite State.bus])) .none))
  · exact .ite (.some (State.set1_bus s _)) (.ite (.some (State.set1_bus s _)) (.ite (.some (tioConfig_bus _ _ s)) .none))
  · exact .ite (.some (flushMask_bus _ s)) (.ite (.some (vlanCommit_bus _ _ s)) .none)
  · refine .ite (.some (bus_forN (fun k s => ?_) 4 s)) (.ite ?_ (.ite (.some (by simp)) .none))
    · simp [apply_ite State.bus, alarmClear_bus]
    · dsimp only
      split
      · exact .some (commitPen_bus _ _ s)
      · exact .some (commitCen_bus _ _ s)
      · exact .none
  · exact .ite (.some (by simp [apply_ite State.bus, tnenWrite_bus])) .none
  · refine .ite ?_ .none
    dsimp only
    split
    · intro t ht
      rw [← Option.some.inj ht]
    · exact .some (forceBits_bus _ _ _ s)
    · exact .some (ackBits_bus _ _ s)
    · exact .none
  · exact .ite (.some (by simp [apply_ite State.bus, slotFree_bus])) .none
  · refine .ite (.some (unlctl_bus _ _ _ s)) (.ite (.some (State.setGate_bus s _ _)) (.ite (.some (gateWrite_bus _ _ _ s))
      (.ite (.some ?_) (.ite (.some ?_) (.ite (.some ?_) .none)))))
    · simp [apply_ite State.bus, uploadOn_bus, uploadEnd_bus]
    · simp [apply_ite State.bus, microcodeUpdate_bus]
    · simp [apply_ite State.bus, floorRaise_bus]
  · dsimp only
    split
    · exact .some (by simp [apply_ite State.bus])
    · exact .some (by simp [apply_ite State.bus, fireChannel_bus])
    · exact .none
  · exact .none

/-! ## What isolation takes out of service -/

/-- A fold of steps none of which touches a window leaves every window. -/
theorem win_forN {f : Nat → State → State} (hf : ∀ n s, (f n s).bus.win = s.bus.win) (n : Nat) (s : State) :
    (forN n f s).bus.win = s.bus.win := by
  unfold forN
  induction List.range n generalizing s with
  | nil => rfl
  | cons i is ih => exact (ih (f i s)).trans (hf i s)

theorem dropSharer_bus (e l : Nat) (s : State) : (dropSharer e l s).bus = s.bus := by
  unfold dropSharer
  split <;> rfl

theorem drainOne_bus (e : Nat) (p : Nat × List Byte) (s : State) : (drainOne e p s).bus = s.bus := rfl

theorem drainAll_bus (e : Nat) (s : State) : (drainAll e s).bus = s.bus :=
  bus_foldl (fun s p => drainOne_bus e p s) _ s

theorem cacheFlush_bus (e : Nat) (s : State) : (cacheFlush e s).bus = s.bus := by
  refine (bus_foldl (fun s p => ?_) _ _).trans (drainAll_bus e s)
  dsimp only
  split
  · rfl
  · exact dropSharer_bus _ _ _

theorem rinTurnOff_bus (s : State) : (rinTurnOff s).bus = s.bus :=
  bus_forN (fun n s => by simp) 4 _

theorem pktOff_bus (s : State) : (pktOff s).bus = s.bus := bus_forN flushQueues_bus 4 s

theorem avsStop_bus (l : Nat) (s : State) : (avsStop l s).bus = s.bus := rfl

theorem squelchSrc_bus (src : Nat) (s : State) : (squelchSrc src s).bus = s.bus :=
  bus_forN (fun n s => by simp [apply_ite State.bus]) 8 s

theorem synaLost_bus (s : State) : (synaLost s).bus = s.bus := by
  simp [synaLost, squelchSrc_bus]

theorem cmdEnd_win (code err : Nat) (s : State) : (s.cmdEnd code err).bus.win = s.bus.win := by
  unfold State.cmdEnd
  split
  · split <;> rfl
  · rfl

theorem putRun_bus (r : Option CalRun) (s : State) : (putRun r s).bus = s.bus := rfl

theorem calAbandon_win (err : Nat) (s : State) : (calAbandon err s).bus.win = s.bus.win := by
  unfold calAbandon
  split
  · rfl
  · dsimp only
    split
    · rw [cmdEnd_win]
      simp [apply_ite State.bus, apply_ite BusSt.win, cmdEnd_win, putRun_bus]
    · simp [apply_ite State.bus, apply_ite BusSt.win, cmdEnd_win, putRun_bus]

theorem domLose_win (d : Nat) (s : State) : (domLose d s).bus.win = s.bus.win := by
  unfold domLose
  split
  · split
    · exact calAbandon_win 5 s
    · rfl
  · exact congrArg BusSt.win (synaLost_bus s)
  · exact congrArg BusSt.win (squelchSrc_bus 0 _)
  · exact congrArg BusSt.win ((avsStop_bus 0 _).trans ((cacheFlush_bus 1 _).trans (cacheFlush_bus 0 s)))
  · exact congrArg BusSt.win ((pktOff_bus _).trans ((avsStop_bus 1 _).trans (cacheFlush_bus 2 s)))
  · exact congrArg BusSt.win (portOff_bus 0 s)
  · exact congrArg BusSt.win (portOff_bus 1 s)
  · exact congrArg BusSt.win (portOff_bus 2 s)
  · exact congrArg BusSt.win (portOff_bus 3 s)
  · have hrin := congrArg BusSt.win (rinTurnOff_bus s)
    dsimp only
    split
    · exact (calAbandon_win 5 _).trans hrin
    · exact hrin
  · exact congrArg BusSt.win (bus_forN chanFault_bus 8 s)
  · rfl
  · rfl

theorem domOff_win (d : Nat) (s : State) : (domOff d s).bus.win = s.bus.win := by
  unfold domOff
  dsimp only
  split
  · exact domLose_win d _
  · rfl

theorem isolate_win (s0 : State) (dt : Nat) (s : State) : (isolate s0 dt s).bus.win = s.bus.win := by
  refine (win_forN (fun n s => ?_) 8 _).trans ((win_forN (fun n s => ?_) 4 _).trans (win_forN (fun d s => ?_) 14 s))
  · simp [apply_ite State.bus]
  · simp [apply_ite State.bus]
  · split
    · exact domOff_win d _
    · rfl

/-! ## A commit -/

theorem commitGrp_win (g sp : Nat) (w : WordGrp) (v u x : Nat) (s : State) : (commitGrp g sp w v u x s).2.bus.win = s.bus.win := by
  have hput (val : Fld → Nat) (l : List Fld) : (l.foldl (fun s1 f => putFld f (val f) s1) s).bus = s.bus :=
    bus_foldl (fun s f => putFld_bus f (val f) s) l s
  have hport (c : Prop) [Decidable c] (n : Nat) (t : State) (ht : t.bus = s.bus) : (if c then portWord n s t else t).bus = s.bus := by
    split
    · rw [portWord_bus, ht]
    · exact ht
  unfold commitGrp
  dsimp only
  split
  · rfl
  split
  · rfl
  have hown := commitOwn_win g (w.space sp) w.base v u x s
  simp only [apply_ite State.bus, apply_ite BusSt.win, ite_self]
  split
  · rename_i s1 h
    exact hown s1 h
  · rw [applyAfter_bus, hport _ _ _ (hput _ _)]

/-! ## Where the host's window stands -/

/-- Where the host's window stands: its space, its address and AINC. -/
def State.place (s : State) : Nat × Nat × Bool := ((s.winOf 0).space, (s.winOf 0).addr, (s.winOf 0).ainc)

theorem State.place_of_win {s t : State} (h : t.bus.win = s.bus.win) : t.place = s.place := by
  unfold State.place State.winOf
  rw [h]

theorem State.place_of_bus {s t : State} (h : t.bus = s.bus) : t.place = s.place := State.place_of_win (congrArg BusSt.win h)

theorem State.setWin_place (s : State) (w : Win) : (s.setWin 0 w).place = (w.space, w.addr, w.ainc) := by
  unfold State.place
  rw [State.winOf_setWin]

theorem readHigher_bus (sp x i : Nat) (w : WordGrp) (s : State) : (readHigher 0 sp x i w s).2.bus = s.bus := by
  unfold readHigher
  split
  · simp only [apply_ite Prod.snd, apply_ite State.bus, if_true, State.inc_bus, State.set1_bus, ite_self]
  · simp

/-- A read moves the window only once it is over. -/
theorem winRead_place (sp a x : Nat) (s : State) : (winRead 0 sp a x s).2.2.place = s.place := by
  unfold winRead
  split
  · exact State.place_of_bus (State.set1_bus _ _)
  · split
    · rename_i w i _
      refine (State.place_of_bus (touchGate_bus _ _ _ _)).trans ?_
      split
      · unfold readLowest
        dsimp only
        rw [State.place_of_bus ((popHead_bus _ _ _ _).trans (clearRc_bus _ _)), State.setWin_place]
        refine State.place_of_bus ?_
        split
        · exact capBack_bus _ _ s
        · rfl
      · exact State.place_of_bus (readHigher_bus _ _ _ _ s)
    · split
      · exact State.setWin_place _ _
      · rfl

end Sys2Proof.Machine
end

section
/-! WDATA and the window address: each access that completes moves the window by AINC alone. -/
namespace Sys2Proof.Machine

/-! ## A write leaves the window where it stood -/

theorem dropStage_place (s : State) : (dropStage 0 s).place = s.place := by
  unfold dropStage
  split
  · exact (State.place_of_bus (State.inc_bus _ _)).trans (State.setWin_place s _)
  · rfl

theorem areaWrite_bus (g : Nat) (ar : Area) (i x : Nat) (s : State) : (areaWrite g ar i x s).2.bus = s.bus := by
  unfold areaWrite
  cases ar with
  | shadow => simp [apply_ite Prod.snd, apply_ite State.bus, gather_bus]
  | part =>
    dsimp only
    split
    · simp [apply_ite Prod.snd, apply_ite State.bus, gather_bus]
    · rfl
  | upload => simp [apply_ite Prod.snd, apply_ite State.bus]
  | _ => rfl

/-- A word that is staged, or committed with what is staged. -/
theorem grpWrite_place (sp x i y : Nat) (w : WordGrp) (s : State) : (grpWrite 0 sp x i y w s).2.place = s.place := by
  have hdrop : (if (stagedFor s 0 sp w).isEmpty then dropStage 0 s else s).place = s.place := by
    split
    · exact dropStage_place s
    · rfl
  unfold grpWrite
  dsimp only
  split
  · exact (State.setWin_place _ _).trans hdrop
  · exact (State.place_of_win (commitGrp_win _ _ _ _ _ _ _)).trans ((State.setWin_place _ _).trans hdrop)

/-- The host is no tenant, so its writes make no note in a tenant's Press partition. -/
theorem noteWrite_host (sp a y x : Nat) (s : State) : noteWrite 0 sp a y x s = s := rfl

theorem winWrite_place (sp a y x : Nat) (s : State) : (winWrite 0 sp a y x s).2.place = s.place := by
  have hgate : (touchGate sp a x s).place = s.place := State.place_of_bus (touchGate_bus _ _ _ s)
  unfold winWrite
  rw [noteWrite_host]
  split
  · exact State.place_of_bus (State.set1_bus s _)
  split
  · rfl
  dsimp only
  split
  · exact (grpWrite_place _ _ _ _ _ _).trans hgate
  split
  · exact (State.place_of_bus (areaWrite_bus _ _ _ _ _)).trans ((dropStage_place _).trans hgate)
  · rfl

/-! ## Auto-increment -/

/-- What R104 says of an access that completes: the window of `s` moves on by AINC. -/
def Advanced (s t : State) : Prop :=
  (t.winOf 0).space = (s.winOf 0).space ∧ (t.winOf 0).ainc = (s.winOf 0).ainc ∧
    (t.winOf 0).addr = (if (s.winOf 0).ainc then ((s.winOf 0).addr + 1) % 2 ^ 24 else (s.winOf 0).addr) ∧
    ((s.winOf 0).ainc = true → ((s.winOf 0).addr + 1) % 2 ^ 24 = 0 → t.rd F.dWsWrap = 1)

theorem windowNext_still {s : State} (h : (s.winOf 0).ainc = false) : windowNext s = s := by simp [windowNext, h]

theorem windowNext_moved {s : State} (h : (s.winOf 0).ainc = true) :
    (windowNext s).winOf 0 = { s.winOf 0 with addr := ((s.winOf 0).addr + 1) % 2 ^ 24 } := by
  simp only [windowNext, h, Bool.not_true, Bool.false_eq_true, if_false]
  split
  · rw [State.winOf_of_bus (State.set1_bus _ _), State.winOf_setWin]
  · rw [State.winOf_setWin]

theorem windowNext_wrapped {s : State} (h : (s.winOf 0).ainc = true) (hw : ((s.winOf 0).addr + 1) % 2 ^ 24 = 0) :
    (windowNext s).rd F.dWsWrap = 1 := by
  simp only [windowNext, h, hw, Bool.not_true, Bool.false_eq_true, if_true, if_false]
  exact State.rd_set1 _ rfl

theorem windowNext_advanced (s : State) : Advanced s (windowNext s) := by
  unfold Advanced
  cases ha : (s.winOf 0).ainc with
  | false => simp [windowNext_still ha, ha]
  | true =>
    rw [windowNext_moved ha]
    exact ⟨rfl, ha, rfl, fun _ => windowNext_wrapped ha⟩

/-- An access that leaves the window where it stood until it completes. -/
theorem Advanced.of_place {s u t : State} (h : Advanced u t) (hp : u.place = s.place) : Advanced s t := by
  obtain ⟨hspace, haddr, hainc⟩ : (u.winOf 0).space = (s.winOf 0).space ∧ (u.winOf 0).addr = (s.winOf 0).addr ∧
      (u.winOf 0).ainc = (s.winOf 0).ainc := by simpa [State.place] using hp
  unfold Advanced at h ⊢
  rwa [hspace, haddr, hainc] at h

/-! ## Each access -/

theorem wdataRead_advanced (x : Nat) (s : State) : Advanced s (wdataRead x s) := by
  unfold wdataRead
  split
  · exact (windowNext_advanced _).of_place rfl
  · exact (windowNext_advanced _).of_place (winRead_place _ _ x s)

theorem wdataWrite_advanced (y x : Nat) (s : State) : Advanced s (wdataWrite y x s) := by
  unfold wdataWrite
  split
  · exact (windowNext_advanced _).of_place (State.place_of_bus ((State.inc_bus _ _).trans (State.set1_bus _ _)))
  have hiso (dt : Nat) (u : State) : (if (s.winOf 0).space = 12 then isolate s dt u else u).place = u.place := by
    split
    · exact State.place_of_win (isolate_win _ _ _)
    · rfl
  have hfull (c : Prop) [Decidable c] (u : State) : (if c then (u.set1 F.dWsFull).inc F.sysHbstagerej else u).place = u.place := by
    split
    · exact State.place_of_bus ((State.inc_bus _ _).trans (State.set1_bus _ _))
    · rfl
  exact (windowNext_advanced _).of_place ((hfull _ _).trans ((hiso _ _).trans (winWrite_place _ _ y x s)))

/-- The errors that the access finds in Orchard, and the longest extension noted first, move no window. -/
theorem eccWords_place (dt ext : Nat) (ecc : List EccIn) (s : State) :
    (ecc.foldl (fun s e => eccWord 0 dt e s) (noteExt ext s)).place = s.place :=
  State.place_of_bus ((bus_foldl (fun s e => eccWord_bus 0 dt e s) ecc _).trans (noteExt_bus ext s))

theorem access_advanced {c : Instr} {ext : BitVec 16} {ecc : List EccIn} {w : Word} {dt : Dt} {s : State}
    (hc : c = .wdataRead ext ecc dt ∨ c = .wdataWrite w ext dt) (h : busUp s) : ∃ t, exec c s = .next t ∧ Advanced s t := by
  obtain rfl | rfl := hc
  · exact ⟨_, exec_wdataRead h ext ecc dt, (wdataRead_advanced _ _).of_place (eccWords_place _ _ ecc s)⟩
  · exact ⟨_, exec_wdataWrite h w ext dt, (wdataWrite_advanced _ _ _).of_place (State.place_of_bus (noteExt_bus _ s))⟩

/-- An access that does not complete leaves every window. -/
theorem accessLost_win {c : Instr} {ext : BitVec 16} {b : Bool} {dt : Dt} {s : State}
    (hc : c = .hostAccessAbandon ext ∨ c = .busTimeout b ext dt) (hp : s.powered = true) (hd : s.domOn 13 = true) :
    ∃ t, exec c s = .next t ∧ t.bus.win = s.bus.win := by
  obtain rfl | rfl := hc
  · exact ⟨_, exec_hostAccessAbandon hp hd ext, rfl⟩
  · cases ha : s.pw.auxLow with
    | true => exact ⟨_, exec_busTimeout_auxLow hp hd ha b ext dt, rfl⟩
    | false =>
      refine ⟨_, exec_busTimeout ⟨hp, hd, ha⟩ b ext dt, ?_⟩
      rw [State.occ_bus, timeoutShown_bus]
      split <;> rfl

/-- Settles O25: until it completes no access moves the host's window, and one that completes moves it by AINC. -/
theorem windowAutoIncrement : Obligations.WindowAutoIncrement := by
  unfold Obligations.WindowAutoIncrement
  exact ⟨fun c ext ecc w dt s hc h => access_advanced hc h, fun c ext b dt s hc hp hd => accessLost_win hc hp hd⟩

end Sys2Proof.Machine
end

section
/-! The commands of CMD: each accepted by its write, and started or refused at its strobe. -/
namespace Sys2Proof.Machine

/-! ## What the checks of a command read -/

/-- CMDSTAT has changed, and the record of the command with what Press notes of it: what an acceptance or a start does. -/
abbrev CmdShown (s u : State) : Prop := Keeps [F.dStatCode, F.dStatState, F.dStatErr] [.bus, .pr] s u

namespace CmdShown
variable {s u : State} (h : CmdShown s u)
include h

/-- A field of another word than CMDSTAT's. -/
theorem rd {f : Fld} (hf : f.key / 128 ≠ F.dStatCode.key / 128) : u.rd f = s.rd f :=
  h.regs f (fun g hg hk => hf (by
    rw [← hk]
    have hall : ∀ g ∈ [F.dStatCode, F.dStatState, F.dStatErr], g.key / 128 = F.dStatCode.key / 128 := by decide
    exact hall g hg))

theorem is {f : Fld} (hf : f.key / 128 ≠ F.dStatCode.key / 128) : u.is f = s.is f := by rw [State.is, State.is, h.rd hf]

theorem mode : u.mode = s.mode := congrArg Mode.ofCode (h.rd (f := F.dMode) (by decide))
theorem domOn (d : Nat) : u.domOn d = s.domOn d := congrArg (bit · d) (h.rd (f := F.dPowstat) (by decide))
theorem beatcnt : u.beatcnt = s.beatcnt := h.rd (by decide)
theorem live : u.live = s.live := by
  have hp : u.phase = s.phase := h.part .phase (by decide)
  rw [State.live, State.live, hp, h.mode]
theorem stoneMode : stoneMode u = stoneMode s := by rw [Machine.stoneMode, Machine.stoneMode, h.mode]
theorem calMode : calMode u = calMode s := by rw [Machine.calMode, Machine.calMode, h.mode]
theorem jumpMode : jumpMode u = jumpMode s := by rw [Machine.jumpMode, Machine.jumpMode, h.mode]
theorem st : u.st = s.st := h.part .st (by decide)
theorem stoneIsol : u.stoneIsol = s.stoneIsol := by
  have hf : u.flt = s.flt := h.part .flt (by decide)
  simp only [State.stoneIsol, State.anyIsolated, State.frec, hf]
theorem stoneBusy : stoneBusy u = stoneBusy s := by simp only [Machine.stoneBusy, h.st]
theorem txn (k : Nat) : u.txn k = s.txn k := by simp only [State.txn, h.st]
theorem confirmedNow : confirmedNow u = confirmedNow s := by
  have hv : u.sv = s.sv := h.part .sv (by decide)
  simp only [Machine.confirmedNow, hv, h.beatcnt]
theorem prio : prio u = prio s := by
  funext n
  exact h.rd (by simp only [Fld.key, F.refPrio, F.dStatCode]; omega)
theorem refQual : u.refQual = s.refQual := by
  funext n
  have hs : u.refState n = s.refState n := h.rd (by simp only [Fld.key, F.refState, F.dStatCode]; omega)
  rw [State.refQual, State.refQual, hs]
theorem ranksAbove : ranksAbove u = ranksAbove s := by
  funext a b
  simp only [Machine.ranksAbove, h.prio]
theorem bestRef (p : Nat → Bool) : bestRef u p = bestRef s p := by
  simp only [Machine.bestRef, h.refQual, h.prio, h.ranksAbove]
theorem preferred : preferred u = preferred s := by
  simp only [Machine.preferred, h.is (f := F.dManual) (by decide), h.rd (f := F.dManref) (by decide), h.refQual, h.prio, h.bestRef]
theorem chanRunning (n : Nat) : chanRunning u n = chanRunning s n := by
  rw [Machine.chanRunning, Machine.chanRunning, h.is (f := F.synRunning n) (by simp only [Fld.key, F.synRunning, F.dStatCode]; omega),
    h.is (f := F.synHeld n) (by simp only [Fld.key, F.synHeld, F.dStatCode]; omega)]
theorem strobes : strobes u = strobes s := by
  have ht : u.tm = s.tm := h.part .tm (by decide)
  have he : u.en = s.en := h.part .en (by decide)
  simp only [Machine.strobes, h.live, ht, he]

/-- The table's row for a command hangs on nothing that its acceptance changes. -/
theorem cmdOf (c : Instr) : cmdOf u c = cmdOf s c := by
  unfold Machine.cmdOf
  simp only [h.stoneMode, h.stoneBusy, h.stoneIsol, h.txn, h.calMode, h.domOn, h.mode, h.preferred, h.jumpMode, h.confirmedNow,
    h.rd (f := F.dSelref) (by decide), h.is (f := F.dJumpPend) (by decide), h.is (f := F.svcPwisset) (by decide)]

end CmdShown

/-! ## The table's rows -/

/-- The ERR that the table gives a command at its strobe. -/
def cmdErrOf (c : Instr) (s : State) : Nat := (cmdOf s c).elim 0 (fun x => x.2.2)

theorem CmdShown.cmdErrOf {s u : State} (h : CmdShown s u) (c : Instr) : cmdErrOf c u = cmdErrOf c s := by
  rw [Machine.cmdErrOf, Machine.cmdErrOf, h.cmdOf]

theorem cmdErr_le (a m p : Bool) : cmdErr a m p ≤ 4 := by cases a <;> cases m <;> cases p <;> decide

section
variable {c : Instr} {code e : Nat} {a : BitVec 4} {s : State} (h : cmdOf s c = some (code, a, e))
include h

theorem cmdErrOf_eq : cmdErrOf c s = e := by simp [cmdErrOf, h]

/-- CODE and ERR fit their fields. -/
theorem cmdOf_bounds : code < 256 ∧ e < 8 := by
  unfold cmdOf at h
  split at h
  case h_16 x b =>
    split at h
    · exact nomatch h
    · obtain ⟨rfl, -, rfl⟩ := by simpa using h
      exact ⟨x.isLt, by decide⟩
  case h_17 => exact nomatch h
  all_goals
    obtain ⟨rfl, -, rfl⟩ := by simpa using h
    exact ⟨by decide, Nat.lt_of_le_of_lt (cmdErr_le _ _ _) (by decide)⟩

/-- Every command of the table is a row of CMD with the table's code, argument and check. -/
theorem exec_cmdOf : ∃ run, exec c s = cmdRow code a (cmdErrOf c) run s := by
  unfold cmdOf at h
  split at h
  case h_16 x b =>
    split at h
    · exact nomatch h
    · rename_i hk
      obtain ⟨rfl, rfl, -⟩ := by simpa using h
      have herr : cmdErrOf (.cmdUnknownCode x b) = fun _ => 1 := by
        funext t
        simp [cmdErrOf, cmdOf, hk]
      exact ⟨id, by rw [herr]; exact if_neg hk⟩
  case h_17 => exact nomatch h
  all_goals
    obtain ⟨rfl, rfl, -⟩ := by simpa using h
    exact ⟨_, rfl⟩

end
end Sys2Proof.Machine
end

section
/-! A command accepted, refused, and begun or ended at its strobe. -/
namespace Sys2Proof.Machine

/-! ## The end of a command -/

/-- A command that runs ends: CMDSTAT shows it, and what else the state holds stays. -/
theorem cmdEnd_ends {t : State} {code a err : Nat} (h : t.bus.cmd = some ⟨code, a, true⟩) (he : err < 8) :
    (t.cmdEnd code err).bus.cmd = none ∧ (t.cmdEnd code err).rd F.dStatCode = t.rd F.dStatCode ∧
      (t.cmdEnd code err).rd F.dStatState = (if err = 0 then 2 else 3) ∧ (t.cmdEnd code err).rd F.dStatErr = err ∧
      (t.cmdEnd code err).rd F.dCmdDone = 1 := by
  have heq : t.cmdEnd code err =
      ((({ t with bus.cmd := none } : State).wr F.dStatState (if err = 0 then 2 else 3)).wr F.dStatErr err).set1 F.dCmdDone := by
    simp [State.cmdEnd, h]
  rw [heq]
  refine ⟨rfl, ?_, ?_, ?_, State.rd_set1 _ rfl⟩
  · rw [State.set1, State.rd_wr_ne _ _ (by decide), State.rd_wr_ne _ _ (by decide), State.rd_wr_ne _ _ (by decide)]
    rfl
  · rw [State.set1, State.rd_wr_ne _ _ (by decide), State.rd_wr_ne _ _ (by decide), State.rd_wr_same]
    split <;> rfl
  · rw [State.set1, State.rd_wr_ne _ _ (by decide), State.rd_wr_same]
    exact Nat.mod_eq_of_lt he

/-- The end of a command touches the host bus alone among the parts. -/
theorem Keeps.cmdEndOnly (code err : Nat) (s : State) :
    Keeps [F.dCmdDone, F.dStatState, F.dStatErr] [.bus] s (s.cmdEnd code err) :=
  (Keeps.refl _ _ s).cmdEnd code err (by decide) (by simp) (by simp) (by simp)

/-! ## Acceptance -/

section
variable {s : State}

theorem cmdAccept_taken (hc : s.bus.cmd = none) (hp : s.pw.pf = .none) (code arg : Nat) :
    cmdAccept code arg s = cmdTaken code arg s := by
  have hbusy : ¬ cmdBusy s = true := by simp [cmdBusy, hc, hp]
  rw [cmdAccept, if_neg hbusy, cmdTaken]

theorem strobes_away (h : s.tm.running = false ∨ s.en.restart ≠ none) : strobes s = false := by
  obtain h | h := h
  · simp [strobes, h]
  · obtain ⟨n, hn⟩ := Option.ne_none_iff_exists'.1 h
    simp [strobes, hn]

/-- A command that finds another one running or waiting. -/
theorem cmdRow_refused {r : CmdRun} {code : Nat} {a : BitVec 4} (err : State → Nat) (run : State → State) (h : busLive s)
    (hc : s.bus.cmd = some r) (hr : r.started = true ∨ r.code ≠ code) : cmdRow code a err run s = .next (s.set1 F.dBusyrej) := by
  obtain ⟨⟨hp, hd, ha⟩, hl⟩ := h
  have hne : s.bus.cmd ≠ some ⟨code, a.toNat, false⟩ := by
    rw [hc]
    rintro ⟨⟩
    exact hr.elim nofun (absurd rfl)
  have hbusy : cmdBusy s = true := by simp [cmdBusy, hc]
  rw [cmdRow, if_neg hne, hostWrite_live _ hp hd hl ha, if_pos hbusy, cmdAccept, if_pos hbusy]

/-- A command that no other one keeps off is taken, and starts where the engines take it at a strobe. -/
theorem cmdRow_free {code : Nat} {a : BitVec 4} (err : State → Nat) (run : State → State) (h : busLive s) (hc : s.bus.cmd = none)
    (hp : s.pw.pf = .none) : cmdRow code a err run s = .next
      (if strobes s then cmdStart code (err (cmdTaken code a.toNat s)) run (cmdTaken code a.toNat s) else cmdTaken code a.toNat s) := by
  obtain ⟨⟨hpw, hd, ha⟩, hl⟩ := h
  have hne : s.bus.cmd ≠ some ⟨code, a.toNat, false⟩ := by rw [hc]; nofun
  have hbusy : ¬ cmdBusy s = true := by simp [cmdBusy, hc, hp]
  have hst : strobes (cmdTaken code a.toNat s) = strobes s := CmdShown.strobes (Keeps.cmdTaken code a.toNat s)
  rw [cmdRow, if_neg hne, hostWrite_live _ hpw hd hl ha, if_neg hbusy, cmdAccept_taken hc hp]
  dsimp only
  rw [hst]

/-- A command accepted earlier starts at its strobe. -/
theorem cmdRow_waiting {code : Nat} {a : BitVec 4} (err : State → Nat) (run : State → State) (hs : strobes s = true)
    (hc : s.bus.cmd = some ⟨code, a.toNat, false⟩) : cmdRow code a err run s = .next (cmdStart code (err s) run s) := by
  rw [cmdRow, if_pos hc, when_true hs]

end

/-! ## The start -/

/-- A command taken and started at the strobe of its acceptance. -/
def cmdBegun (code arg : Nat) (s : State) : State := cmdStarted (cmdTaken code arg s)

theorem Keeps.cmdStarted (s : State) : Keeps [] [.bus] s (cmdStarted s) :=
  (Keeps.refl _ _ s).upd rfl rfl (fun q hq => by cases q <;> first | rfl | exact absurd hq (by decide))

/-- What a command finds that has begun: it runs, CMDSTAT shows it, Press has noted it, and nothing else has changed. -/
structure Begun (code arg : Nat) (s u : State) : Prop where
  bus : u.bus = { s.bus with cmd := some ⟨code, arg, true⟩ }
  codeShown : u.rd F.dStatCode = code
  stateShown : u.rd F.dStatState = 1
  errShown : u.rd F.dStatErr = 0
  pr : u.pr = { s.pr with notes := s.pr.notes ++ [(0x70, bytesBE 1 code ++ bytesBE 1 arg)] }
  shown : CmdShown s u

theorem cmdBegun_begun {code : Nat} (h : code < 256) (arg : Nat) (s : State) : Begun code arg s (cmdBegun code arg s) := by
  obtain ⟨hcode, hstate, herr⟩ := cmdTaken_status code arg s
  exact ⟨rfl, hcode.trans (Nat.mod_eq_of_lt h), hstate, herr, rfl,
    (Keeps.cmdTaken code arg s).trans ((Keeps.cmdStarted _).mono (by simp) (by simp))⟩

theorem Begun.cmd {code arg : Nat} {s u : State} (h : Begun code arg s u) : u.bus.cmd = some ⟨code, arg, true⟩ := by rw [h.bus]

theorem cmdStart_fails {e : Nat} (he : e ≠ 0) (code : Nat) (run : State → State) (s : State) :
    cmdStart code e run s = (cmdStarted s).cmdEnd code e := if_neg he

/-- A command that passes its checks where it is taken runs from there. -/
theorem exec_begins {c : Instr} {code arg : Nat} {a : BitVec 4} {run : State → State} {s : State} (h : takesCommand s)
    (hrow : exec c s = cmdRow code a (cmdErrOf c) run s) (ha : a.toNat = arg) (hc : cmdOf s c = some (code, a, 0)) :
    ∃ u, Begun code arg s u ∧ exec c s = .next (run u) := by
  obtain ⟨hb, hn, hp, hr, hs⟩ := h
  subst ha
  have herr : cmdErrOf c (cmdTaken code a.toNat s) = 0 :=
    (CmdShown.cmdErrOf (Keeps.cmdTaken code a.toNat s) c).trans (cmdErrOf_eq hc)
  refine ⟨cmdBegun code a.toNat s, cmdBegun_begun (cmdOf_bounds hc).1 _ s, ?_⟩
  rw [hrow, cmdRow_free _ _ hb hn hp, strobes_of hb.2 hr hs, if_pos rfl, cmdStart, if_pos herr, cmdBegun]

/-! ## Refusal, failure and waiting (R124) -/

section
variable {c : Instr} {code e : Nat} {a : BitVec 4} {s : State} (h : cmdOf s c = some (code, a, e))
include h

theorem command_refused {r : CmdRun} (hb : busLive s) (hc : s.bus.cmd = some r) (hr : r.started = true ∨ r.code ≠ code) :
    ∃ t, exec c s = .next t ∧ t.rd F.dBusyrej = 1 ∧ Keeps [F.dBusyrej] [] s t := by
  obtain ⟨run, hrow⟩ := exec_cmdOf h
  exact ⟨_, hrow.trans (cmdRow_refused _ _ hb hc hr), State.rd_set1 _ rfl, (Keeps.refl _ _ s).set1 List.mem_cons_self⟩

theorem command_fails (ht : takesCommand s) (he : e ≠ 0) :
    ∃ t, exec c s = .next t ∧ t.bus.cmd = none ∧ t.rd F.dStatCode = code ∧ t.rd F.dStatState = 3 ∧ t.rd F.dStatErr = e ∧
      t.rd F.dCmdDone = 1 ∧ t.pr = { s.pr with notes := s.pr.notes ++ [(0x70, bytesBE 1 code ++ bytesBE 1 a.toNat)] } ∧
      Keeps [F.dCmdDone, F.dStatCode, F.dStatState, F.dStatErr] [.bus, .pr] s t := by
  obtain ⟨hb, hc, hp, hr, hn⟩ := ht
  obtain ⟨run, hrow⟩ := exec_cmdOf h
  obtain ⟨hcode, herr⟩ := cmdOf_bounds h
  have hu := cmdBegun_begun hcode a.toNat s
  obtain ⟨hcmd, hCode, hstate, hErr, hdone⟩ := cmdEnd_ends hu.cmd herr
  have hk : Keeps [F.dCmdDone, F.dStatState, F.dStatErr] [.bus] _ ((cmdBegun code a.toNat s).cmdEnd code e) := Keeps.cmdEndOnly _ _ _
  have hpr : ((cmdBegun code a.toNat s).cmdEnd code e).pr = (cmdBegun code a.toNat s).pr := hk.part .pr (by decide)
  have hchk : cmdErrOf c (cmdTaken code a.toNat s) = e :=
    (CmdShown.cmdErrOf (Keeps.cmdTaken code a.toNat s) c).trans (cmdErrOf_eq h)
  refine ⟨_, ?_, hcmd, hCode.trans hu.codeShown, hstate.trans (if_neg he), hErr, hdone, hpr.trans hu.pr,
    (hu.shown.mono (by simp) (by simp)).trans (hk.mono (by simp) (by simp))⟩
  rw [hrow, cmdRow_free _ _ hb hc hp, strobes_of hb.2 hr hn, if_pos rfl, hchk, cmdStart_fails he, cmdBegun]

theorem waiting_fails (hs : strobes s = true) (hc : s.bus.cmd = some ⟨code, a.toNat, false⟩) (he : e ≠ 0) :
    ∃ t, exec c s = .next t ∧ t.bus.cmd = none ∧ t.rd F.dStatState = 3 ∧ t.rd F.dStatErr = e ∧ t.rd F.dCmdDone = 1 ∧
      Keeps [F.dCmdDone, F.dStatState, F.dStatErr] [.bus] s t := by
  obtain ⟨run, hrow⟩ := exec_cmdOf h
  have hu : (cmdStarted s).bus.cmd = some ⟨code, a.toNat, true⟩ := by simp [cmdStarted, hc]
  obtain ⟨hcmd, -, hstate, hErr, hdone⟩ := cmdEnd_ends hu (cmdOf_bounds h).2
  refine ⟨_, ?_, hcmd, hstate.trans (if_neg he), hErr, hdone,
    ((Keeps.cmdStarted s).mono (by simp) (by simp)).trans (Keeps.cmdEndOnly _ _ _)⟩
  rw [hrow, cmdRow_waiting _ _ hs hc, cmdErrOf_eq h, cmdStart_fails he]

theorem command_waits (hb : busLive s) (hc : s.bus.cmd = none) (hp : s.pw.pf = .none)
    (haway : s.tm.running = false ∨ s.en.restart ≠ none) :
    ∃ t, exec c s = .next t ∧ t.bus.cmd = some ⟨code, a.toNat, false⟩ ∧ t.rd F.dStatCode = code ∧ t.rd F.dStatState = 1 ∧
      t.rd F.dStatErr = 0 ∧ t.pr = { s.pr with notes := s.pr.notes ++ [(0x70, bytesBE 1 code ++ bytesBE 1 a.toNat)] } ∧
      Keeps [F.dStatCode, F.dStatState, F.dStatErr] [.bus, .pr] s t := by
  obtain ⟨run, hrow⟩ := exec_cmdOf h
  obtain ⟨hcode, hstate, herr⟩ := cmdTaken_status code a.toNat s
  refine ⟨_, ?_, rfl, hcode.trans (Nat.mod_eq_of_lt (cmdOf_bounds h).1), hstate, herr, rfl, Keeps.cmdTaken _ _ _⟩
  rw [hrow, cmdRow_free _ _ hb hc hp, strobes_away haway, if_neg Bool.false_ne_true]

end
end Sys2Proof.Machine
end

section
/-! What the store, transaction, snapshot and calibration commands do once they have begun. -/
namespace Sys2Proof.Machine

/-! ## A command that runs on, and one that is done -/

/-- CMDSTAT of a command that runs, and of one that is done. -/
abbrev CmdRuns (code arg : Nat) (t : State) : Prop :=
  t.bus.cmd = some ⟨code, arg, true⟩ ∧ t.rd F.dStatCode = code ∧ t.rd F.dStatState = 1 ∧ t.rd F.dStatErr = 0
abbrev CmdIsDone (code : Nat) (t : State) : Prop :=
  t.bus.cmd = none ∧ t.rd F.dStatCode = code ∧ t.rd F.dStatState = 2 ∧ t.rd F.dStatErr = 0 ∧ t.rd F.dCmdDone = 1

section
variable {code arg : Nat} {s u t : State} (h : Begun code arg s u) {l : List Fld} {p : List Part} (hk : Keeps l p u t)
  (hp : Part.bus ∉ p) (hl : ∀ g ∈ l, g.key / 128 ≠ F.dStatCode.key / 128)
include h hk hp hl

theorem Begun.statusKept : CmdRuns code arg t := by
  have hbus : t.bus = u.bus := hk.part .bus hp
  have hrd {f : Fld} (hf : f.key / 128 = F.dStatCode.key / 128) : t.rd f = u.rd f :=
    hk.regs f (fun g hg e => hl g hg (by rw [e, hf]))
  exact ⟨by rw [hbus, h.cmd], (hrd rfl).trans h.codeShown, (hrd (by decide)).trans h.stateShown, (hrd (by decide)).trans h.errShown⟩

theorem Begun.done : CmdIsDone code (t.cmdEnd code 0) := by
  obtain ⟨hcmd, hcode, -, -⟩ := h.statusKept hk hp hl
  obtain ⟨hnone, hCode, hrest⟩ := cmdEnd_ends hcmd (by decide : (0 : Nat) < 8)
  exact ⟨hnone, hCode.trans hcode, hrest⟩

end

/-- The frame of a command that runs on: what its effect keeps, and CMDSTAT, the host bus and Press. -/
theorem Begun.frame {code arg : Nat} {s u t : State} (h : Begun code arg s u) {l : List Fld} {p : List Part} (hk : Keeps l p u t) :
    Keeps (l ++ [F.dStatCode, F.dStatState, F.dStatErr]) (.bus :: .pr :: p) s t :=
  (h.shown.mono (by simp) (by simp)).trans (hk.mono (by simp +contextual) (by simp +contextual))

/-- The frame of a command that is done. -/
theorem Begun.frameDone {code arg : Nat} {s u t : State} (h : Begun code arg s u) {l : List Fld} {p : List Part} (hk : Keeps l p u t)
    (err : Nat) : Keeps (F.dCmdDone :: l ++ [F.dStatCode, F.dStatState, F.dStatErr]) (.bus :: .pr :: p) s (t.cmdEnd code err) :=
  ((h.frame hk).mono (by simp +contextual) (by simp +contextual)).trans ((Keeps.cmdEndOnly code err t).mono (by simp) (by simp))

/-! ## Stone -/

theorem SMap.get?_del_same {α : Type} (m : SMap α) (j : Nat) : (m.del j).get? j = none := by
  induction m with
  | nil => rfl
  | cons p m ih =>
    obtain ⟨k, v⟩ := p
    by_cases h : k = j
    · simpa [SMap.del, h] using ih
    · simpa [SMap.del, SMap.get?, h] using ih

section
variable {l : List Fld} {p : List Part} {s t : State}

/-- Whatever touches Stone alone. -/
theorem Keeps.stOnly (h : Keeps l p s t) (x : StoneSt) (hp : Part.st ∈ p) : Keeps l p s { t with st := x } :=
  h.upd rfl rfl (fun q hq => by cases q <;> first | rfl | exact absurd hp hq)

/-- Whatever touches Press alone. -/
theorem Keeps.prOnly (h : Keeps l p s t) (x : PressSt) (hp : Part.pr ∈ p) : Keeps l p s { t with pr := x } :=
  h.upd rfl rfl (fun q hq => by cases q <;> first | rfl | exact absurd hp hq)

theorem storeBegin_eq (why : StoreWhy) (s : State) : ∃ x, storeBegin why s = { s with st := x } ∧
    x.store = some ⟨why, olderBank s, s.st.applied, { s.st.shadow with cfg := some (cfgRecord s) }, false⟩ := by
  unfold storeBegin
  cases olderBank s <;> exact ⟨_, rfl, rfl⟩

theorem storeAsk_eq (why : StoreWhy) (s : State) : ∃ x, storeAsk why s = { s with st := x } := by
  unfold storeAsk
  split
  · exact ⟨s.st, rfl⟩
  · split
    · exact (storeBegin_eq why s).imp fun _ => And.left
    · exact ⟨_, rfl⟩

theorem Keeps.storeAsk (h : Keeps l p s t) (why : StoreWhy) (hp : Part.st ∈ p) : Keeps l p s (storeAsk why t) := by
  obtain ⟨x, hx⟩ := storeAsk_eq why t
  rw [hx]
  exact h.stOnly x hp

theorem Keeps.txnDrop (h : Keeps l p s t) (k : Nat) (hp : Part.st ∈ p) : Keeps l p s (txnDrop k t) := h.stOnly _ hp
theorem Keeps.txnOpen (h : Keeps l p s t) (k : Nat) (hp : Part.st ∈ p) : Keeps l p s (txnOpen k t) := h.stOnly _ hp
theorem Keeps.commitBegin (h : Keeps l p s t) (k i : Nat) (m : SMap Nat) (hp : Part.st ∈ p) : Keeps l p s (commitBegin k i m t) :=
  h.stOnly _ hp

end

/-- A store begins where Stone is free and in service. -/
theorem storeAsk_free {s : State} (why : StoreWhy) (hb : stoneBusy s = false) (hi : s.stoneIsol = false) :
    storeAsk why s = storeBegin why s := by
  have hs : s.st.store = none := by simp [stoneBusy] at hb; exact hb.1.1
  simp [storeAsk, hi, hs]

/-- The host's COMMIT of an open transaction that holds words. -/
theorem hostCommit_words {s : State} {m : SMap Nat} {i : Nat} (ht : s.txn 0 = some m) (hm : m ≠ []) (hi : s.stoneIsol = false)
    (hf : freeSlot s 0 = some i) : hostCommit s = commitBegin 0 i m s := by
  cases m with
  | nil => exact absurd rfl hm
  | cons w ws => simp [hostCommit, ht, hi, hf]

theorem hostCommit_empty {s : State} (ht : s.txn 0 = some []) : hostCommit s = hostCommitted (txnDrop 0 s) := by
  simp [hostCommit, ht]

theorem stoneMode_of {s : State} (h : s.mode.operating = true) : stoneMode s = true := by simp [stoneMode, h]

/-! ## A snapshot -/

theorem CmdShown.snapTarget {s u : State} (h : CmdShown s u) : snapTarget u = snapTarget s := by
  unfold Machine.snapTarget State.snapSlot
  rw [h.st, h.is (f := F.prsSnappol) (by decide)]

/-- A trigger with no snapshot pending and a slot to take. -/
theorem pressTrigger_new {s : State} {i : Nat} (cause : Nat) (cmd : Bool) (hs : s.pr.snap = none) (hi : snapTarget s = some i) :
    pressTrigger cause cmd s = ({ s with pr := { s.pr with
      snap := some ⟨i, s.beatcnt, s.tm.now, cause, [s.beatcnt], cmd, none, []⟩ } } : State).wr F.prsSnapstate 1 := by
  simp [pressTrigger, hs, hi]

theorem Keeps.pressTriggerNew {s : State} {i : Nat} (cause : Nat) (cmd : Bool) (hs : s.pr.snap = none)
    (hi : snapTarget s = some i) : Keeps [F.prsSnapstate] [.pr] s (pressTrigger cause cmd s) := by
  rw [pressTrigger_new cause cmd hs hi]
  exact ((Keeps.refl _ _ s).prOnly _ (by decide)).wr 1 (by decide)

/-! ## The commands of Stone and Press -/

section
variable {s : State} (ht : takesCommand s) (hm : s.mode.operating = true)
include ht hm

theorem cmdStore_starts (hb : stoneBusy s = false) (hi : s.stoneIsol = false) :
    ∃ t, exec (.cmdStore 0) s = .next t ∧ CmdRuns 1 0 t ∧
      (∃ r, t.st.store = some r ∧ r.why = .cmd ∧ r.jser = s.st.applied ∧ r.img.mem = s.st.shadow.mem) ∧
      Keeps [F.dStatCode, F.dStatState, F.dStatErr] [.bus, .st, .pr] s t := by
  obtain ⟨u, hu, hrun⟩ := exec_begins (c := .cmdStore 0) ht rfl rfl (by simp [cmdOf, cmdErr, stoneMode_of hm, hb, hi])
  have hk : Keeps [] [.st] u (storeAsk .cmd u) := (Keeps.refl _ _ _).storeAsk .cmd (by decide)
  obtain ⟨x, hx, hstore⟩ := storeBegin_eq .cmd u
  refine ⟨_, hrun, hu.statusKept hk (by decide) nofun, ?_, (hu.frame hk).mono (by simp) (by simp)⟩
  rw [storeAsk_free .cmd (hu.shown.stoneBusy.trans hb) (hu.shown.stoneIsol.trans hi), hx]
  exact ⟨_, hstore, rfl, congrArg StoneSt.applied hu.shown.st, congrArg (fun x => x.shadow.mem) hu.shown.st⟩

theorem cmdBeginTxn_opens (hx : s.txn 0 = none) :
    ∃ t, exec (.cmdBeginTxn 0) s = .next t ∧ CmdIsDone 0x70 t ∧
      t.txn 0 = some [] ∧ Keeps [F.dCmdDone, F.dStatCode, F.dStatState, F.dStatErr] [.bus, .st, .pr] s t := by
  obtain ⟨u, hu, hrun⟩ := exec_begins (c := .cmdBeginTxn 0) ht rfl rfl (by simp [cmdOf, cmdErr, stoneMode_of hm, hx])
  have hk : Keeps [] [.st] u (txnOpen 0 u) := (Keeps.refl _ _ _).txnOpen 0 (by decide)
  have hst : ((txnOpen 0 u).cmdEnd 0x70 0).st = (txnOpen 0 u).st := (Keeps.cmdEndOnly _ _ _).part .st (by decide)
  refine ⟨_, hrun, hu.done hk (by decide) nofun, ?_, (hu.frameDone hk 0).mono (by simp) (by simp)⟩
  exact (congrArg (fun x => x.txns.get? 0) hst).trans (SMap.get?_set_same _ _ _)

theorem cmdAbortTxn_drops (hx : s.txn 0 ≠ none) :
    ∃ t, exec (.cmdAbortTxn 0) s = .next t ∧ CmdIsDone 3 t ∧
      t.txn 0 = none ∧ t.st.shadow = s.st.shadow ∧
      Keeps [F.dCmdDone, F.dStatCode, F.dStatState, F.dStatErr] [.bus, .st, .pr] s t := by
  obtain ⟨u, hu, hrun⟩ := exec_begins (c := .cmdAbortTxn 0) ht rfl rfl (by simp [cmdOf, cmdErr, stoneMode_of hm, hx])
  have hk : Keeps [] [.st] u (txnDrop 0 u) := (Keeps.refl _ _ _).txnDrop 0 (by decide)
  have hst : ((txnDrop 0 u).cmdEnd 3 0).st = (txnDrop 0 u).st := (Keeps.cmdEndOnly _ _ _).part .st (by decide)
  refine ⟨_, hrun, hu.done hk (by decide) nofun, ?_, ?_, (hu.frameDone hk 0).mono (by simp) (by simp)⟩
  · exact (congrArg (fun x => x.txns.get? 0) hst).trans (SMap.get?_del_same _ _)
  · have hsh : u.st.shadow = s.st.shadow := congrArg StoneSt.shadow hu.shown.st
    exact (congrArg StoneSt.shadow hst).trans hsh

theorem cmdCommit_empty (hx : s.txn 0 = some []) :
    ∃ t, exec (.cmdCommit 0) s = .next t ∧ CmdIsDone 2 t ∧
      t.rd F.dCommitdone = 1 ∧ t.txn 0 = none ∧
      Keeps [F.dCmdDone, F.dCommitdone, F.dStatCode, F.dStatState, F.dStatErr] [.bus, .st, .pr] s t := by
  obtain ⟨u, hu, hrun⟩ := exec_begins (c := .cmdCommit 0) ht rfl rfl (by simp [cmdOf, cmdErr, stoneMode_of hm, hx])
  rw [hostCommit_empty ((hu.shown.txn 0).trans hx)] at hrun
  have hk : Keeps [F.dCommitdone] [.st] u ((txnDrop 0 u).set1 F.dCommitdone) :=
    ((Keeps.refl _ _ _).txnDrop 0 (by decide)).set1 (by decide)
  have hend := Keeps.cmdEndOnly 2 0 ((txnDrop 0 u).set1 F.dCommitdone)
  have hst : (((txnDrop 0 u).set1 F.dCommitdone).cmdEnd 2 0).st = (txnDrop 0 u).st := hend.part .st (by decide)
  refine ⟨_, hrun, hu.done hk (by decide) (by decide), (hend.regs _ (by decide)).trans (State.rd_set1 _ rfl), ?_,
    (hu.frameDone hk 0).mono (by simp) (by simp)⟩
  exact (congrArg (fun x => x.txns.get? 0) hst).trans (SMap.get?_del_same _ _)

theorem cmdCommit_journals {m : SMap Nat} {i : Nat} (hx : s.txn 0 = some m) (hne : m ≠ []) (hi : s.stoneIsol = false)
    (hf : freeSlot s 0 = some i) :
    ∃ t, exec (.cmdCommit 0) s = .next t ∧ CmdRuns 2 0 t ∧
      t.txn 0 = none ∧ t.st.journal.get? (64 * 0 + i) = some ⟨s.st.serial + 1, false, m⟩ ∧ t.st.shadow = s.st.shadow ∧
      Keeps [F.dStatCode, F.dStatState, F.dStatErr] [.bus, .st, .pr] s t := by
  obtain ⟨u, hu, hrun⟩ := exec_begins (c := .cmdCommit 0) ht rfl rfl (by simp [cmdOf, cmdErr, stoneMode_of hm, hx])
  have hslot : freeSlot u 0 = some i := by simpa only [freeSlot, hu.shown.st] using hf
  rw [hostCommit_words ((hu.shown.txn 0).trans hx) hne (hu.shown.stoneIsol.trans hi) hslot] at hrun
  have hk : Keeps [] [.st] u (commitBegin 0 i m u) := (Keeps.refl _ _ _).commitBegin 0 i m (by decide)
  have hsh : u.st.shadow = s.st.shadow := congrArg StoneSt.shadow hu.shown.st
  refine ⟨_, hrun, hu.statusKept hk (by decide) nofun, SMap.get?_del_same _ _, ?_, hsh,
    (hu.frame hk).mono (by simp) (by simp)⟩
  rw [← hu.shown.st]
  exact SMap.get?_set_same _ _ _

theorem cmdPressSnap_triggers {i : Nat} (hs : s.pr.snap = none) (hi : snapTarget s = some i) :
    ∃ t, exec (.cmdPressSnap 0) s = .next t ∧ CmdRuns 0x20 0 t ∧
      t.pr = { s.pr with
        notes := s.pr.notes ++ [(0x70, bytesBE 1 0x20 ++ bytesBE 1 0)]
        snap := some ⟨i, s.beatcnt, s.tm.now, 0, [s.beatcnt], true, none, []⟩ } ∧
      t.rd F.prsSnapstate = 1 ∧ Keeps [F.prsSnapstate, F.dStatCode, F.dStatState, F.dStatErr] [.bus, .pr] s t := by
  obtain ⟨u, hu, hrun⟩ := exec_begins (c := .cmdPressSnap 0) ht rfl rfl (by simp [cmdOf, cmdErr, hm])
  have hsnap : u.pr.snap = none := by rw [hu.pr]; exact hs
  have htm : u.tm = s.tm := hu.shown.part .tm (by decide)
  have htgt : snapTarget u = some i := hu.shown.snapTarget.trans hi
  have hk := Keeps.pressTriggerNew 0 true hsnap htgt
  refine ⟨_, hrun, hu.statusKept hk (by decide) (by decide), ?_, ?_, (hu.frame hk).mono (by simp) (by simp)⟩
  · rw [pressTrigger_new 0 true hsnap htgt, hu.pr, hu.shown.beatcnt, htm]
    rfl
  · rw [pressTrigger_new 0 true hsnap htgt]
    exact State.rd_wr_same _ _ _

end
end Sys2Proof.Machine
end

section
/-! The calibration commands, and one command of CMD at a time. -/
namespace Sys2Proof.Machine

/-! ## A calibration run starts (R368, R381) -/

theorem CmdShown.calSkip {s u : State} (h : CmdShown s u) (l : List Nat) : calSkip u l = calSkip s l := by
  induction l with
  | nil => rfl
  | cons i l ih => simp only [Machine.calSkip, h.chanRunning, ih]

/-- The fields that the start of a run writes. -/
def calStartFlds : List Fld := [F.dCalBusy, F.dLastkind, F.dCalcnt, F.calTdcstale, F.calAuxstale, F.dCalStale]

theorem Keeps.putRun {l : List Fld} {p : List Part} {s t : State} (h : Keeps l p s t) (r : Option CalRun) (hca : Part.ca ∈ p)
    (hrf : Part.rf ∈ p) (h1 : F.calTdcstale ∈ l) (h2 : F.calAuxstale ∈ l) (h3 : F.dCalStale ∈ l) : Keeps l p s (putRun r t) := by
  have hrun (x : CalSt) (y : RefsSt) : Keeps l p s { t with ca := x, rf := y } :=
    h.upd rfl rfl (fun q hq => by cases q <;> first | rfl | exact absurd hca hq | exact absurd hrf hq)
  exact (((hrun _ _).wr _ h1).wr _ h2).wrB _ h3

theorem putRun_rd (r : Option CalRun) (s : State) {f : Fld}
    (hf : ∀ g ∈ [F.calTdcstale, F.calAuxstale, F.dCalStale], g.key ≠ f.key) : (putRun r s).rd f = s.rd f :=
  ((Keeps.refl [F.calTdcstale, F.calAuxstale, F.dCalStale] [.ca, .rf] s).putRun r (by decide) (by decide) (by simp) (by simp)
    (by simp)).regs f hf

theorem Keeps.calStart (kind arg cmd : Nat) (s : State) : Keeps calStartFlds [.ca, .rf, .st] s (calStart kind arg cmd s) :=
  (((((Keeps.refl calStartFlds [.ca, .rf, .st] s).set1 (by simp [calStartFlds])).wr kind (by simp [calStartFlds])).inc
    (by simp [calStartFlds])).tally 12 (by decide)).putRun _ (by decide) (by decide) (by simp [calStartFlds])
    (by simp [calStartFlds]) (by simp [calStartFlds])

/-- BUSY, LASTKIND, CALCNT and tally 12 of a run that starts. -/
theorem calStart_effect {kind : Nat} (hk : kind < 16) (arg cmd : Nat) (s : State) :
    (calStart kind arg cmd s).ca.run = some { kind := kind, items := calSkip s (calItems kind arg), cmd := cmd } ∧
      (calStart kind arg cmd s).rd F.dCalBusy = 1 ∧ (calStart kind arg cmd s).rd F.dLastkind = kind ∧
      (calStart kind arg cmd s).rd F.dCalcnt = min (s.rd F.dCalcnt + 1) 65535 ∧
      (calStart kind arg cmd s).st.tallyQ = addTally s.st.tallyQ 12 1 := by
  refine ⟨rfl, ?_, ?_, ?_, rfl⟩
  · refine (putRun_rd _ _ (by decide)).trans ?_
    change (((s.set1 F.dCalBusy).wr F.dLastkind kind).inc F.dCalcnt).rd F.dCalBusy = 1
    rw [State.inc, State.incBy, State.rd_wr_ne _ _ (by decide), State.rd_wr_ne _ _ (by decide), State.rd_set1 _ rfl]
  · refine (putRun_rd _ _ (by decide)).trans ?_
    change (((s.set1 F.dCalBusy).wr F.dLastkind kind).inc F.dCalcnt).rd F.dLastkind = kind
    rw [State.inc, State.incBy, State.rd_wr_ne _ _ (by decide), State.rd_wr_same]
    exact Nat.mod_eq_of_lt hk
  · refine (putRun_rd _ _ (by decide)).trans ?_
    change (((s.set1 F.dCalBusy).wr F.dLastkind kind).inc F.dCalcnt).rd F.dCalcnt = _
    rw [State.rd_inc, State.rd_wr_ne _ _ (by decide), State.set1, State.rd_wr_ne _ _ (by decide)]
    rfl

/-! ## The four calibration commands -/

/-- The command `c` asks for a run of kind `kind`, and its argument and domain pass the checks of R125. -/
def CalAsked (c : Instr) (kind : Nat) (a : BitVec 4) (s : State) : Prop :=
  (c = .cmdCalAll a ∧ kind = 1 ∧ a = 0 ∧ s.domOn 2 = true) ∨ (c = .cmdCalTdc a ∧ kind = 2 ∧ a = 0 ∧ s.domOn 2 = true) ∨
    (c = .cmdCalThresh a ∧ kind = 3 ∧ a.toNat ≤ 4 ∧ s.domOn 11 = true) ∨ (c = .cmdCalSkew a ∧ kind = 4 ∧ a.toNat ≤ 8)

section
variable {c : Instr} {kind : Nat} {a : BitVec 4} {s : State} (h : CalAsked c kind a s)
include h

theorem CalAsked.kind_le : kind ≤ 4 := by
  obtain ⟨-, rfl, -⟩ | ⟨-, rfl, -⟩ | ⟨-, rfl, -⟩ | ⟨-, rfl, -⟩ := h <;> decide

theorem CalAsked.row : exec c s = cmdRow (0x0F + kind) a (cmdErrOf c) (calCommand kind a.toNat (0x0F + kind)) s := by
  obtain ⟨rfl, rfl, rfl, -⟩ | ⟨rfl, rfl, rfl, -⟩ | ⟨rfl, rfl, -⟩ | ⟨rfl, rfl, -⟩ := h <;> rfl

theorem CalAsked.passes (hm : calMode s = true) : cmdOf s c = some (0x0F + kind, a, 0) := by
  obtain ⟨rfl, rfl, rfl, hd⟩ | ⟨rfl, rfl, rfl, hd⟩ | ⟨rfl, rfl, ha, hd⟩ | ⟨rfl, rfl, ha⟩ := h
  · simp [cmdOf, cmdErr, hm, hd]
  · simp [cmdOf, cmdErr, hm, hd]
  · simp [cmdOf, cmdErr, hm, hd, ha]
  · simp [cmdOf, cmdErr, hm, ha]

theorem CalAsked.starts (ht : takesCommand s) (hm : calMode s = true) (hr : s.ca.run = none) :
    ∃ t, exec c s = .next t ∧ CmdRuns (0x0F + kind) a.toNat t ∧
      t.ca.run = some { kind := kind, items := calSkip s (calItems kind a.toNat), cmd := 0x0F + kind } ∧ t.rd F.dCalBusy = 1 ∧
      t.rd F.dLastkind = kind ∧ t.rd F.dCalcnt = min (s.rd F.dCalcnt + 1) 65535 ∧ t.st.tallyQ = addTally s.st.tallyQ 12 1 ∧
      Keeps ([F.dCalBusy, F.dLastkind, F.dCalcnt, F.calTdcstale, F.calAuxstale, F.dCalStale] ++
        [F.dStatCode, F.dStatState, F.dStatErr]) [.bus, .ca, .rf, .st, .pr] s t := by
  obtain ⟨u, hu, hrun⟩ := exec_begins ht h.row rfl (h.passes hm)
  have hca : u.ca = s.ca := hu.shown.part .ca (by decide)
  have hnone : u.ca.run = none := by rw [hca, hr]
  have hstart : calCommand kind a.toNat (0x0F + kind) u = calStart kind a.toNat (0x0F + kind) u := by simp [calCommand, hnone]
  have hk := Keeps.calStart kind a.toNat (0x0F + kind) u
  obtain ⟨hrunning, hbusy, hkind, hcnt, htally⟩ :=
    calStart_effect (Nat.lt_of_le_of_lt h.kind_le (by decide)) a.toNat (0x0F + kind) u
  rw [hstart] at hrun
  refine ⟨_, hrun, hu.statusKept hk (by decide) (by decide), ?_, hbusy, hkind, ?_, ?_,
    (hu.frame hk).mono (by simp [calStartFlds]) (by simp)⟩
  · rw [hrunning, hu.shown.calSkip]
  · rw [hcnt, hu.shown.rd (by decide)]
  · rw [htally, hu.shown.st]

theorem CalAsked.waits {r : CalRun} (ht : takesCommand s) (hm : calMode s = true) (hr : s.ca.run = some r) :
    ∃ t, exec c s = .next t ∧ CmdRuns (0x0F + kind) a.toNat t ∧
      t.ca = { s.ca with queued := some (0x0F + kind, a.toNat) } ∧
      Keeps [F.dStatCode, F.dStatState, F.dStatErr] [.bus, .ca, .pr] s t := by
  obtain ⟨u, hu, hrun⟩ := exec_begins ht h.row rfl (h.passes hm)
  have hca : u.ca = s.ca := hu.shown.part .ca (by decide)
  have hsome : u.ca.run.isSome = true := by rw [hca, hr]; rfl
  have hwait : calCommand kind a.toNat (0x0F + kind) u = { u with ca.queued := some (0x0F + kind, a.toNat) } := if_pos hsome
  have hk : Keeps [] [.ca] u { u with ca.queued := some (0x0F + kind, a.toNat) } :=
    (Keeps.refl _ _ u).upd rfl rfl (fun q hq => by cases q <;> first | rfl | exact absurd hq (by decide))
  rw [hwait] at hrun
  refine ⟨_, hrun, hu.statusKept hk (by decide) nofun, ?_, (hu.frame hk).mono (by simp) (by simp)⟩
  simp only [hca]

end

/-- Settles O59: each command of the table is one row of CMD, whose effect is that of its own start. -/
theorem commandsRunOneAtATime : Obligations.CommandsRunOneAtATime := by
  unfold Obligations.CommandsRunOneAtATime
  refine ⟨fun c code e a r s h hb hc hr => command_refused h hb hc hr, fun c code e a s h ht he => command_fails h ht he,
    fun c code e a s h hl hr hn hc he => waiting_fails h (strobes_of hl hr hn) hc he,
    fun c code e a s h hb hc hp haway => command_waits h hb hc hp haway, fun s ht hm => ⟨?_, ?_, ?_, ?_, ?_, ?_⟩,
    fun c kind a s ht hm hasked => ⟨CalAsked.starts hasked ht hm, fun r hr => CalAsked.waits hasked ht hm hr⟩⟩
  · exact cmdStore_starts ht hm
  · exact cmdBeginTxn_opens ht hm
  · exact cmdAbortTxn_drops ht hm
  · exact cmdCommit_empty ht hm
  · exact fun m i hx hne hi hf => cmdCommit_journals ht hm hx hne hi hf
  · exact fun i hs hi => cmdPressSnap_triggers ht hm hs hi

end Sys2Proof.Machine
end

section
/-! GRAFT_NOW, LEARN_RESET and LOCK_SERVICE once they have begun. -/
namespace Sys2Proof.Machine

/-- What CMDSTAT, the host bus and Press show of a command that has begun. -/
theorem Begun.started {code arg : Nat} {s u : State} (h : Begun code arg s u) :
    u.bus.cmd = some ⟨code, arg, true⟩ ∧ u.rd F.dStatCode = code ∧ u.rd F.dStatState = 1 ∧
      u.pr = { s.pr with notes := s.pr.notes ++ [(0x70, bytesBE 1 code ++ bytesBE 1 arg)] } ∧
      Keeps [F.dStatCode, F.dStatState, F.dStatErr] [.bus, .pr] s u :=
  ⟨h.cmd, h.codeShown, h.stateShown, h.pr, h.shown⟩

/-! ## GRAFT_NOW (R125, R168, R184) -/

theorem graftDrop_ends (s : State) : (graftDrop s).is F.dGrafting = false := by
  unfold graftDrop
  cases hg : s.is F.dGrafting with
  | false => exact hg
  | true =>
    have hrd : (dropSlew (graftCut s)).rd F.dGrafting = 0 := by
      rw [dropSlew, State.rd_wr_ne _ _ (by decide), graftCut, if_pos hg]
      change ((((s.inc F.servoAbandcnt).clr F.dGrafting).wr F.dGraftref 15).wr F.servoGstate 0).rd F.dGrafting = 0
      rw [State.rd_wr_ne _ _ (by decide), State.rd_wr_ne _ _ (by decide), State.rd_clr]
    simp [State.is, hrd]

theorem graftNow_eq {s : State} {n : Nat} (h : preferred s = some n) : graftNow s =
    if timeRef (selPut n (graftDrop s)) n then graftTime n (selPut n (graftDrop s)) else graftFreq n (selPut n (graftDrop s)) := by
  simp [graftNow, h]

theorem cmdGraftNow_begins {n : Nat} {s : State} (ht : takesCommand s) (hm : s.mode = .track ∨ s.mode = .holdover ∨ s.mode = .ensemble)
    (hp : preferred s = some n) (hn : n ≠ s.rd F.dSelref) : ∃ u, Begun 0x30 0 s u ∧
      (selPut n (graftDrop u)).is F.dGrafting = false ∧
      exec (.cmdGraftNow 0) s = .next (if timeRef (selPut n (graftDrop u)) n then graftTime n (selPut n (graftDrop u))
        else graftFreq n (selPut n (graftDrop u))) := by
  have hmode : (s.mode == .track || s.mode == .holdover || s.mode == .ensemble) = true := by
    obtain h | h | h := hm <;> rw [h] <;> rfl
  obtain ⟨u, hu, hrun⟩ := exec_begins (c := .cmdGraftNow 0) ht rfl rfl (by simp [cmdOf, cmdErr, hmode, hp, hn])
  rw [graftNow_eq (hu.shown.preferred.trans hp)] at hrun
  exact ⟨u, hu, graftDrop_ends u, hrun⟩

/-! ## LEARN_RESET (R194, R197) -/

/-- The fields that LEARN_RESET writes: the factory prior, the fit's counts, the scores, MQ with READY, and the retrace shown. AGET is
not one of them. -/
def learnFlds : List Fld :=
  [F.servoA 0, F.servoA 1, F.servoA 2, F.servoA 3, F.servoA 4, F.servoA 5, F.servoAgea, F.servoAgeb, F.servoRetk, F.servoLearns,
   F.servoTaufit, F.servoResid, F.servoTscore, F.servoRscore, F.dHoldChg, F.dMq, F.dReady, F.servoRetnow, F.dRetrace]

section
variable {l : List Fld} {p : List Part} {s t : State}

theorem Keeps.wrAll (h : Keeps l p s t) (fs : List (Fld × Nat)) (v : Fld × Nat → Nat) (hf : ∀ x ∈ fs, x.1 ∈ l) :
    Keeps l p s (fs.foldl (fun s x => s.wr x.1 (v x)) t) := by
  induction fs generalizing t with
  | nil => exact h
  | cons x fs ih => exact ih (h.wr _ (hf x List.mem_cons_self)) (fun y hy => hf y (List.mem_cons_of_mem _ hy))

theorem Keeps.putMq (h : Keeps l p s t) (mq : Nat) (h1 : F.dHoldChg ∈ l) (h2 : F.dMq ∈ l) (h3 : F.dReady ∈ l) :
    Keeps l p s (putMq mq t) := by
  have hchg (b : Bool) : Keeps l p s (if b then t.set1 F.dHoldChg else t) := by
    cases b
    · exact h
    · exact h.set1 h1
  exact ((hchg _).wr _ h2).wrB _ h3

theorem Keeps.mqForm (h : Keeps l p s t) (hl : ∀ f ∈ [F.servoTscore, F.servoRscore, F.dHoldChg, F.dMq, F.dReady], f ∈ l) :
    Keeps l p s (mqForm t) :=
  ((h.wr _ (hl _ (by simp))).wr _ (hl _ (by simp))).putMq _ (hl _ (by simp)) (hl _ (by simp)) (hl _ (by simp))

theorem Keeps.retraceShow (h : Keeps l p s t) (h1 : F.servoRetnow ∈ l) (h2 : F.dRetrace ∈ l) : Keeps l p s (retraceShow t) :=
  (h.wrSat _ h1).wrB _ h2

end

/-- What LEARN_RESET has set before MQ is formed anew. -/
def learnCleared (s : State) : State :=
  { (((putPrior s).wr F.servoLearns 0).wr F.servoTaufit 21600).wr F.servoResid residCeil with
    mo.resid := [], mo.corr := [], mo.runHigh := 0, mo.runLong := 0, mo.innSq := [], mo.fit := none }

theorem learnReset_eq (s : State) : learnReset s = retraceShow (mqForm (learnCleared s)) := rfl

theorem learnCleared_learns (s : State) : (learnCleared s).rd F.servoLearns = 0 := by
  change ((((putPrior s).wr F.servoLearns 0).wr F.servoTaufit 21600).wr F.servoResid residCeil).rd F.servoLearns = 0
  rw [State.rd_wr_ne _ _ (by decide), State.rd_wr_ne _ _ (by decide), State.rd_wr_same]
  rfl

theorem Keeps.learnReset (s : State) : Keeps learnFlds [.mo] s (learnReset s) := by
  have hprior : Keeps learnFlds [.mo] s (putPrior s) := (Keeps.refl _ _ s).wrAll _ (fun x => (Config.facModel x.2).toNat) (by decide)
  have hwr := ((hprior.wr (f := F.servoLearns) 0 (by decide)).wr (f := F.servoTaufit) 21600 (by decide)).wr (f := F.servoResid)
    residCeil (by decide)
  have hcleared : Keeps learnFlds [.mo] s (learnCleared s) :=
    hwr.upd rfl rfl (fun q hq => by cases q <;> first | rfl | exact absurd hq (by decide))
  rw [learnReset_eq]
  exact (hcleared.mqForm (by decide)).retraceShow (by decide) (by decide)

/-- A model that has learnt nothing has MQ 0. -/
theorem mqNow_unlearnt {s : State} (h : s.rd F.servoLearns = 0) : mqNow s = 0 := by
  have ht : tscore s = 0 := by simp [tscore, h]
  simp [mqNow, ht]

theorem putMq_zero (s : State) : (putMq 0 s).rd F.dMq = 0 ∧ (putMq 0 s).rd F.dReady = 0 := by
  unfold putMq
  dsimp only
  refine ⟨?_, ?_⟩
  · rw [State.wrB, State.rd_wr_ne _ _ (by decide), State.rd_wr_same]
    rfl
  · rw [State.wrB, State.rd_wr_same]
    rfl

theorem mqForm_unlearnt {s : State} (h : s.rd F.servoLearns = 0) :
    (mqForm s).rd F.dMq = 0 ∧ (mqForm s).rd F.dReady = 0 ∧ (mqForm s).rd F.servoLearns = 0 := by
  have hscored : ((s.wr F.servoTscore (tscore s)).wr F.servoRscore (rscore s)).rd F.servoLearns = 0 := by
    rw [State.rd_wr_ne _ _ (by decide), State.rd_wr_ne _ _ (by decide), h]
  have hk : (mqForm s).rd F.servoLearns = s.rd F.servoLearns :=
    ((Keeps.refl [F.servoTscore, F.servoRscore, F.dHoldChg, F.dMq, F.dReady] [] s).mqForm (fun _ hf => hf)).regs _ (by decide)
  have heq : mqForm s = putMq 0 ((s.wr F.servoTscore (tscore s)).wr F.servoRscore (rscore s)) := by
    rw [← mqNow_unlearnt hscored]
    rfl
  exact ⟨heq ▸ (putMq_zero _).1, heq ▸ (putMq_zero _).2, hk.trans h⟩

theorem learnReset_effect (s : State) : (learnReset s).rd F.dMq = 0 ∧ (learnReset s).rd F.dReady = 0 ∧
    (learnReset s).rd F.servoLearns = 0 := by
  have hshow (f : Fld) (hf : ∀ g ∈ [F.servoRetnow, F.dRetrace], g.key ≠ f.key) :
      (learnReset s).rd f = (mqForm (learnCleared s)).rd f :=
    ((Keeps.refl [F.servoRetnow, F.dRetrace] [] _).retraceShow (by simp) (by simp)).regs f hf
  obtain ⟨hmq, hready, hlearns⟩ := mqForm_unlearnt (learnCleared_learns s)
  exact ⟨(hshow _ (by decide)).trans hmq, (hshow _ (by decide)).trans hready, (hshow _ (by decide)).trans hlearns⟩

theorem cmdLearnReset_resets {s : State} (ht : takesCommand s) (hm : s.mode = .provision ∨ s.mode = .track) :
    ∃ u t, Begun 0x40 0 s u ∧ exec (.cmdLearnReset 0) s = .next t ∧ t = (learnReset u).cmdEnd 0x40 0 ∧ CmdIsDone 0x40 t ∧
      t.rd F.dMq = 0 ∧ t.rd F.dReady = 0 ∧ t.rd F.servoLearns = 0 ∧ t.rd F.servoAget = s.rd F.servoAget := by
  have hmode : (s.mode == .provision || s.mode == .track) = true := by
    obtain h | h := hm <;> rw [h] <;> rfl
  obtain ⟨u, hu, hrun⟩ := exec_begins (c := .cmdLearnReset 0) ht rfl rfl (by simp [cmdOf, cmdErr, hmode])
  have hk := Keeps.learnReset u
  have hend {f : Fld} := (Keeps.cmdEndOnly 0x40 0 (learnReset u)).regs f
  obtain ⟨hmq, hready, hlearns⟩ := learnReset_effect u
  refine ⟨u, _, hu, hrun, rfl, hu.done hk (by decide) (by decide), (hend (by decide)).trans hmq, (hend (by decide)).trans hready,
    (hend (by decide)).trans hlearns, ?_⟩
  exact (hend (by decide)).trans ((hk.regs _ (by decide)).trans (hu.shown.rd (by decide)))

/-! ## LOCK_SERVICE (R415) -/

theorem Keeps.setLock {l : List Fld} {p : List Part} {s t : State} (h : Keeps l p s t) (n : Nat) (hp : Part.st ∈ p)
    (h1 : F.dLock ∈ l) (h2 : F.dAccChg ∈ l) (h3 : F.stoHolddef ∈ l) : Keeps l p s (setLock n t) :=
  (((h.wr n h1).set1 h2).engineWrite _ hp h3).storeAsk _ hp

theorem setLock_effect {n : Nat} (hn : n < 4) (s : State) : (setLock n s).rd F.dLock = n ∧ (setLock n s).rd F.dAccChg = 1 := by
  have hrec : Keeps [F.stoHolddef] [.st] ((s.wr F.dLock n).set1 F.dAccChg) (setLock n s) :=
    ((Keeps.refl _ _ _).engineWrite _ (by decide) (by simp)).storeAsk _ (by decide)
  refine ⟨(hrec.regs _ (by decide)).trans ?_, (hrec.regs _ (by decide)).trans (State.rd_set1 _ rfl)⟩
  rw [State.set1, State.rd_wr_ne _ _ (by decide), State.rd_wr_same]
  exact Nat.mod_eq_of_lt hn

/-- LOCK_SERVICE leaves LOCK at 1, and a LOCK that it changes in CHG. -/
theorem lockService_effect (s : State) : (lockService s).rd F.dLock = 1 ∧ (s.rd F.dLock ≠ 1 → (lockService s).rd F.dAccChg = 1) ∧
    Keeps [F.dLock, F.dAccChg, F.stoHolddef] [.st, .sc] s (lockService s) := by
  have hruns (x : SvcSt) : Keeps [F.dLock, F.dAccChg, F.stoHolddef] [.st, .sc] s { s with sc := x } :=
    (Keeps.refl _ _ s).upd rfl rfl (fun q hq => by cases q <;> first | rfl | exact absurd hq (by decide))
  unfold lockService
  dsimp only
  split
  · rename_i h
    exact ⟨h, fun hne => absurd h hne, hruns _⟩
  · obtain ⟨hlock, hchg⟩ := setLock_effect (n := 1) (by decide)
      { s with sc.runs := s.sc.runs.map (fun a => if a.due ≤ s.tm.now then { a with noLock := true } else a) }
    exact ⟨hlock, fun _ => hchg, (hruns _).setLock 1 (by decide) (by simp) (by simp) (by simp)⟩

theorem cmdLockService_locks {s : State} (ht : takesCommand s) (hm : s.mode.operating = true) (hp : s.is F.svcPwisset = true) :
    ∃ t, exec (.cmdLockService 0) s = .next t ∧ CmdIsDone 0x60 t ∧
      t.rd F.dLock = 1 ∧ (s.rd F.dLock ≠ 1 → t.rd F.dAccChg = 1) ∧
      Keeps [F.dCmdDone, F.dLock, F.dAccChg, F.stoHolddef, F.dStatCode, F.dStatState, F.dStatErr] [.bus, .st, .sc, .pr] s t := by
  obtain ⟨u, hu, hrun⟩ := exec_begins (c := .cmdLockService 0) ht rfl rfl (by simp [cmdOf, cmdErr, hm, hp])
  obtain ⟨hlock, hchg, hk⟩ := lockService_effect u
  have hend {f : Fld} := (Keeps.cmdEndOnly 0x60 0 (lockService u)).regs f
  refine ⟨_, hrun, hu.done hk (by decide) (by decide), (hend (by decide)).trans hlock, fun hne => ?_,
    (hu.frameDone hk 0).mono (by simp) (by simp)⟩
  exact (hend (by decide)).trans (hchg (by rwa [hu.shown.rd (f := F.dLock) (by decide)]))

end Sys2Proof.Machine
end

section
/-! REQUALIFY once it has begun: qualification starts anew. -/
namespace Sys2Proof.Machine

/-! ## A reference enters a state (R155) -/

/-- The fields that the entry of reference `n` into a state writes. -/
def refMoveFlds (n : Nat) : List Fld := [F.refState n, F.refTimer n, F.dRefChg, F.servoJrefmask, F.dJumpPend]

section
variable {l : List Fld} {p : List Part} {s t : State}

theorem Keeps.rfOnly (h : Keeps l p s t) (x : RefsSt) (hp : Part.rf ∈ p) : Keeps l p s { t with rf := x } :=
  h.upd rfl rfl (fun q hq => by cases q <;> first | rfl | exact absurd hp hq)

theorem Keeps.svOnly (h : Keeps l p s t) (x : ServoSt) (hp : Part.sv ∈ p) : Keeps l p s { t with sv := x } :=
  h.upd rfl rfl (fun q hq => by cases q <;> first | rfl | exact absurd hp hq)

theorem Keeps.setRef (h : Keeps l p s t) (n : Nat) (r : RefRec) (hp : Part.rf ∈ p) : Keeps l p s (t.setRef n r) := h.rfOnly _ hp

theorem Keeps.jumpClear (h : Keeps l p s t) (n : Nat) (hp : Part.rf ∈ p) (h1 : F.servoJrefmask ∈ l) (h2 : F.dJumpPend ∈ l) :
    Keeps l p s (t.jumpClear n) :=
  ((h.wrBit n false h1).wrB _ h2).setRef n _ hp

theorem Keeps.toState (h : Keeps l p s t) (n st : Nat) (hp : Part.rf ∈ p) (hl : ∀ f ∈ refMoveFlds n, f ∈ l) :
    Keeps l p s (t.toState n st) := by
  have hchg (b : Bool) : Keeps l p s (if b then t.set1 F.dRefChg else t) := by
    cases b
    · exact h
    · exact h.set1 (hl _ (by simp [refMoveFlds]))
  have hclear (b : Bool) {u : State} (hu : Keeps l p s u) : Keeps l p s (if b then u.jumpClear n else u) := by
    cases b
    · exact hu
    · exact hu.jumpClear n hp (hl _ (by simp [refMoveFlds])) (hl _ (by simp [refMoveFlds]))
  exact (((hclear _ (hchg _)).wr st (hl _ (by simp [refMoveFlds]))).wr 0 (hl _ (by simp [refMoveFlds]))).setRef n _ hp

theorem Keeps.refLeaveFailed (h : Keeps l p s t) (n : Nat) (hp : Part.flt ∈ p) : Keeps l p s (refLeaveFailed n t) := by
  unfold Machine.refLeaveFailed
  split
  · exact h.liveClr _ _ hp
  · exact h

theorem Keeps.refSelection (h : Keeps l p s t) (hp : Part.rf ∈ p) (hl : ∀ f ∈ [F.dManbad, F.refCandref, F.refWtrleft], f ∈ l) :
    Keeps l p s (refSelection t) := by
  have hbad (b : Bool) : Keeps l p s (if b then t.set1 F.dManbad else t) := by
    cases b
    · exact h
    · exact h.set1 (hl _ (by simp))
  unfold Machine.refSelection
  split
  · exact (((hbad _).wr _ (hl _ (by simp))).wr _ (hl _ (by simp))).rfOnly _ hp
  · exact h

end

theorem refTimer_key_ne (n m : Nat) : (F.refTimer n).key ≠ (F.refState m).key := by
  simp only [Fld.key, F.refTimer, F.refState]; omega
theorem refTimer_key_ne_chg (n : Nat) : (F.refTimer n).key ≠ F.dRefChg.key := by
  simp only [Fld.key, F.refTimer, F.dRefChg]; omega
theorem refState_key_ne_chg (n : Nat) : (F.refState n).key ≠ F.dRefChg.key := by
  simp only [Fld.key, F.refState, F.dRefChg]; omega

theorem toState_entered {st : Nat} (hst : st < 8) (n : Nat) (s : State) : Entered n st s (s.toState n st) := by
  refine ⟨?_, State.rd_wr_same _ _ _, fun hc => ?_⟩
  · change ((_ : State).wr (F.refTimer n) 0).rd (F.refState n) = st
    rw [State.rd_wr_ne _ _ (refTimer_key_ne n n), State.rd_wr_same]
    exact Nat.mod_eq_of_lt hst
  · have hclear (b : Bool) (u : State) : (if b then u.jumpClear n else u).rd F.dRefChg = u.rd F.dRefChg := by
      cases b
      · rfl
      · exact ((Keeps.refl [F.servoJrefmask, F.dJumpPend] [.rf] u).jumpClear n (by decide) (by simp) (by simp)).regs _ (by decide)
    have hne : (summaryOf st != summaryOf (s.refState n)) = true := by simpa using hc
    change ((_ : State).wr (F.refTimer n) 0).rd F.dRefChg = 1
    rw [State.rd_wr_ne _ _ (refTimer_key_ne_chg n), State.rd_wr_ne _ _ (refState_key_ne_chg n), hclear, if_pos hne]
    exact State.rd_set1 _ rfl

/-- What follows an entry and writes neither its fields nor CHG leaves it an entry. -/
theorem Entered.keeps {n st : Nat} {s t u : State} (h : Entered n st s t) {l : List Fld} {p : List Part} (hk : Keeps l p t u)
    (hl : ∀ g ∈ l, g.key ≠ (F.refState n).key ∧ g.key ≠ (F.refTimer n).key ∧ g.key ≠ F.dRefChg.key) : Entered n st s u :=
  ⟨(hk.regs _ (fun g hg => (hl g hg).1)).trans h.state, (hk.regs _ (fun g hg => (hl g hg).2.1)).trans h.timer,
    fun hc => (hk.regs _ (fun g hg => (hl g hg).2.2)).trans (h.changed hc)⟩

/-- An entry hangs on the state it leaves through the reference's code alone. -/
theorem Entered.from {n st : Nat} {s s' t : State} (h : Entered n st s t) (hs : s.refState n = s'.refState n) : Entered n st s' t :=
  ⟨h.state, h.timer, fun hc => h.changed (by rwa [hs])⟩

/-! ## A reference starts as when it is enabled (R155) -/

/-- The fields that a restart of reference `n` writes. -/
def restartFlds (n : Nat) : List Fld :=
  [F.refRisecnt n, F.refFallcnt n, F.refSettled n, F.refState n, F.refTimer n, F.dRefChg, F.servoJrefmask, F.dJumpPend]

theorem refLeaveFailed_refState (n : Nat) (s : State) : (refLeaveFailed n s).refState n = s.refState n :=
  ((Keeps.refl [] [.flt] s).refLeaveFailed n (by decide)).regs _ nofun

/-- The moves that a restart begins with. -/
theorem restart_moved {st : Nat} (hst : st < 8) (n : Nat) (s : State) :
    Entered n st s ((refLeaveFailed n s).toState n st) ∧
      Keeps (restartFlds n) [.rf, .flt] s ((refLeaveFailed n s).toState n st) :=
  ⟨(toState_entered hst n _).from (refLeaveFailed_refState n s),
    ((Keeps.refl _ _ s).refLeaveFailed n (by decide)).toState n st (by decide) (by simp [refMoveFlds, restartFlds])⟩

theorem toObserving_effect (n : Nat) (s : State) : Entered n 2 s (toObserving n s) ∧ ((toObserving n s).ref n).samples = [] ∧
    Keeps (restartFlds n) [.rf, .flt] s (toObserving n s) := by
  obtain ⟨hent, hk⟩ := restart_moved (st := 2) (by decide) n s
  refine ⟨hent.keeps (l := []) (p := [.rf]) ((Keeps.refl _ _ _).setRef n _ (by decide)) nofun, ?_, hk.setRef n _ (by decide)⟩
  exact congrArg RefRec.samples (SMap.getD_set_same _ _ _ _)

theorem toIndeterminate_effect (n : Nat) (s : State) : Entered n 1 s (toIndeterminate n s) ∧
    ((toIndeterminate n s).ref n).samples = [] ∧ Keeps (restartFlds n) [.rf, .flt] s (toIndeterminate n s) := by
  obtain ⟨hent, hk⟩ := restart_moved (st := 1) (by decide) n s
  have hafter {l : List Fld} {p : List Part} {u : State} (hp : Part.rf ∈ p) (h1 : F.refRisecnt n ∈ l) (h2 : F.refFallcnt n ∈ l)
      (h3 : F.refSettled n ∈ l) (h : Keeps l p u ((refLeaveFailed n s).toState n 1)) : Keeps l p u (toIndeterminate n s) := by
    have hcounts := (h.wr 0 h1).wr 0 h2
    have hsettled (b : Bool) {v : State} (hv : Keeps l p u v) : Keeps l p u (if b then v else v.clr (F.refSettled n)) := by
      cases b
      · exact hv.clr h3
      · exact hv
    exact (hsettled _ hcounts).setRef n _ hp
  refine ⟨?_, congrArg RefRec.samples (SMap.getD_set_same _ _ _ _),
    hafter (by decide) (by simp [restartFlds]) (by simp [restartFlds]) (by simp [restartFlds]) hk⟩
  refine hent.keeps (l := [F.refRisecnt n, F.refFallcnt n, F.refSettled n]) (p := [.rf])
    (hafter (by decide) (by simp) (by simp) (by simp) (Keeps.refl _ _ _)) ?_
  simp only [List.forall_mem_cons, Fld.key, F.refRisecnt, F.refFallcnt, F.refSettled, F.refState, F.refTimer, F.dRefChg]
  exact ⟨by omega, by omega, by omega, nofun⟩

/-- The state that an enabled reference starts from. -/
def startState (n : Nat) : Nat := if n < 4 then 1 else 2

theorem refRestart_effect (n : Nat) (s : State) : Entered n (startState n) s (refRestart n s) ∧ ((refRestart n s).ref n).samples = [] ∧
    Keeps (restartFlds n) [.rf, .flt] s (refRestart n s) := by
  unfold refRestart startState
  split
  · exact toIndeterminate_effect n s
  · exact toObserving_effect n s

/-! ## REQUALIFY (R125) -/

theorem restartFlds_apart (n : Nat) : ∀ g ∈ restartFlds n, g.key / 128 ≠ F.dStatCode.key / 128 := by
  simp only [restartFlds, List.forall_mem_cons, Fld.key, F.refRisecnt, F.refFallcnt, F.refSettled, F.refState, F.refTimer, F.dRefChg,
    F.servoJrefmask, F.dJumpPend, F.dStatCode]
  exact ⟨by omega, by omega, by omega, by omega, by omega, by omega, by omega, by omega, nofun⟩

theorem refOperand (n : Fin 10) : BitVec.ofNat 4 n ≠ 15 ∧ (BitVec.ofNat 4 n).toNat = n := by decide +revert

/-- A restart of reference `m` writes neither an ENABLE nor the state code of another reference. -/
theorem restartFlds_ne {m n a : Nat} (ha : a = 0 ∨ a = 1 ∧ m ≠ n) {f : Fld} (hf : f.key = (16777216 + (a + 32 * n)) * 128) :
    ∀ g ∈ restartFlds m, g.key ≠ f.key := by
  rw [hf]
  simp only [restartFlds, List.forall_mem_cons, Fld.key, F.refRisecnt, F.refFallcnt, F.refSettled, F.refState, F.refTimer, F.dRefChg,
    F.servoJrefmask, F.dJumpPend]
  exact ⟨by omega, by omega, by omega, by omega, by omega, by omega, by omega, by omega, nofun⟩

/-- The state code of reference `n` after reference `m` has been qualified again. -/
theorem requalify_refState (m n : Nat) (s : State) : (requalify m s).refState n =
    if m = n ∧ s.is (F.refEnable n) = true then startState n else s.refState n := by
  obtain ⟨hent, -, hk⟩ := refRestart_effect m s
  by_cases he : s.is (F.refEnable m) = true
  · rw [requalify, if_pos he]
    by_cases hmn : m = n
    · subst hmn
      rw [if_pos ⟨rfl, he⟩]
      exact hent.state
    · rw [if_neg (fun h => hmn h.1)]
      exact hk.regs _ (restartFlds_ne (.inr ⟨rfl, hmn⟩) (by simp only [Fld.key, F.refState]; omega))
  · rw [requalify, if_neg he, if_neg]
    rintro ⟨rfl, h⟩
    exact he h

theorem requalify_enable (m n : Nat) (s : State) : (requalify m s).is (F.refEnable n) = s.is (F.refEnable n) := by
  unfold requalify
  split
  · exact congrArg (· != 0) ((refRestart_effect m s).2.2.regs (F.refEnable n)
      (restartFlds_ne (n := n) (.inl rfl) (by simp only [Fld.key, F.refEnable]; omega)))
  · rfl

theorem forN_succ (f : Nat → State → State) (k : Nat) (s : State) : forN (k + 1) f s = f k (forN k f s) := by
  simp [forN, List.range_succ]

/-- The first `k` references qualified again, one after the other. -/
theorem requalifyAll_refState (k n : Nat) (s : State) : (forN k requalify s).is (F.refEnable n) = s.is (F.refEnable n) ∧
    (forN k requalify s).refState n = if n < k ∧ s.is (F.refEnable n) = true then startState n else s.refState n := by
  induction k with
  | zero => exact ⟨rfl, by simp [forN]⟩
  | succ k ih =>
    obtain ⟨hen, hst⟩ := ih
    rw [forN_succ, requalify_enable, requalify_refState, hen, hst]
    refine ⟨rfl, ?_⟩
    by_cases he : s.is (F.refEnable n) = true
    · by_cases hk : k = n
      · simp [hk, he]
      · have hlt : n < k + 1 ↔ n < k := by omega
        simp [hk, he, hlt]
    · simp [he]

theorem Keeps.requalifyAll (k : Nat) (s : State) :
    Keeps ((List.range k).flatMap restartFlds) [.rf, .flt] s (Machine.forN k requalify s) := by
  refine (Keeps.refl _ _ s).forN k (fun i u hi hu => ?_)
  unfold requalify
  split
  · exact hu.trans ((refRestart_effect i u).2.2.mono (fun f hf => List.mem_flatMap.2 ⟨i, List.mem_range.2 hi, hf⟩) (fun _ h => h))
  · exact hu

section
variable {s : State} (ht : takesCommand s) (hm : s.mode.operating = true)
include ht hm

/-- REQUALIFY of one reference. -/
theorem cmdRequalify_one (n : Fin 10) : ∃ u, Begun 0x31 n s u ∧
    exec (.cmdRequalify (BitVec.ofNat 4 n)) s = .next ((requalify n u).cmdEnd 0x31 0) := by
  obtain ⟨hne, hn⟩ := refOperand n
  have hlt : (BitVec.ofNat 4 n).toNat < 10 := by rw [hn]; exact n.isLt
  obtain ⟨u, hu, hrun⟩ := exec_begins (c := .cmdRequalify (BitVec.ofNat 4 n)) ht rfl hn
    (by simp only [cmdOf, cmdErr, hm, hlt, decide_true]; rfl)
  rw [if_neg hne, hn] at hrun
  exact ⟨u, hu, hrun⟩

theorem cmdRequalify_enabled {n : Fin 10} (he : s.is (F.refEnable n) = true) :
    ∃ t, exec (.cmdRequalify (BitVec.ofNat 4 n)) s = .next t ∧ CmdIsDone 0x31 t ∧ Entered n (startState n) s t ∧
      (t.ref n).samples = [] ∧ Keeps ([F.refRisecnt n, F.refFallcnt n, F.refSettled n, F.refState n, F.refTimer n, F.dRefChg,
        F.servoJrefmask, F.dJumpPend, F.dCmdDone] ++ [F.dStatCode, F.dStatState, F.dStatErr]) [.bus, .rf, .flt, .pr] s t := by
  obtain ⟨u, hu, hrun⟩ := cmdRequalify_one ht hm n
  have heu : u.is (F.refEnable n) = true := (hu.shown.is (by simp only [Fld.key, F.refEnable, F.dStatCode]; omega)).trans he
  rw [requalify, if_pos heu] at hrun
  obtain ⟨hent, hsamples, hk⟩ := refRestart_effect n u
  have hend := Keeps.cmdEndOnly 0x31 0 (refRestart n u)
  have hrf : ((refRestart n u).cmdEnd 0x31 0).rf = (refRestart n u).rf := hend.part .rf (by decide)
  have hfrom : u.refState n = s.refState n := hu.shown.rd (by simp only [Fld.key, F.refState, F.dStatCode]; omega)
  refine ⟨_, hrun, hu.done hk (by decide) (restartFlds_apart n), (hent.from hfrom).keeps hend ?_, ?_,
    (hu.frameDone hk 0).mono (by simp [restartFlds]) (by simp)⟩
  · simp only [List.forall_mem_cons, Fld.key, F.dCmdDone, F.dStatState, F.dStatErr, F.refState, F.refTimer, F.dRefChg]
    exact ⟨by omega, by omega, by omega, nofun⟩
  · exact (congrArg (fun x => (x.recs.getD n {}).samples) hrf).trans hsamples

theorem cmdRequalify_disabled {n : Fin 10} (he : s.is (F.refEnable n) = false) :
    ∃ t, exec (.cmdRequalify (BitVec.ofNat 4 n)) s = .next t ∧ CmdIsDone 0x31 t ∧
      Keeps [F.dCmdDone, F.dStatCode, F.dStatState, F.dStatErr] [.bus, .pr] s t := by
  obtain ⟨u, hu, hrun⟩ := cmdRequalify_one ht hm n
  have heu : ¬ u.is (F.refEnable n) = true := by
    rw [hu.shown.is (by simp only [Fld.key, F.refEnable, F.dStatCode]; omega), he]
    exact Bool.false_ne_true
  rw [requalify, if_neg heu] at hrun
  exact ⟨_, hrun, hu.done (Keeps.refl [] [] u) (by decide) nofun, (hu.frameDone (Keeps.refl [] [] u) 0).mono (by simp) (by simp)⟩

/-- REQUALIFY of every reference. -/
theorem cmdRequalify_all : ∃ t, exec (.cmdRequalify 15) s = .next t ∧ CmdIsDone 0x31 t ∧ ∀ n : Fin 10,
    t.refState n = if s.is (F.refEnable n) then startState n else s.refState n := by
  obtain ⟨u, hu, hrun⟩ := exec_begins (c := .cmdRequalify 15) ht rfl rfl (by simp [cmdOf, cmdErr, hm])
  rw [if_pos rfl] at hrun
  refine ⟨_, hrun, hu.done (Keeps.requalifyAll 10 u) (by decide) ?_, fun n => ?_⟩
  · intro g hg
    obtain ⟨i, -, hi⟩ := List.mem_flatMap.1 hg
    exact restartFlds_apart i g hi
  · have hend : ((forN 10 requalify u).cmdEnd 0x31 0).refState n = (forN 10 requalify u).refState n := by
      refine (Keeps.cmdEndOnly 0x31 0 _).regs _ ?_
      simp only [List.forall_mem_cons, Fld.key, F.dCmdDone, F.dStatState, F.dStatErr, F.refState]
      exact ⟨by omega, by omega, by omega, nofun⟩
    have hfrom : u.refState n = s.refState n := hu.shown.rd (by simp only [Fld.key, F.refState, F.dStatCode]; omega)
    have hen : u.is (F.refEnable n) = s.is (F.refEnable n) :=
      hu.shown.is (by simp only [Fld.key, F.refEnable, F.dStatCode]; omega)
    rw [hend, (requalifyAll_refState 10 n u).2, hen, hfrom]
    simp

end
end Sys2Proof.Machine
end

section
/-! ACCEPT_JUMP once it has begun. -/
namespace Sys2Proof.Machine

/-! ## What follows the acceptance of a jump (R183) -/

/-- The fields that ACCEPT_JUMP writes once it has set ACC: the step or the slew, and the other refusals evaluated again. -/
def jumpAfterFlds : List Fld :=
  [F.dJumpStepped, F.servoStepcnt, F.servoSlewrem, F.dSlewing, F.dManbad, F.refCandref, F.refWtrleft, F.dJref, F.dJumpNeg, F.dJumpMag,
   F.servoJoffsec, F.servoJoffns, F.dJumpPend, F.dRefChg, F.servoJrefmask] ++
    (List.range 8).flatMap (fun m => [F.refState m, F.refTimer m])

theorem refMoveFlds_after {m : Nat} (hm : m < 8) : ∀ f ∈ refMoveFlds m, f ∈ jumpAfterFlds := by
  have hrefs {f : Fld} (hf : f ∈ [F.refState m, F.refTimer m]) : f ∈ jumpAfterFlds :=
    List.mem_append_right _ (List.mem_flatMap.2 ⟨m, List.mem_range.2 hm, hf⟩)
  simp only [refMoveFlds, List.forall_mem_cons]
  exact ⟨hrefs (by simp), hrefs (by simp), List.mem_append_left _ (by simp), List.mem_append_left _ (by simp),
    List.mem_append_left _ (by simp), nofun⟩

section
variable {s t : State} (h : Keeps jumpAfterFlds [.tm, .sv, .rf] s t)
include h

theorem Keeps.refuseEnd {m : Nat} (hm : m < 8) : Keeps jumpAfterFlds [.tm, .sv, .rf] s (refuseEnd m t) := by
  have hstate : Keeps jumpAfterFlds [.tm, .sv, .rf] s (if t.refState m = 4 then t.toState m 3 else t) := by
    split
    · exact h.toState m 3 (by decide) (refMoveFlds_after hm)
    · exact h
  have hclear (b : Bool) {u : State} (hu : Keeps jumpAfterFlds [.tm, .sv, .rf] s u) :
      Keeps jumpAfterFlds [.tm, .sv, .rf] s (if b then u.jumpClear m else u) := by
    cases b
    · exact hu
    · exact hu.jumpClear m (by decide) (by decide) (by decide)
  exact ((hclear _ hstate).svOnly _ (by decide)).refSelection (by decide) (by decide)

theorem Keeps.putJump (n : Nat) (d : Int) : Keeps jumpAfterFlds [.tm, .sv, .rf] s (putJump n d t) :=
  (((((h.wr _ (by decide)).wrB _ (by decide)).wr _ (by decide)).set1 (by decide)).wrSat _ (by decide)).wrS _ (by decide)

theorem Keeps.jumpReeval (d : Int) : Keeps jumpAfterFlds [.tm, .sv, .rf] s (jumpReeval d t) := by
  refine h.forN 8 (fun m u hm hu => ?_)
  split
  · unfold jumpAgain
    dsimp only
    split
    · exact hu.refuseEnd hm
    · exact (hu.svOnly _ (by decide)).putJump m _
  · exact hu

theorem Keeps.startSlew (x : Int) (jump : Bool) : Keeps jumpAfterFlds [.tm, .sv, .rf] s (startSlew x jump t) :=
  ((h.wrSat _ (by decide)).svOnly _ (by decide)).set1 (by decide)

theorem Keeps.jumpStep (d : Int) :
    Keeps jumpAfterFlds [.tm, .sv, .rf] s (((t.decideStep d .jump).set1 F.dJumpStepped).inc F.servoStepcnt) := by
  have hstep : Keeps jumpAfterFlds [.tm, .sv, .rf] s (t.decideStep d .jump) :=
    h.upd rfl rfl (fun q hq => by cases q <;> first | rfl | exact absurd hq (by decide))
  exact (hstep.set1 (by decide)).inc (by decide)

end

/-- ACC is set, and what comes after leaves it. -/
theorem acceptJump_acc (step : Bool) (s : State) : (acceptJump step s).rd F.dJumpAcc = 1 := by
  have hacc (d : Int) (u : State) : (jumpReeval d (if step then
      (((u.set1 F.dJumpAcc).decideStep d .jump).set1 F.dJumpStepped).inc F.servoStepcnt
      else startSlew d true (u.set1 F.dJumpAcc))).rd F.dJumpAcc = 1 := by
    have hk : Keeps jumpAfterFlds [.tm, .sv, .rf] (u.set1 F.dJumpAcc) (if step then
        (((u.set1 F.dJumpAcc).decideStep d .jump).set1 F.dJumpStepped).inc F.servoStepcnt
        else startSlew d true (u.set1 F.dJumpAcc)) := by
      cases step
      · exact (Keeps.refl _ _ _).startSlew d true
      · exact (Keeps.refl _ _ _).jumpStep d
    exact ((hk.jumpReeval d).regs _ (by decide)).trans (State.rd_set1 _ rfl)
  exact hacc _ _

theorem cmdAcceptJump_applies (step : Bool) {s : State} (ht : takesCommand s) (hm : jumpMode s = true)
    (hp : s.is F.dJumpPend = true ∨ confirmedNow s = true) : ∃ u t, Begun 0x32 (b2n step) s u ∧
      exec (.cmdAcceptJump (if step then 1 else 0)) s = .next t ∧ t = (acceptJump step u).cmdEnd 0x32 0 ∧ t.rd F.dJumpAcc = 1 := by
  have hpre : (s.is F.dJumpPend || confirmedNow s) = true := by simpa using hp
  have harg : (if step then 1 else 0 : BitVec 4).toNat = b2n step := by cases step <;> rfl
  obtain ⟨u, hu, hrun⟩ := exec_begins (c := .cmdAcceptJump (if step then 1 else 0)) ht rfl harg
    (by cases step <;> simp [cmdOf, cmdErr, hm, hpre])
  have hstep : ((if step then 1 else 0 : BitVec 4) == 1) = step := by cases step <;> rfl
  rw [hstep] at hrun
  exact ⟨u, _, hu, hrun, rfl, ((Keeps.cmdEndOnly 0x32 0 _).regs _ (by decide)).trans (acceptJump_acc step u)⟩

end Sys2Proof.Machine
end

section
/-! The wipe of a tenant: what it clears, and what it leaves on its way. -/
namespace Sys2Proof.Machine

/-! ## What the steps of a wipe spare -/

/-- From `s` to `t` no field changes but in the window spaces `sps`, and the command that runs, the ownership and the fault records
stay. -/
structure Spares (sps : List Nat) (s t : State) : Prop where
  rd : ∀ f : Fld, f.key / 2 ^ 31 ∉ sps → t.rd f = s.rd f
  cmd : t.bus.cmd = s.bus.cmd
  own : t.tn.own = s.tn.own
  flt : t.flt = s.flt

namespace Spares
variable {sps : List Nat} {s t u : State}

theorem refl (sps : List Nat) (s : State) : Spares sps s s := ⟨fun _ _ => rfl, rfl, rfl, rfl⟩

theorem trans (h : Spares sps s t) (k : Spares sps t u) : Spares sps s u :=
  ⟨fun f hf => (k.rd f hf).trans (h.rd f hf), k.cmd.trans h.cmd, k.own.trans h.own, k.flt.trans h.flt⟩

theorem mono {sps' : List Nat} (h : Spares sps s t) (hs : ∀ n ∈ sps, n ∈ sps') : Spares sps' s t :=
  ⟨fun f hf => h.rd f (fun hm => hf (hs _ hm)), h.cmd, h.own, h.flt⟩

theorem wr (h : Spares sps s t) {f : Fld} (v : Nat) (hf : f.key / 2 ^ 31 ∈ sps) : Spares sps s (t.wr f v) :=
  ⟨fun g hg => (t.rd_wr_ne v (fun e => hg (e ▸ hf))).trans (h.rd g hg), h.cmd, h.own, h.flt⟩

/-- A change of other parts of the state. -/
theorem upd (h : Spares sps s t) (hr : u.regs = t.regs) (hb : u.bus.cmd = t.bus.cmd) (ho : u.tn.own = t.tn.own) (hf : u.flt = t.flt) :
    Spares sps s u :=
  ⟨fun f hs => (State.rd_of_regs hr f).trans (h.rd f hs), hb.trans h.cmd, ho.trans h.own, hf.trans h.flt⟩

theorem forN {f : Nat → State → State} (n : Nat) (h : Spares sps s t) (hf : ∀ i u, i < n → Spares sps u (f i u)) :
    Spares sps s (forN n f t) := by
  induction n with
  | zero => exact h
  | succ n ih =>
    rw [forN_succ]
    exact (ih (fun i u hi => hf i u (Nat.lt_succ_of_lt hi))).trans (hf n _ (Nat.lt_succ_self n))

theorem rstAll (l : List Fld) (h : Spares sps s t) (hl : ∀ f ∈ l, f.key / 2 ^ 31 ∈ sps) :
    Spares sps s (l.foldl (fun s f => s.rstFld f) t) := by
  induction l generalizing t with
  | nil => exact h
  | cons f l ih => exact ih (h.wr _ (hl f List.mem_cons_self)) (fun g hg => hl g (List.mem_cons_of_mem _ hg))

theorem of_keeps {l : List Fld} {p : List Part} (h : Keeps l p s t) (hl : ∀ f ∈ l, f.key / 2 ^ 31 ∈ sps) (h1 : Part.bus ∉ p)
    (h2 : Part.tn ∉ p) (h3 : Part.flt ∉ p) : Spares sps s t := by
  have hb : t.bus = s.bus := h.part .bus h1
  have ht : t.tn = s.tn := h.part .tn h2
  exact ⟨fun f hf => h.regs f (fun g hg e => hf (e ▸ hl g hg)), by rw [hb], by rw [ht], h.part .flt h3⟩

end Spares

/-! ## A resource stopped (R330, R343) -/

theorem SMap.get?_filter_of_kept {α : Type} (m : SMap α) {q : Nat × α → Bool} {j : Nat} (hq : ∀ v, q (j, v) = true) :
    SMap.get? (m.filter q) j = m.get? j := by
  induction m with
  | nil => rfl
  | cons p m ih =>
    obtain ⟨k, v⟩ := p
    by_cases hk : k = j
    · subst hk
      simp [hq, SMap.get?]
    · cases hkeep : q (k, v) <;> simp [hkeep, SMap.get?, hk, ih]

/-- Words reset in one space. -/
theorem Spares.wordsReset {sps : List Nat} {s t : State} (h : Spares sps s t) {sp : Nat} (lo hi : Nat) (keep : Nat → Bool)
    (hsp : sp ∈ sps) : Spares sps s (wordsReset sp lo hi keep t) := by
  refine ⟨fun f hf => ?_, h.cmd, h.own, h.flt⟩
  have hne : f.key / 128 / 16777216 ≠ sp := by
    rintro rfl
    exact hf (by rwa [Nat.div_div_eq_div_mul] at hsp)
  have hget : SMap.get? (Machine.wordsReset sp lo hi keep t).regs f.key = t.regs.get? f.key :=
    SMap.get?_filter_of_kept _ (fun v => by simp [hne])
  rw [← h.rd f hf, State.rd, State.rd, SMap.getD, SMap.getD, hget]

section
variable {sps : List Nat} {s t : State} (h : Spares sps s t)
include h

theorem Spares.pipStop (n : Nat) (h4 : 4 ∈ sps) : Spares sps s (pipStop n t) := by
  have hpulse : Spares sps s (pulseOut n t) := by
    unfold pulseOut
    split
    · split
      · exact h.upd rfl rfl rfl rfl
      · exact h
    · exact h
  have hprev (x : TimeSt) : Spares sps s { pulseOut n t with tm := x } := hpulse.upd rfl rfl rfl rfl
  exact ((hprev _).wordsReset (0x100 + 16 * n) (0x110 + 16 * n) (fun _ => false) h4).upd rfl rfl rfl rfl

theorem Spares.chanStop (k c : Nat) (h8 : 8 ∈ sps) : Spares sps s (chanStop k c t) := by
  unfold Machine.chanStop
  dsimp only
  split
  · exact h.wordsReset _ _ _ h8
  · exact (h.wordsReset (0x100 + 16 * c) (0x110 + 16 * c) (fun _ => false) h8).upd rfl rfl rfl rfl

theorem Spares.ckStop {n : Nat} (hn : n < 8) (h3 : 3 ∈ sps) : Spares sps s (ckStop n t) := by
  have hsp {f : Fld} (hf : f.key / 2 ^ 31 = 3) : f.key / 2 ^ 31 ∈ sps := hf ▸ h3
  have hsquelch : Spares sps s (chanSquelch n t) :=
    ((h.wr 0 (hsp (f := F.synRunning n) (by simp only [Fld.key, F.synRunning]; omega))).wr 0
      (hsp (f := F.synHeld n) (by simp only [Fld.key, F.synHeld]; omega))).upd rfl rfl rfl rfl
  have hdisable : Spares sps s (chanDisable n t) :=
    ((hsquelch.wr 0 (hsp (f := F.synCken n) (by simp only [Fld.key, F.synCken]; omega))).wr 0
      (hsp (f := F.synLocked n) (by simp only [Fld.key, F.synLocked]; omega))).upd rfl rfl rfl rfl
  have hplan {u : State} (p : Plan) (hu : Spares sps s u) : Spares sps s (putPlan n p u) :=
    (((((hu.wr _ (hsp (f := F.synSrc n) (by simp only [Fld.key, F.synSrc]; omega))).wr _
      (hsp (f := F.synInt n) (by simp only [Fld.key, F.synInt]; omega))).wr _
      (hsp (f := F.synNum n) (by simp only [Fld.key, F.synNum]; omega))).wr _
      (hsp (f := F.synDen n) (by simp only [Fld.key, F.synDen]; omega))).wr _
      (hsp (f := F.synOdiv n) (by simp only [Fld.key, F.synOdiv]; omega))).wr _
      (hsp (f := F.synFact n) (by simp only [Fld.key, F.synFact]; omega))
  exact hplan _ (hdisable.wordsReset _ _ _ h3)

/-- A resource of any kind: it stands in TIME, BRAMBLE or SYNTH. -/
theorem Spares.resStop (k : Nat) {kind i : Nat} (hk : kind < 5) (hi : i < resCount kind) (h3 : 3 ∈ sps) (h4 : 4 ∈ sps) (h8 : 8 ∈ sps) :
    Spares sps s (resStop k kind i t) := by
  match kind, hk, hi with
  | 0, _, _ => exact h.pipStop i h4
  | 1, _, _ => exact (h.wordsReset (0x400 + 16 * i) (0x410 + 16 * i) (fun _ => false) h4).upd rfl rfl rfl rfl
  | 2, _, _ => exact h.chanStop k i h8
  | 3, _, _ => exact (h.wordsReset (0x600 + i) (0x601 + i) (fun _ => false) h4).upd rfl rfl rfl rfl
  | 4, _, hi => exact h.ckStop hi h3

end

/-! ## The DIRTY marks (R331) -/

theorem resDirty_space (kind : Nat) {k : Nat} (hk : k < 4) : (resDirty kind k).key / 2 ^ 31 = 9 := by
  unfold resDirty
  split <;> simp only [Fld.key, F.tenDpip, F.tenDcap, F.tenDchan, F.tenDtio, F.tenDck] <;> omega

/-- The resources of one kind that a wipe stops. -/
theorem wipeKind_stops (k : Nat) {kind : Nat} (hkind : kind < 5) (s : State) :
    ∃ u, Spares [3, 4, 8] s u ∧ wipeKind k kind s = u.clr (resDirty kind k) := by
  refine ⟨_, (Spares.refl [3, 4, 8] s).forN (resCount kind) (fun i u hi => ?_), rfl⟩
  split
  · exact (Spares.refl _ u).resStop (k + 1) hkind hi (by decide) (by decide) (by decide)
  · exact Spares.refl _ u

theorem wipeKind_dirty (k kind : Nat) (s : State) : (wipeKind k kind s).rd (resDirty kind k) = 0 := State.rd_clr _ _

/-- A DIRTY word that is clear stays so. -/
theorem wipeKind_clean {k kind : Nat} (hk : k < 4) (hkind : kind < 5) {j : Nat} {s : State} (h : s.rd (resDirty j k) = 0) :
    (wipeKind k kind s).rd (resDirty j k) = 0 := by
  obtain ⟨u, hu, heq⟩ := wipeKind_stops k hkind s
  rw [heq, State.clr]
  by_cases hkey : (resDirty kind k).key = (resDirty j k).key
  · rw [State.rd_wr_key _ _ hkey, Nat.zero_mod]
  · rw [State.rd_wr_ne _ _ hkey, hu.rd _ (by rw [resDirty_space j hk]; decide), h]

theorem wipeKinds_dirty {k n : Nat} (hk : k < 4) (hn : n ≤ 5) (s : State) {j : Nat} (hj : j < n) :
    (forN n (wipeKind k) s).rd (resDirty j k) = 0 := by
  induction n with
  | zero => exact absurd hj (Nat.not_lt_zero j)
  | succ n ih =>
    rw [forN_succ]
    obtain hlt | rfl := Nat.lt_succ_iff_lt_or_eq.1 hj
    · exact wipeKind_clean hk hn (ih (Nat.le_of_succ_le hn) hlt)
    · exact wipeKind_dirty k j _

theorem Spares.wipeKinds {k : Nat} (hk : k < 4) (s : State) : Spares [3, 4, 8, 9] s (Machine.forN 5 (wipeKind k) s) := by
  refine (Spares.refl _ s).forN 5 (fun kind u hkind => ?_)
  obtain ⟨v, hv, heq⟩ := wipeKind_stops k hkind u
  rw [heq]
  exact (hv.mono (by simp)).wr 0 (by rw [resDirty_space kind hk]; decide)

/-! ## Owners, the partition and the link -/

theorem Spares.ownerSweepAll (s : State) : Spares [8] s (ownerSweepAll s) := by
  refine (Spares.refl _ s).forN 32 (fun c u hc => ?_)
  have hpen : (F.bramPen c).key / 2 ^ 31 = 8 := by simp only [Fld.key, F.bramPen]; omega
  have hcen : (F.bramCen c).key / 2 ^ 31 = 8 := by simp only [Fld.key, F.bramCen]; omega
  exact ((Spares.refl _ u).wr _ (by rw [hpen]; decide)).wr _ (by rw [hcen]; decide)

theorem Spares.wipeLink {k : Nat} (hk : k < 4) (s : State) : Spares [17] s (wipeLink k s) := by
  unfold Machine.wipeLink
  refine Spares.rstAll _ ((Spares.refl _ s).upd rfl rfl rfl rfl) ?_
  simp only [List.forall_mem_cons, List.mem_singleton, forall_eq, Fld.key, F.tvFramecnt, F.tvAbortcnt, F.tvCrccnt, F.tvRsplost, F.tvSlicedef,
    F.tvHeld, F.tvPipen, F.tvPipfired]
  exact ⟨by omega, by omega, by omega, by omega, by omega, by omega, by omega, by omega⟩

theorem Spares.orchardZero {sps : List Nat} {s t : State} (h : Spares sps s t) (k off : Nat) : Spares sps s (orchardZero k off t) :=
  h.upd rfl rfl rfl rfl

theorem wipeLink_cleared (k : Nat) (s : State) : (wipeLink k s).link k = {} ∧ (wipeLink k s).fifo (k + 1) = [] :=
  ⟨SMap.getD_set_same s.tn.links k _ _, SMap.getD_set_same s.br.fifos (k + 1) _ _⟩

/-! ## The wipe (R333) -/

/-- A commit of TN(k+1) in progress is sealed before the tenant's wipe (R363). -/
def wipeSealed (k : Nat) (s : State) : State :=
  match s.st.commits.get? (k + 1) with | some c => commitSeal (k + 1) c s | none => s

/-- What a wipe clears of the unit itself: the resources, the owners' enables, the Orchard partition and the link. -/
def wipeCleared (k : Nat) (s : State) : State :=
  wipeLink k (orchardZero k 0 (ownerSweepAll (forN 5 (wipeKind k) (wipeSealed k s))))

/-- The record of a wipe that has begun: two stores are to be made, or Stone is out of service. -/
def wipeBegun (k : Nat) (s : State) : State :=
  { s with tn.pressDirty := setBit s.tn.pressDirty k false, tn.wipe := some ⟨k, if s.stoneIsol then 0 else 2, s.stoneIsol⟩ }

theorem wipeBegun_link (k j : Nat) (s : State) : (wipeBegun k s).link j = s.link j := rfl

/-- Stone's part of a wipe that has begun, where Stone is in service: the tenant's sectors and blocks zeroed and two stores asked. -/
def wipeStone (k : Nat) (s : State) : State :=
  if s.stoneIsol then s
  else storeAsk .wipe (storeAsk .wipe (engineWrite (.zero (wipeBlocks s k)) (sectsZero (k + 1) 0 s)))

/-- The start of a wipe, cut where Stone's part begins. -/
theorem wipeStart_eq (k : Nat) (s : State) : wipeStart k s = wipeStone k (wipeBegun k (wipeCleared k s)) := by
  have hcut (v : State) : wipeStone k (wipeBegun k v) =
      (let s2 : State := { v with tn.pressDirty := setBit v.tn.pressDirty k false }
       if s2.stoneIsol then { s2 with tn.wipe := some ⟨k, 0, true⟩ }
       else storeAsk .wipe (storeAsk .wipe (engineWrite (.zero (wipeBlocks s2 k))
        (sectsZero (k + 1) 0 { s2 with tn.wipe := some ⟨k, 2, false⟩ })))) := by
    have hiso : (wipeBegun k v).stoneIsol = v.stoneIsol := rfl
    have hiso' : State.stoneIsol { v with tn.pressDirty := setBit v.tn.pressDirty k false } = v.stoneIsol := rfl
    rw [wipeStone, hiso]
    dsimp only
    rw [hiso', wipeBegun]
    cases v.stoneIsol <;> rfl
  cases hc : s.st.commits.get? (k + 1) <;>
  · simp only [wipeStart, wipeCleared, wipeSealed, hc]
    generalize wipeLink k _ = v
    exact (hcut v).symm

theorem Keeps.wipeSealed (k : Nat) (s : State) : Keeps [F.stoHolddef] [.st] s (wipeSealed k s) := by
  unfold Machine.wipeSealed
  split
  · exact ((Keeps.refl _ _ s).stOnly _ (by decide)).engineWrite _ (by decide) (by simp)
  · exact Keeps.refl _ _ s

/-- Stone's part of a wipe changes Stone and Press alone. -/
theorem Keeps.wipeStone (k : Nat) (s : State) : Keeps [F.stoHolddef] [.st, .pr] s (wipeStone k s) := by
  unfold Machine.wipeStone
  split
  · exact Keeps.refl _ _ s
  · have hsects : Keeps [F.stoHolddef] [.st, .pr] s (sectsZero (k + 1) 0 s) := 
      (Keeps.refl _ _ s).upd rfl rfl (fun q hq => by cases q <;> first | rfl | exact absurd hq (by decide))
    exact ((hsects.engineWrite _ (by decide) (by simp)).storeAsk _ (by decide)).storeAsk _ (by decide)

theorem wipeCleared_spares {k : Nat} (hk : k < 4) (s : State) : Spares [3, 4, 8, 9, 10, 17] s (wipeCleared k s) := by
  have hsealed : Spares [3, 4, 8, 9, 10, 17] s (wipeSealed k s) :=
    Spares.of_keeps (Keeps.wipeSealed k s) (by decide) (by decide) (by decide) (by decide)
  have hswept := (hsealed.trans ((Spares.wipeKinds hk _).mono (by simp))).trans ((Spares.ownerSweepAll _).mono (by simp))
  exact (hswept.orchardZero k 0).trans ((Spares.wipeLink hk _).mono (by simp))

theorem wipeCleared_dirty {k kind : Nat} (hk : k < 4) (hkind : kind < 5) (s : State) :
    (wipeCleared k s).rd (resDirty kind k) = 0 := by
  have hafter : Spares [8, 17] (forN 5 (wipeKind k) (wipeSealed k s)) (wipeCleared k s) :=
    (((Spares.ownerSweepAll _).orchardZero k 0).mono (by simp)).trans ((Spares.wipeLink hk _).mono (by simp))
  rw [hafter.rd _ (by rw [resDirty_space kind hk]; decide)]
  exact wipeKinds_dirty hk (Nat.le_refl 5) _ hkind

theorem wipeCleared_link (k : Nat) (s : State) : (wipeCleared k s).link k = {} ∧ (wipeCleared k s).fifo (k + 1) = [] :=
  wipeLink_cleared k _

/-- What Stone's part of a wipe that begins leaves as it was, and the record of the wipe. -/
theorem wipeStone_begun (k : Nat) (s : State) : (wipeStone k (wipeBegun k s)).bus = s.bus ∧ (wipeStone k (wipeBegun k s)).br = s.br ∧
    (wipeStone k (wipeBegun k s)).tn = (wipeBegun k s).tn ∧
    ∀ f : Fld, f.key / 2 ^ 31 ≠ 10 → (wipeStone k (wipeBegun k s)).rd f = s.rd f := by
  have hkeep := Keeps.wipeStone k (wipeBegun k s)
  refine ⟨hkeep.part .bus (by decide), hkeep.part .br (by decide), hkeep.part .tn (by decide), fun f hf => hkeep.regs f ?_⟩
  rintro g hg he
  obtain rfl := List.mem_singleton.1 hg
  exact hf (he ▸ by decide)

/-- What a wipe of TN(k+1) leaves at its start. -/
theorem wipeStart_effect {k : Nat} (hk : k < 4) (s : State) :
    (wipeStart k s).bus.cmd = s.bus.cmd ∧ (wipeStart k s).rd F.dStatState = s.rd F.dStatState ∧ (wipeStart k s).tn.own = s.tn.own ∧
      (∀ kind, kind < 5 → (wipeStart k s).rd (resDirty kind k) = 0) ∧ (wipeStart k s).link k = {} ∧
      (wipeStart k s).fifo (k + 1) = [] ∧ (wipeStart k s).tn.wipe = some ⟨k, if s.stoneIsol then 0 else 2, s.stoneIsol⟩ := by
  rw [wipeStart_eq]
  obtain ⟨hbus, hbr, htn, hrd⟩ := wipeStone_begun k (wipeCleared k s)
  obtain ⟨hlink, hfifo⟩ := wipeCleared_link k s
  have hsp := wipeCleared_spares hk s
  have hiso : (wipeCleared k s).stoneIsol = s.stoneIsol := by
    simp only [State.stoneIsol, State.anyIsolated, State.frec, hsp.flt]
  refine ⟨by rw [hbus, hsp.cmd], ?_, by rw [htn, wipeBegun, hsp.own], fun kind hkind => ?_, ?_, ?_, by rw [htn, wipeBegun, hiso]⟩
  · rw [hrd _ (by decide), hsp.rd _ (by decide)]
  · rw [hrd _ (by rw [resDirty_space kind hk]; decide), wipeCleared_dirty hk hkind]
  · rw [State.link, htn, ← State.link, wipeBegun_link, hlink]
  · rw [State.fifo, hbr, ← State.fifo, hfifo]

theorem wipeOperand (k : Fin 4) : (BitVec.ofNat 4 (k + 1)).toNat = k + 1 := by decide +revert

theorem cmdWipeTenant_starts (k : Fin 4) {s : State} (ht : takesCommand s) (hm : s.mode.operating = true) :
    ∃ t, exec (.cmdWipeTenant (BitVec.ofNat 4 (k + 1))) s = .next t ∧ t.bus.cmd = some ⟨0x50, k + 1, true⟩ ∧ t.rd F.dStatState = 1 ∧
      t.tn.own = s.tn.own ∧ (∀ kind, kind < 5 → t.rd (resDirty kind k) = 0) ∧ t.link k = {} ∧ t.fifo (k + 1) = [] ∧
      t.tn.wipe = some ⟨k, if s.stoneIsol then 0 else 2, s.stoneIsol⟩ := by
  have harg := wipeOperand k
  have hok : 1 ≤ (BitVec.ofNat 4 (k + 1)).toNat ∧ (BitVec.ofNat 4 (k + 1)).toNat ≤ 4 := by rw [harg]; omega
  obtain ⟨u, hu, hrun⟩ := exec_begins (c := .cmdWipeTenant (BitVec.ofNat 4 (k + 1))) ht rfl harg
    (by simp only [cmdOf, cmdErr, hm, hok, and_self, decide_true]; rfl)
  rw [harg, Nat.add_sub_cancel] at hrun
  obtain ⟨hcmd, hstate, hown, hdirty, hlink, hfifo, hwipe⟩ := wipeStart_effect k.isLt u
  have htn : u.tn = s.tn := hu.shown.part .tn (by decide)
  exact ⟨_, hrun, hcmd.trans hu.cmd, hstate.trans hu.stateShown, by rw [hown, htn], hdirty, hlink, hfifo,
    by rw [hwipe, hu.shown.stoneIsol]⟩

end Sys2Proof.Machine
end

section
/-! The end of a tenant's wipe, and the system commands together. -/
namespace Sys2Proof.Machine

/-! ## WIPE_DONE (R333) -/

/-- The end of a wipe but for its command's: the wipe is no more, the blocks lose their DIRTY marks, and the link's frames meanwhile
count as ABORT. -/
def wipeReleased (w : Wipe) (s : State) : State :=
  let l := s.link w.k
  (({ s with
      tn.wipe := none
      st.dirty := if w.failed then s.st.dirty else s.st.dirty.filter (fun p => p.2 != w.k + 1) } : State).incBy
    (F.tvAbortcnt w.k) l.wiped).setLink w.k
    { l with wiped := 0, frame := false, sticky := if l.wiped = 0 then l.sticky else setBit l.sticky 4 true }

theorem wipeEnd_eq (w : Wipe) (s : State) : wipeEnd w s = (wipeReleased w s).cmdEnd 0x50 (if w.failed then 5 else 0) := rfl

theorem tvAbortcnt_space {k : Nat} (hk : k < 4) : (F.tvAbortcnt k).key / 2 ^ 31 = 17 := by
  simp only [Fld.key, F.tvAbortcnt]
  omega

theorem wipeReleased_count (w : Wipe) (s : State) :
    (wipeReleased w s).rd (F.tvAbortcnt w.k) = min (s.rd (F.tvAbortcnt w.k) + (s.link w.k).wiped) 65535 := by
  have hrd : (wipeReleased w s).rd (F.tvAbortcnt w.k) = satUns 16 (s.rd (F.tvAbortcnt w.k) + (s.link w.k).wiped) % 2 ^ 16 :=
    State.rd_wr_same _ _ _
  rw [hrd, satUns]
  omega

theorem Keeps.wipeReleased (w : Wipe) (s : State) : Keeps [F.tvAbortcnt w.k] [.st, .tn] s (wipeReleased w s) :=
  ⟨rfl, fun f hf => s.rd_wr_ne _ (hf _ List.mem_cons_self), fun q hq => by cases q <;> first | rfl | exact absurd (by decide) hq⟩

/-- A wipe that has failed leaves the DIRTY marks of the blocks, and Stone with them. -/
theorem Keeps.wipeReleasedFailed {w : Wipe} (hw : w.failed = true) (s : State) :
    Keeps [F.tvAbortcnt w.k] [.tn] s (Machine.wipeReleased w s) := by
  have hkeep := Keeps.wipeReleased w s
  have hst : (Machine.wipeReleased w s).st = s.st := by simp [Machine.wipeReleased, hw, State.setLink, State.incBy, State.wr]
  refine ⟨hkeep.queue, hkeep.regs, fun q hq => ?_⟩
  by_cases hs : q = .st
  · subst hs
    exact hst
  · exact hkeep.part q (by simpa [hs] using hq)

theorem wipeReleased_dirty {w : Wipe} (hw : w.failed = false) (s : State) : ∀ p ∈ (wipeReleased w s).st.dirty, p.2 ≠ w.k + 1 := by
  have hdirty : (wipeReleased w s).st.dirty = s.st.dirty.filter (fun p => p.2 != w.k + 1) := by
    simp [wipeReleased, hw, State.setLink, State.incBy, State.wr]
  intro p hp
  rw [hdirty, List.mem_filter] at hp
  simpa using hp.2

section
variable {k : Fin 4} {w : Wipe} {a : Nat} {s : State} (hp : s.powered = true) (hw : s.tn.wipe = some w) (hk : w.k = k)
include hp hw hk

theorem wipeDone_ends (hend : w.failed = true ∨ w.stores = 0) : exec (.wipeDone k) s =
    .next ((wipeReleased w s).cmdEnd 0x50 (if w.failed then 5 else 0)) := by
  have hguard : (s.powered && w.k == k && (w.failed || w.stores == 0)) = true := by
    simpa [hp, hk] using hend
  have hdone : exec (.wipeDone k) s = execWipeDone k s := rfl
  rw [hdone, execWipeDone, hw, ← wipeEnd_eq]
  exact when_true hguard

variable (hc : s.bus.cmd = some ⟨0x50, a, true⟩)
include hc

theorem wipeDone_done (hf : w.failed = false) (hs : w.stores = 0) : ∃ t, exec (.wipeDone k) s = .next t ∧ t.tn.wipe = none ∧
    t.bus.cmd = none ∧ t.rd F.dStatState = 2 ∧ t.rd F.dStatErr = 0 ∧ (∀ p ∈ t.st.dirty, p.2 ≠ k + 1) ∧
    t.rd (F.tvAbortcnt k) = min (s.rd (F.tvAbortcnt k) + (s.link k).wiped) 65535 ∧
    Keeps [F.dCmdDone, F.tvAbortcnt k, F.dStatCode, F.dStatState, F.dStatErr] [.bus, .st, .tn] s t := by
  have hrun := wipeDone_ends hp hw hk (.inr hs)
  have hend := Keeps.cmdEndOnly 0x50 0 (wipeReleased w s)
  have hspace : ∀ g ∈ [F.dCmdDone, F.dStatState, F.dStatErr], g.key / 2 ^ 31 ≠ 17 := by decide
  obtain ⟨hcmd, -, hstate, herr, -⟩ := cmdEnd_ends (t := wipeReleased w s) hc (by decide : (0 : Nat) < 8)
  have hst : ((wipeReleased w s).cmdEnd 0x50 0).st = (wipeReleased w s).st := hend.part .st (by decide)
  have htn : ((wipeReleased w s).cmdEnd 0x50 0).tn = (wipeReleased w s).tn := hend.part .tn (by decide)
  rw [if_neg (by simp [hf])] at hrun
  refine ⟨_, hrun, by rw [htn]; rfl, hcmd, hstate, herr, ?_, ?_, ?_⟩
  · rw [hst, ← hk]
    exact wipeReleased_dirty hf s
  · rw [← hk, ← wipeReleased_count]
    exact hend.regs _ (fun g hg he => hspace g hg (by rw [he, tvAbortcnt_space (hk ▸ k.isLt)]))
  · rw [← hk]
    exact ((Keeps.wipeReleased w s).mono (by simp) (by simp)).trans (hend.mono (by simp) (by simp))

theorem wipeDone_failed (hf : w.failed = true) : ∃ t, exec (.wipeDone k) s = .next t ∧ t.tn.wipe = none ∧
    t.bus.cmd = none ∧ t.rd F.dStatState = 3 ∧ t.rd F.dStatErr = 5 ∧ t.st = s.st ∧
    Keeps [F.dCmdDone, F.tvAbortcnt k, F.dStatCode, F.dStatState, F.dStatErr] [.bus, .tn] s t := by
  have hrun := wipeDone_ends hp hw hk (.inl hf)
  have hend := Keeps.cmdEndOnly 0x50 5 (wipeReleased w s)
  obtain ⟨hcmd, -, hstate, herr, -⟩ := cmdEnd_ends (t := wipeReleased w s) hc (by decide : (5 : Nat) < 8)
  have htn : ((wipeReleased w s).cmdEnd 0x50 5).tn = (wipeReleased w s).tn := hend.part .tn (by decide)
  rw [if_pos hf] at hrun
  have hframe : Keeps [F.dCmdDone, F.tvAbortcnt k, F.dStatCode, F.dStatState, F.dStatErr] [.bus, .tn] s
      ((wipeReleased w s).cmdEnd 0x50 5) := by
    rw [← hk]
    exact ((Keeps.wipeReleasedFailed hf s).mono (by simp) (by simp)).trans (hend.mono (by simp) (by simp))
  exact ⟨_, hrun, by rw [htn]; rfl, hcmd, hstate, herr, hframe.part .st (by decide), hframe⟩

end

/-! ## The obligation -/

/-- Settles O60: each command, once begun, has the effect that its own lemma gives. -/
theorem systemCommandsTakeEffect : Obligations.SystemCommandsTakeEffect := by
  unfold Obligations.SystemCommandsTakeEffect
  refine ⟨fun n s ht hm hp hn => ?_, fun n s ht hm => ⟨?_, ?_⟩, fun s ht hm => cmdRequalify_all ht hm, fun step s ht hm hp => ?_,
    fun s ht hm => ?_, fun s ht hm hp => cmdLockService_locks ht hm hp, fun k s ht hm => cmdWipeTenant_starts k ht hm,
    fun k w a s hp hw hk hc => ⟨?_, ?_⟩⟩
  · obtain ⟨u, hu, hdropped, hrun⟩ := cmdGraftNow_begins ht hm hp hn
    exact ⟨u, _, hu.started, rfl, hdropped, hrun⟩
  · exact cmdRequalify_enabled ht hm
  · exact cmdRequalify_disabled ht hm
  · obtain ⟨u, t, hu, hrun⟩ := cmdAcceptJump_applies step ht hm hp
    exact ⟨u, t, hu.started, hrun⟩
  · obtain ⟨u, t, hu, hrun⟩ := cmdLearnReset_resets ht hm
    exact ⟨u, t, hu.started, hrun⟩
  · exact wipeDone_done hp hw hk hc
  · exact wipeDone_failed hp hw hk hc

end Sys2Proof.Machine
end

section
/-! The references' moves (R155): each entry of the state machine, selection after it, and the fault record of a reference that fails. -/
namespace Sys2Proof.Machine

/-! ## Records of a fault carried on -/

/-- What follows an occurrence and touches neither the class's counter nor the parts it wrote leaves it recorded. -/
theorem Recorded.keeps {l : List Fld} {p : List Part} {s u t : State} {c : FC} {inst info master : Nat}
    (h : Recorded c inst info s u master) (k : Keeps l p u t) (hc : ∀ g ∈ l, g.key ≠ c.cnt.key)
    (hf : Part.flt ∉ p) (hb : Part.br ∉ p) (hp : Part.pr ∉ p) : Recorded c inst info s t master := by
  have eflt : t.flt = u.flt := k.part .flt hf
  have ebr : t.br = u.br := k.part .br hb
  have epr : t.pr = u.pr := k.part .pr hp
  have ecnt : t.rd c.cnt = u.rd c.cnt := k.regs _ hc
  have erec : ∀ d, t.frec d = u.frec d := fun d => by rw [State.frec, State.frec, eflt]
  obtain ⟨h1, h2, h3, h4, h5, h6, h7⟩ := h
  refine ⟨ecnt.trans h1, ?_, ?_, ?_, fun d hd => (erec d).trans (h5 d hd), ebr.trans h6, ?_⟩
  · rw [erec]; exact h2
  · rw [erec]; exact h3
  · unfold Captured at h4 ⊢
    rwa [eflt]
  · rw [epr]; exact h7

theorem State.frec_of_flt {s t : State} (h : t.flt = s.flt) (c : FC) : t.frec c = s.frec c := by rw [State.frec, State.frec, h]

/-! ## Selection after a move -/

/-- The fields in which selection shows what it prefers (R166). -/
def selectFlds : List Fld := [F.refCandref, F.refWtrleft, F.dManbad]

theorem refSelection_keeps (s : State) : Keeps selectFlds [.rf] s (refSelection s) :=
  (Keeps.refl _ _ s).refSelection (by decide) (by simp [selectFlds])

@[simp] theorem refSelection_ref (s : State) (n : Nat) : (refSelection s).ref n = s.ref n := by
  unfold refSelection
  split
  · dsimp only
    split <;> rfl
  · rfl

theorem selectFlds_key_ne : ∀ n < 10, ∀ g ∈ selectFlds,
    g.key ≠ (F.refState n).key ∧ g.key ≠ (F.refTimer n).key ∧ g.key ≠ F.dRefChg.key := by decide

/-- Selection leaves an entry as it was. -/
theorem Entered.selected {n st : Nat} {s t : State} (h : Entered n st s t) (hn : n < 10) : Entered n st s (refSelection t) :=
  h.keeps (refSelection_keeps t) (selectFlds_key_ne n hn)

/-- The fields of an entry and of the selection that follows it. -/
def moveFlds (n : Nat) : List Fld := refMoveFlds n ++ selectFlds

section
variable {l : List Fld} {p : List Part} {s t : State}

theorem Keeps.selected (h : Keeps l p s t) (hp : Part.rf ∈ p) (hl : ∀ f ∈ selectFlds, f ∈ l) :
    Keeps l p s (Machine.refSelection t) :=
  h.refSelection hp (fun f hf => hl f (by simpa [selectFlds, or_left_comm, or_comm] using hf))

/-- Whatever touches the time engine alone. -/
theorem Keeps.tmOnly (h : Keeps l p s t) (x : TimeSt) (hp : Part.tm ∈ p) : Keeps l p s { t with tm := x } :=
  h.upd rfl rfl (fun q hq => by cases q <;> first | rfl | exact absurd hp hq)

theorem Keeps.toObserving {n : Nat} (h : Keeps l p s (Machine.refLeaveFailed n t)) (hp : Part.rf ∈ p)
    (hl : ∀ f ∈ refMoveFlds n, f ∈ l) : Keeps l p s (Machine.toObserving n t) :=
  (h.toState n 2 hp hl).setRef n _ hp

theorem Keeps.toIndeterminate {n : Nat} (h : Keeps l p s (Machine.refLeaveFailed n t)) (hp : Part.rf ∈ p)
    (hl : ∀ f ∈ restartFlds n, f ∈ l) : Keeps l p s (Machine.toIndeterminate n t) := by
  have hmoves : ∀ f ∈ refMoveFlds n, f ∈ l := fun f hf =>
    hl f (List.mem_append_right [F.refRisecnt n, F.refFallcnt n, F.refSettled n] hf)
  have hcounts := ((h.toState n 1 hp hmoves).wr 0 (hl (F.refRisecnt n) (by simp [restartFlds]))).wr 0
    (hl (F.refFallcnt n) (by simp [restartFlds]))
  have hsettled (b : Bool) {v : State} (hv : Keeps l p s v) : Keeps l p s (if b then v else v.clr (F.refSettled n)) := by
    cases b
    · exact hv.clr (hl _ (by simp [restartFlds]))
    · exact hv
  exact (hsettled _ hcounts).setRef n _ hp

end

theorem refLeaveFailed_of_ne {n : Nat} {s : State} (h : s.refState n ≠ 5) : refLeaveFailed n s = s := if_neg h

/-- A move with the selection that follows it. -/
theorem toState_selected {n st : Nat} (hn : n < 10) (hst : st < 8) (s : State) :
    Entered n st s (refSelection (s.toState n st)) ∧ Keeps (moveFlds n) [.rf] s (refSelection (s.toState n st)) := by
  have hmoved : Keeps (moveFlds n) [.rf] s (s.toState n st) :=
    (Keeps.refl _ _ s).toState n st List.mem_cons_self (fun _ hf => List.mem_append_left _ hf)
  exact ⟨(toState_entered hst n s).selected hn, hmoved.selected List.mem_cons_self (fun _ hf => List.mem_append_right _ hf)⟩

/-! ## FAILED -/

/-- The fields that a failing reference writes are neither the counter of REF_FAILED nor the mode. -/
theorem failFlds_key_ne : ∀ n < 10, ∀ g ∈ F.refReason n :: F.refFailcnt n :: moveFlds n,
    g.key ≠ FC.refFailed.cnt.key ∧ g.key ≠ F.dMode.key := by decide
theorem failedFlds_key_ne : ∀ n < 10, ∀ g ∈ F.refFailcnt n :: FC.refFailed.cnt :: selectFlds,
    g.key ≠ (F.refState n).key ∧ g.key ≠ (F.refTimer n).key ∧ g.key ≠ F.dRefChg.key := by decide
theorem refFailcnt_key_ne : ∀ n < 10, ∀ g ∈ FC.refFailed.cnt :: moveFlds n, g.key ≠ (F.refFailcnt n).key := by decide
theorem refReason_key_ne : ∀ n < 10, ∀ g ∈ F.refFailcnt n :: FC.refFailed.cnt :: moveFlds n,
    g.key ≠ (F.refReason n).key := by decide

/-- REF_FAILED recorded, and selection after it. -/
theorem failRecorded_effect {n : Nat} (hn : n < 10) {s : State} (hb : bit (s.frec .refFailed).live n = false) :
    Recorded .refFailed n n s (refSelection (s.liveSet .refFailed n n 2 0)) ∧
      Keeps (FC.refFailed.cnt :: selectFlds) [.rf, .flt, .br, .pr] s (refSelection (s.liveSet .refFailed n n 2 0)) := by
  have hlive : Keeps [FC.refFailed.cnt] [.flt, .br, .pr] s (s.liveSet .refFailed n n 2 0) :=
    (Keeps.refl _ _ s).liveSet .refFailed n n 2 0 List.mem_cons_self (by decide) (by decide) (by decide)
  have hrec := (s.liveSet_recorded .refFailed n n 2 0 hb).1.unbound (.inl (by decide))
  have hshown := refSelection_keeps (s.liveSet .refFailed n n 2 0)
  exact ⟨hrec.keeps hshown (fun g hg => (failFlds_key_ne n hn g (by simp [moveFlds, hg])).1) (by decide) (by decide) (by decide),
    (hlive.mono (by simp) (by simp)).trans (hshown.mono (fun _ hf => List.mem_cons_of_mem _ hf) (by simp))⟩

theorem Keeps.toFailed {l : List Fld} {p : List Part} {s t : State} {n : Nat} (h : Keeps l p s t)
    (hl : ∀ f ∈ F.refFailcnt n :: FC.refFailed.cnt :: moveFlds n, f ∈ l) (hp : ∀ q ∈ [Part.rf, .flt, .br, .pr], q ∈ p) :
    Keeps l p s (Machine.toFailed n t) := by
  have hcounted := (h.toState n 5 (hp _ (by simp)) (fun f hf => hl f (by simp [moveFlds, hf]))).inc (hl (F.refFailcnt n) (by simp))
  exact (hcounted.liveSet .refFailed n n 2 0 (hl _ (by simp [FC.cnt])) (hp _ (by simp)) (hp _ (by simp)) (hp _ (by simp))).selected
    (hp _ (by simp)) (fun f hf => hl f (by simp [moveFlds, hf]))

/-- FAILED entered: one count in FAILCNT and one occurrence of REF_FAILED, whose bit has not been live. -/
theorem toFailed_effect {n : Nat} (hn : n < 10) {s : State} (hb : bit (s.frec .refFailed).live n = false) :
    Entered n 5 s (toFailed n s) ∧ (toFailed n s).rd (F.refFailcnt n) = min (s.rd (F.refFailcnt n) + 1) 65535 ∧
      Recorded .refFailed n n s (toFailed n s) ∧
      Keeps (F.refFailcnt n :: FC.refFailed.cnt :: moveFlds n) [.rf, .flt, .br, .pr] s (toFailed n s) := by
  have hall := Keeps.toFailed (Keeps.refl (F.refFailcnt n :: FC.refFailed.cnt :: moveFlds n) [.rf, .flt, .br, .pr] s)
    (fun _ hf => hf) (by decide)
  have hmoved : Keeps (refMoveFlds n) [.rf] s (s.toState n 5) :=
    (Keeps.refl _ _ s).toState n 5 List.mem_cons_self (fun _ hf => hf)
  have hent := toState_entered (st := 5) (by decide) n s
  rw [toFailed] at hall ⊢
  generalize s.toState n 5 = m at hall hmoved hent ⊢
  have hinc := Keeps.incOnly m (F.refFailcnt n)
  have hcount := m.rd_inc (F.refFailcnt n)
  generalize m.inc (F.refFailcnt n) = u at hall hinc hcount ⊢
  have hu : Keeps (F.refFailcnt n :: moveFlds n) [.rf] s u :=
    (hmoved.mono (fun _ hf => by simp [moveFlds, hf]) (fun _ hq => hq)).trans (hinc.mono (by simp) (by simp))
  obtain ⟨hrec, hafter⟩ := failRecorded_effect hn (s := u) (by rwa [State.frec_of_flt (hu.part .flt (by decide))])
  have hne := failFlds_key_ne n hn
  have hcnt := refFailcnt_key_ne n hn
  refine ⟨?_, ?_, ?_, hall⟩
  · exact hent.keeps ((hinc.mono (by simp) (by simp)).trans (hafter.mono (fun _ hf => List.mem_cons_of_mem _ hf) (fun _ hq => hq)))
      (failedFlds_key_ne n hn)
  · rw [hafter.regs _ (fun g hg => hcnt g (List.cons_subset_cons _ (List.subset_append_right _ _) hg)), hcount,
      hmoved.regs _ (fun g hg => hcnt g (by simp [moveFlds, hg]))]
    rfl
  · exact hrec.of_keeps hu (fun g hg => (hne g (List.mem_cons_of_mem _ hg)).1) (fun g hg => (hne g (List.mem_cons_of_mem _ hg)).2)
      (by decide) (by decide) (by decide)

/-! ## INDETERMINATE -/

/-- Selection writes no count, and no SETTLED, of an input. -/
theorem selectFlds_counts_ne : ∀ n < 10, ∀ g ∈ selectFlds,
    g.key ≠ (F.refRisecnt n).key ∧ g.key ≠ (F.refFallcnt n).key ∧ g.key ≠ (F.refSettled n).key := by decide

theorem refSettled_key_ne : ∀ n < 10, ∀ g ∈ refMoveFlds n, g.key ≠ (F.refSettled n).key := by decide
theorem rinCounts_key_ne : ∀ n < 10, (F.refRisecnt n).key ≠ (F.refFallcnt n).key ∧ (F.refRisecnt n).key ≠ (F.refSettled n).key ∧
    (F.refFallcnt n).key ≠ (F.refSettled n).key := by decide

/-- A field that an input shows once it is INDETERMINATE: the counts at 0, and SETTLED cleared unless the threshold is frozen. -/
theorem toIndeterminate_rd (n : Nat) (s : State) (f : Fld) :
    (toIndeterminate n s).rd f = (if s.is (F.refThrfrz n) then
      (((refLeaveFailed n s).toState n 1).wr (F.refRisecnt n) 0).wr (F.refFallcnt n) 0
    else ((((refLeaveFailed n s).toState n 1).wr (F.refRisecnt n) 0).wr (F.refFallcnt n) 0).clr (F.refSettled n)).rd f := rfl

theorem toIndeterminate_counts {n : Nat} (hn : n < 10) (s : State) : (toIndeterminate n s).rd (F.refRisecnt n) = 0 ∧
    (toIndeterminate n s).rd (F.refFallcnt n) = 0 ∧
    (toIndeterminate n s).rd (F.refSettled n) = (if s.is (F.refThrfrz n) then s.rd (F.refSettled n) else 0) ∧
    ((toIndeterminate n s).ref n).ind = false := by
  have hk : Keeps (refMoveFlds n) [.rf, .flt] s ((refLeaveFailed n s).toState n 1) :=
    ((Keeps.refl _ _ s).refLeaveFailed n (by decide)).toState n 1 (by decide) (fun _ hf => hf)
  have hset := hk.regs (F.refSettled n) (refSettled_key_ne n hn)
  obtain ⟨h1, h2, h3⟩ := rinCounts_key_ne n hn
  simp only [toIndeterminate_rd]
  generalize (refLeaveFailed n s).toState n 1 = u at hset
  refine ⟨?_, ?_, ?_, congrArg RefRec.ind (SMap.getD_set_same _ _ _ _)⟩
  · split
    · rw [State.rd_wr_ne _ _ h1.symm, State.rd_wr_same, Nat.zero_mod]
    · rw [State.clr, State.rd_wr_ne _ _ h2.symm, State.rd_wr_ne _ _ h1.symm, State.rd_wr_same, Nat.zero_mod]
  · split
    · rw [State.rd_wr_same, Nat.zero_mod]
    · rw [State.clr, State.rd_wr_ne _ _ h3.symm, State.rd_wr_same, Nat.zero_mod]
  · split
    · rw [State.rd_wr_ne _ _ h3, State.rd_wr_ne _ _ h2, hset]
    · exact State.rd_clr _ _

/-! ## The commands -/

section
variable {n : Fin 10} {s : State}

theorem refEnable_enters (hj : refJudged s n = true) (h0 : s.refState n = 0) : ∃ t, exec (.refEnable n) s = .next t ∧
    Entered n (if n.val < 4 then 1 else 2) s t ∧ Keeps (restartFlds n) [.rf] s t := by
  refine ⟨_, (rfl : _ = execRefEnable n s).trans (when_true (by simp [hj, h0])), ?_⟩
  have hleft := refLeaveFailed_of_ne (n := n) (s := s) (by simp [h0])
  split
  · exact ⟨(toIndeterminate_effect n s).1,
      Keeps.toIndeterminate (hleft.symm ▸ Keeps.refl _ _ s) (by decide) (fun _ hf => hf)⟩
  · exact ⟨(toObserving_effect n s).1,
      Keeps.toObserving (hleft.symm ▸ Keeps.refl _ _ s) (by decide) (by simp [refMoveFlds, restartFlds])⟩

theorem refDisable_enters (hr : refsRun s = true) (h0 : s.refState n ≠ 0) (he : s.is (F.refEnable n) = false) :
    ∃ t, exec (.refDisable n) s = .next t ∧ Entered n 0 s t ∧ Keeps (moveFlds n) [.rf, .flt] s t := by
  obtain ⟨hent, hk⟩ := toState_selected n.isLt (by decide : 0 < 8) (refLeaveFailed n s)
  have hleft : Keeps (moveFlds n) [.rf, .flt] s (refLeaveFailed n s) := (Keeps.refl _ _ s).refLeaveFailed n (by decide)
  exact ⟨_, (rfl : _ = execRefDisable n s).trans (when_true (by simp [hr, h0, he])), hent.from (refLeaveFailed_refState n s),
    hleft.trans (hk.mono (fun _ hf => hf) (by simp))⟩

/-- What the entry into QUALIFIED decides for the time scale: the setting step of one that is untraceable (R86). -/
def settingStep (n : Nat) (s : State) : TimeSt :=
  if s.untraced && timeRef s n && s.tm.pend.isNone then { s.tm with pend := some ⟨refOffset s n, .setting⟩ } else s.tm

theorem refQualify_enters (hj : refJudged s n = true) (h2 : s.refState n = 2) (hc : s.rd (F.refQualtime n) * 1024 ≤ (s.ref n).clean)
    (ha : refAbsent s n = false) (hp : n.val < 4 → paired s n = true → s.is F.dGnsstod = true)
    (ho : s.untraced = true → timeRef s n = true → hasOffset s n = true) :
    ∃ t, exec (.refQualify n) s = .next t ∧ Entered n 3 s t ∧ t.tm = settingStep n s ∧ Keeps (moveFlds n) [.rf, .tm] s t := by
  obtain ⟨hent, hk⟩ := toState_selected n.isLt (by decide : 3 < 8) s
  have hcond : (refJudged s n && s.refState n == 2 && s.rd (F.refQualtime n) * 1024 ≤ (s.ref n).clean && !refAbsent s n &&
      (!(n.val < 4 && paired s n) || s.is F.dGnsstod) && (!s.untraced || !timeRef s n || hasOffset s n)) = true := by
    have hpair : (!(decide (n.val < 4) && paired s n) || s.is F.dGnsstod) = true := by
      simpa [Decidable.imp_iff_not_or, or_assoc] using hp
    have hoff : (!s.untraced || !timeRef s n || hasOffset s n) = true := by
      simpa [Decidable.imp_iff_not_or, or_assoc] using ho
    simp only [hj, h2, decide_eq_true hc, ha, hpair, hoff, beq_self_eq_true, Bool.not_false, Bool.and_true]
  refine ⟨_, (rfl : _ = execRefQualify n s).trans (when_true hcond), ?_⟩
  have htm : (refSelection (s.toState n 3)).tm = s.tm := hk.part .tm (by decide)
  have hk' : Keeps (moveFlds n) [.rf, .tm] s (refSelection (s.toState n 3)) := hk.mono (fun _ hf => hf) (by simp)
  unfold settingStep
  generalize refSelection (s.toState n 3) = t at hent htm hk' ⊢
  dsimp only
  split
  · refine ⟨hent.keeps (l := []) (p := [.tm]) (Keeps.tmOnly (Keeps.refl _ _ t) _ (by decide)) nofun, ?_, hk'.tmOnly _ (by decide)⟩
    rw [← htm]
    rfl
  · exact ⟨hent, htm, hk'⟩

theorem refFail_fails (hj : refJudged s n = true)
    (hv : (s.refState n = 2 ∧ s.rd (F.refSusptime n) ≤ (s.ref n).violRun) ∨
      (s.refState n = 4 ∧ s.rd (F.refSusptime n) ≤ (s.ref n).susp)) : exec (.refFail n) s = .next (toFailed n s) :=
  (rfl : _ = execRefFail n s).trans (when_true (by simp [hj, hv]))

theorem refSourceAbsent_fails (hj : refJudged s n = true) (h0 : s.refState n ≠ 0) (h5 : s.refState n ≠ 5)
    (ha : refAbsent s n = true) (hf : refFrozen s n = false) :
    exec (.refSourceAbsent n) s = .next (toFailed n (s.wr (F.refReason n) 8)) :=
  (rfl : _ = execRefSourceAbsent n s).trans (when_true (by simp [hj, h0, h5, ha, hf]))

/-- A source that is absent leaves reason 8 (R155). -/
theorem refSourceAbsent_enters (hj : refJudged s n = true) (hb : bit (s.frec .refFailed).live n = false) (h0 : s.refState n ≠ 0)
    (h5 : s.refState n ≠ 5) (ha : refAbsent s n = true) (hf : refFrozen s n = false) :
    ∃ t, exec (.refSourceAbsent n) s = .next t ∧ Entered n 5 s t ∧ t.rd (F.refReason n) = 8 ∧
      t.rd (F.refFailcnt n) = min (s.rd (F.refFailcnt n) + 1) 65535 ∧ Recorded .refFailed n n s t ∧
      Keeps (F.refReason n :: F.refFailcnt n :: FC.refFailed.cnt :: moveFlds n) [.rf, .flt, .br, .pr] s t := by
  have hreason : Keeps [F.refReason n] [] s (s.wr (F.refReason n) 8) := (Keeps.refl _ _ s).wr 8 List.mem_cons_self
  have hcls := failFlds_key_ne n n.isLt (F.refReason n) List.mem_cons_self
  have hst := refReason_key_ne n n.isLt
  obtain ⟨hent, hcount, hrec, hk⟩ := toFailed_effect (s := s.wr (F.refReason n) 8) n.isLt hb
  refine ⟨_, refSourceAbsent_fails hj h0 h5 ha hf, hent.from (hreason.regs _ ?_), ?_, ?_, ?_, ?_⟩
  · simpa using (hst _ (by simp [moveFlds, refMoveFlds])).symm
  · rw [hk.regs _ hst, State.rd_wr_same]
    rfl
  · rw [hcount, State.rd_wr_ne _ _ (hst _ List.mem_cons_self).symm]
  · exact hrec.of_keeps hreason (fun g hg => List.mem_singleton.1 hg ▸ hcls.1) (fun g hg => List.mem_singleton.1 hg ▸ hcls.2)
      (by decide) (by decide) (by decide)
  · exact (hreason.mono (by simp) (by simp)).trans (hk.mono (fun _ hf => List.mem_cons_of_mem _ hf) (fun _ hq => hq))

theorem refSuspectClear_enters (hj : refJudged s n = true) (h4 : s.refState n = 4) (hjump : (s.ref n).jump = false)
    (hc : s.rd (F.refSuspclr n) ≤ (s.ref n).clean) (hs : (s.ref n).susp < s.rd (F.refSusptime n)) :
    ∃ t, exec (.refSuspectClear n) s = .next t ∧ Entered n 3 s t ∧ Keeps (moveFlds n) [.rf] s t :=
  ⟨_, (rfl : _ = execRefSuspectClear n s).trans (when_true (by simp [hj, h4, hjump, hc, hs])),
    toState_selected n.isLt (by decide) s⟩

theorem refFailholdEnd_enters (hj : refJudged s n = true) (h5 : s.refState n = 5)
    (hc : s.rd (F.refFailhold n) * 1024 ≤ (s.ref n).clean) (ha : refAbsent s n = false) :
    ∃ t, exec (.refFailholdEnd n) s = .next t ∧ Entered n 2 s t ∧ bit (t.frec .refFailed).live n = false ∧
      (∀ c, c ≠ .refFailed → t.frec c = s.frec c) ∧ Keeps (refMoveFlds n) [.rf, .flt] s t := by
  refine ⟨_, (rfl : _ = execRefFailholdEnd n s).trans (when_true (by simp [hj, h5, hc, ha])), ?_⟩
  have hleft : refLeaveFailed n s = s.liveClr .refFailed n := if_pos h5
  have hagain : refLeaveFailed n (s.liveClr .refFailed n) = (s.liveClr .refFailed n).liveClr .refFailed n := if_pos h5
  have hk : Keeps (refMoveFlds n) [.rf] ((s.liveClr .refFailed n).liveClr .refFailed n) (toObserving n (s.liveClr .refFailed n)) :=
    Keeps.toObserving (hagain ▸ Keeps.refl _ _ _) List.mem_cons_self (fun _ hf => hf)
  have hrec := State.frec_of_flt (hk.part .flt (by decide))
  have hclr : Keeps (refMoveFlds n) [.rf, .flt] s ((s.liveClr .refFailed n).liveClr .refFailed n) :=
    ((Keeps.refl _ _ s).liveClr .refFailed n (by decide)).liveClr .refFailed n (by decide)
  rw [hleft]
  refine ⟨(toObserving_effect n _).1.from rfl, ?_, fun c hc => ?_, hclr.trans (hk.mono (fun _ hf => hf) (by simp))⟩
  · rw [hrec, (State.liveClr_frec _ .refFailed n).1]
    exact bit_setBit_self _ n false
  · rw [hrec, (State.liveClr_frec _ .refFailed n).2 c hc, (State.liveClr_frec _ .refFailed n).2 c hc]

end

section
variable {n : Fin 4} {s : State}

theorem rinTransitionsCounted_enters (hj : refJudged s n = true) (h1 : s.refState n = 1) (hr : 16 ≤ s.rd (F.refRisecnt n))
    (hf : 16 ≤ s.rd (F.refFallcnt n)) :
    ∃ t, exec (.rinTransitionsCounted n) s = .next t ∧ Entered n 2 s t ∧ Keeps (refMoveFlds n) [.rf] s t :=
  ⟨_, (rfl : _ = execRinTransitionsCounted n s).trans (when_true (by simp [hj, h1, hr, hf])), (toObserving_effect n s).1,
    Keeps.toObserving ((refLeaveFailed_of_ne (n := n) (s := s) (by simp [h1])).symm ▸ Keeps.refl _ _ s) (by decide) (fun _ hf => hf)⟩

theorem rinIndeterminate_enters (hp : s.powered = true) (hr : s.live = true → refsRun s = true) (hi : (s.ref n).ind = true)
    (h0 : s.refState n ≠ 0) :
    ∃ t, exec (.rinIndeterminate n) s = .next t ∧ Entered n 1 s t ∧ t.rd (F.refRisecnt n) = 0 ∧ t.rd (F.refFallcnt n) = 0 ∧
      (t.ref n).ind = false ∧ t.rd (F.refSettled n) = (if s.is (F.refThrfrz n) then s.rd (F.refSettled n) else 0) ∧
      Keeps (restartFlds n ++ selectFlds) [.rf, .flt] s t := by
  have hcond : ((if s.live then refsRun s else s.powered) && (s.ref n).ind && s.refState n != 0) = true := by
    cases hl : s.live
    · simp [hp, hi, h0]
    · simp [hr hl, hi, h0]
  have hn : n.val < 10 := by omega
  have hshown := refSelection_keeps (toIndeterminate n s)
  have hne := selectFlds_counts_ne n hn
  obtain ⟨hrise, hfall, hset, hind⟩ := toIndeterminate_counts hn s
  refine ⟨_, (rfl : _ = execRinIndeterminate n s).trans (when_true hcond), (toIndeterminate_effect n s).1.selected hn,
    ?_, ?_, ?_, ?_, ?_⟩
  · rw [hshown.regs _ (fun g hg => (hne g hg).1), hrise]
  · rw [hshown.regs _ (fun g hg => (hne g hg).2.1), hfall]
  · rw [refSelection_ref, hind]
  · rw [hshown.regs _ (fun g hg => (hne g hg).2.2), hset]
  · exact ((toIndeterminate_effect n s).2.2.mono (fun _ hf => List.mem_append_left _ hf) (fun _ hq => hq)).trans
      (hshown.mono (fun _ hf => List.mem_append_right _ hf) (by simp))

end

/-- Settles O31: each command is one entry of the table, with what its lemma says of it, and selection after it. -/
theorem referencesFollowTheTable : Obligations.ReferencesFollowTheTable := by
  unfold Obligations.ReferencesFollowTheTable
  intro mv
  refine ⟨fun n s hj h0 => ?_, fun n s hr h0 he => ?_, fun n s hj h2 hc ha hp ho => ?_, fun n s hj hb hv => ?_,
    fun n s hj hb h0 h5 ha hf => ?_, fun n s hj h4 hjump hc hs => ?_, fun n s hj h5 hc ha => ?_, fun n s hj h1 hr hf => ?_,
    fun n s hp hr hi h0 => ?_⟩
  · obtain ⟨t, he, hent, hk⟩ := refEnable_enters hj h0
    exact ⟨t, he, hent, hk.mono (fun _ hf => List.mem_append_left selectFlds hf) (fun _ hq => hq)⟩
  · exact refDisable_enters hr h0 he
  · exact refQualify_enters hj h2 hc ha hp ho
  · exact ⟨_, refFail_fails hj hv, toFailed_effect n.isLt hb⟩
  · exact refSourceAbsent_enters hj hb h0 h5 ha hf
  · exact refSuspectClear_enters hj h4 hjump hc hs
  · obtain ⟨t, he, hent, hlive, hrec, hk⟩ := refFailholdEnd_enters hj h5 hc ha
    exact ⟨t, he, hent, hlive, hrec, hk.mono (fun _ hf => List.mem_append_left selectFlds hf) (fun _ hq => hq)⟩
  · obtain ⟨t, he, hent, hk⟩ := rinTransitionsCounted_enters hj h1 hr hf
    exact ⟨t, he, hent, hk.mono (fun _ hf => List.mem_append_left selectFlds hf) (fun _ hq => hq)⟩
  · exact rinIndeterminate_enters hp hr hi h0

end Sys2Proof.Machine
end

section
/-! The inputs' front ends (R147 to R152): SETTLED, a level that changes, the clean transitions it counts, and the 2 s in the band. -/
namespace Sys2Proof.Machine

@[simp] theorem State.ref_setRef_same (s : State) (n : Nat) (r : RefRec) : (s.setRef n r).ref n = r := SMap.getD_set_same _ _ _ _

/-! ## A level beyond the band -/

/-- The input's level once beyond the band, before any transition is counted: MIDBAND and its live bit end (R152). -/
def bandLeft (n : Nat) (l : Fin 3) (s : State) : State :=
  (((s.wr (F.refLevel n) l).clr (F.refMidband n)).setRef n { s.ref n with
    bandBeats := 0, seenHi := (s.ref n).seenHi || l.val == 1, seenLo := (s.ref n).seenLo || l.val == 0 }).liveClr .rinMidband n

section
variable {n : Fin 4} {l : Fin 3} {s : State}

theorem exec_rinLevelChange_beyond (h : BitVec 16) (hp : s.powered = true) (hd : s.domOn 11 = true) (hl : l ≠ 2) :
    exec (.rinLevelChange n l h) s = .next
      (if passesGlitch s n h.toNat then countTransition n (l.val == 1) (bandLeft n l s) else bandLeft n l s) := by
  have h2 : l.val ≠ 2 := fun e => hl (Fin.ext e)
  change execRinLevelChange n l h s = _
  rw [execRinLevelChange, when_true (by simp [hp, hd])]
  simp only [h2, if_false]
  rfl

end

theorem levelFlds_key_ne : ∀ n < 10, (F.refLevel n).key ≠ (F.refMidband n).key := by decide

theorem bandLeft_shown {n : Nat} (hn : n < 10) (l : Fin 3) (s : State) : (bandLeft n l s).rd (F.refLevel n) = l ∧
    (bandLeft n l s).rd (F.refMidband n) = 0 := by
  refine ⟨?_, State.rd_clr _ _⟩
  change ((s.wr (F.refLevel n) l).wr (F.refMidband n) 0).rd (F.refLevel n) = l
  rw [State.rd_wr_ne _ _ (levelFlds_key_ne n hn).symm, State.rd_wr_same]
  exact Nat.mod_eq_of_lt (by simp only [F.refLevel]; omega)

theorem bandLeft_ref (n : Nat) (l : Fin 3) (s : State) : (bandLeft n l s).ref n = { s.ref n with
    bandBeats := 0, seenHi := (s.ref n).seenHi || l.val == 1, seenLo := (s.ref n).seenLo || l.val == 0 } :=
  State.ref_setRef_same _ _ _

theorem bandLeft_live (n : Nat) (l : Fin 3) (s : State) : bit ((bandLeft n l s).frec .rinMidband).live n = false := by
  rw [bandLeft, (State.liveClr_frec _ .rinMidband n).1]
  exact bit_setBit_self _ n false

theorem Keeps.bandLeft {p : List Part} {fs : List Fld} {s t : State} (h : Keeps fs p s t) (n : Nat) (l : Fin 3) (h1 : F.refLevel n ∈ fs)
    (h2 : F.refMidband n ∈ fs) (hr : Part.rf ∈ p) (hf : Part.flt ∈ p) : Keeps fs p s (Machine.bandLeft n l t) :=
  (((h.wr l h1).clr h2).setRef n _ hr).liveClr .rinMidband n hf

/-! ## Clean transitions (R151) -/

/-- The input counts clean transitions: it is INDETERMINATE and settled, and no calibration holds it. -/
def countsTransitions (s : State) (n : Nat) : Bool := s.refState n == 1 && s.is (F.refSettled n) && !bit s.rf.calStale n

theorem countTransition_counted {n : Nat} {up : Bool} {s : State} (h : countsTransitions s n = true) (hs : (s.ref n).side = some (!up)) :
    countTransition n up s = (s.setRef n { s.ref n with side := some up, dwelt := false }).inc
      (if up then F.refRisecnt n else F.refFallcnt n) := by
  simp only [countsTransitions, Bool.and_eq_true, beq_iff_eq, Bool.not_eq_true'] at h
  obtain ⟨⟨h1, h2⟩, h3⟩ := h
  have hne : ((!up) != up) = true := by cases up <;> rfl
  simp only [countTransition, h1, h2, h3, hs, hne]
  rfl

theorem countTransition_back {n : Nat} {up : Bool} {s : State} (h : countsTransitions s n = true) (hs : (s.ref n).side = some up)
    (hd : (s.ref n).dwelt = true) :
    countTransition n up s = ((s.setRef n { s.ref n with side := some up, dwelt := false }).wr (F.refRisecnt n) 0).wr
      (F.refFallcnt n) 0 := by
  simp only [countsTransitions, Bool.and_eq_true, beq_iff_eq, Bool.not_eq_true'] at h
  obtain ⟨⟨h1, h2⟩, h3⟩ := h
  have hne : (up != up) = false := by cases up <;> rfl
  simp only [countTransition, h1, h2, h3, hs, hne, hd]
  rfl

theorem level_high (l : Fin 3) : (l.val == 1) = true ↔ l = 1 := by decide +revert
theorem level_sides (l : Fin 3) : (l == 1) = (l.val == 1) ∧ (l != 1) = !(l.val == 1) := by decide +revert

/-- What a clean transition, upward or not, counts. -/
theorem transition_counts {n : Nat} (hn : n < 10) (up : Bool) (r : RefRec) (s : State) {t : State}
    (ht : t = (s.setRef n r).inc (if up then F.refRisecnt n else F.refFallcnt n)) :
    t.rd (F.refRisecnt n) = (if up then min (s.rd (F.refRisecnt n) + 1) 31 else s.rd (F.refRisecnt n)) ∧
    t.rd (F.refFallcnt n) = (if up then s.rd (F.refFallcnt n) else min (s.rd (F.refFallcnt n) + 1) 31) ∧
    Keeps [F.refRisecnt n, F.refFallcnt n] [.rf] s t := by
  have hne := (rinCounts_key_ne n hn).1
  have hk : Keeps [F.refRisecnt n, F.refFallcnt n] [.rf] s (s.setRef n r) := (Keeps.refl _ _ s).setRef n r (by decide)
  subst ht
  cases up
  · exact ⟨State.rd_wr_ne _ _ hne.symm, State.rd_inc _ _, hk.inc (by simp)⟩
  · exact ⟨State.rd_inc _ _, State.rd_wr_ne _ _ hne, hk.inc (by simp)⟩

theorem transition_restarts {n : Nat} (hn : n < 10) (r : RefRec) (s : State) {t : State}
    (ht : t = ((s.setRef n r).wr (F.refRisecnt n) 0).wr (F.refFallcnt n) 0) :
    t.rd (F.refRisecnt n) = 0 ∧ t.rd (F.refFallcnt n) = 0 ∧ Keeps [F.refRisecnt n, F.refFallcnt n] [.rf] s t := by
  have hk : Keeps [F.refRisecnt n, F.refFallcnt n] [.rf] s (s.setRef n r) := (Keeps.refl _ _ s).setRef n r (by decide)
  subst ht
  refine ⟨?_, State.rd_clr _ _, (hk.wr 0 (by simp)).wr 0 (by simp)⟩
  rw [State.rd_wr_ne _ _ (rinCounts_key_ne n hn).1.symm]
  exact State.rd_clr _ _

theorem countFlds_key_ne : ∀ n < 10, ∀ g ∈ [F.refRisecnt n, F.refFallcnt n],
    g.key ≠ (F.refLevel n).key ∧ g.key ≠ (F.refMidband n).key := by decide
theorem bandFlds_key_ne : ∀ n < 10, ∀ g ∈ [F.refLevel n, F.refMidband n],
    g.key ≠ (F.refState n).key ∧ g.key ≠ (F.refSettled n).key ∧ g.key ≠ (F.refRisecnt n).key ∧ g.key ≠ (F.refFallcnt n).key := by
  decide

theorem bandLeft_keeps (n : Nat) (l : Fin 3) (s : State) : Keeps [F.refLevel n, F.refMidband n] [.rf, .flt] s (bandLeft n l s) :=
  (Keeps.refl _ _ s).bandLeft n l (by simp) (by simp) (by decide) (by decide)

theorem bandLeft_countsTransitions {n : Nat} (hn : n < 10) (l : Fin 3) (s : State) :
    countsTransitions (bandLeft n l s) n = countsTransitions s n := by
  have hst : (bandLeft n l s).refState n = s.refState n :=
    (bandLeft_keeps n l s).regs _ (fun g hg => (bandFlds_key_ne n hn g hg).1)
  have hset : (bandLeft n l s).rd (F.refSettled n) = s.rd (F.refSettled n) :=
    (bandLeft_keeps n l s).regs _ (fun g hg => (bandFlds_key_ne n hn g hg).2.1)
  simp only [countsTransitions, hst, State.is, hset]
  rfl

section
variable {n : Fin 4} {l : Fin 3} {h : BitVec 16} {s : State}

theorem rinLevelChange_band (hp : s.powered = true) (hd : s.domOn 11 = true) :
    ∃ t, exec (.rinLevelChange n 2 h) s = .next t ∧ t.rd (F.refLevel n) = 2 ∧
      (t.ref n).bandBeats = (if s.rd (F.refLevel n) = 2 then (s.ref n).bandBeats else 0) ∧
      (t.ref n).dwelt = ((s.ref n).dwelt || passesGlitch s n h.toNat) ∧ Keeps [F.refLevel n] [.rf] s t := by
  refine ⟨_, (rfl : _ = execRinLevelChange n 2 h s).trans (when_true (by simp [hp, hd])), ?_⟩
  simp only [Fin.val_two, if_true]
  refine ⟨State.rd_wr_same _ _ _, ?_, ?_, ((Keeps.refl _ _ s).wr 2 List.mem_cons_self).setRef n _ (by decide)⟩
  · rw [State.ref_setRef_same]
    rfl
  · rw [State.ref_setRef_same]
    rfl

theorem rinLevelChange_glitch (hp : s.powered = true) (hd : s.domOn 11 = true) (hl : l ≠ 2) (hg : passesGlitch s n h.toNat = false) :
    ∃ t, exec (.rinLevelChange n l h) s = .next t ∧ t.rd (F.refLevel n) = l ∧ t.rd (F.refMidband n) = 0 ∧
      (t.ref n).bandBeats = 0 ∧ bit (t.frec .rinMidband).live n = false ∧
      Keeps [F.refLevel n, F.refMidband n] [.rf, .flt] s t := by
  obtain ⟨hlev, hmid⟩ := bandLeft_shown (n := n) (by omega) l s
  refine ⟨bandLeft n l s, ?_, hlev, hmid, by rw [bandLeft_ref], bandLeft_live n l s, bandLeft_keeps n l s⟩
  rw [exec_rinLevelChange_beyond h hp hd hl, hg]
  rfl

theorem rinLevelChange_counts (hp : s.powered = true) (hd : s.domOn 11 = true) (hl : l ≠ 2) (hg : passesGlitch s n h.toNat = true)
    (hc : countsTransitions s n = true) (hs : (s.ref n).side = some (l != 1)) :
    ∃ t, exec (.rinLevelChange n l h) s = .next t ∧ t.rd (F.refLevel n) = l ∧ t.rd (F.refMidband n) = 0 ∧
      t.rd (F.refRisecnt n) = (if l = 1 then min (s.rd (F.refRisecnt n) + 1) 31 else s.rd (F.refRisecnt n)) ∧
      t.rd (F.refFallcnt n) = (if l = 1 then s.rd (F.refFallcnt n) else min (s.rd (F.refFallcnt n) + 1) 31) ∧
      bit (t.frec .rinMidband).live n = false ∧
      Keeps [F.refLevel n, F.refMidband n, F.refRisecnt n, F.refFallcnt n] [.rf, .flt] s t := by
  have hn : n.val < 10 := by omega
  have hside : ((bandLeft n l s).ref n).side = some (!(l.val == 1)) := by
    rw [bandLeft_ref, ← (level_sides l).2]
    exact hs
  obtain ⟨hlev, hmid⟩ := bandLeft_shown hn l s
  have hlive := bandLeft_live n l s
  have hk := bandLeft_keeps n l s
  have hfld := bandFlds_key_ne n hn
  have hkey := countFlds_key_ne n hn
  have heq := countTransition_counted ((bandLeft_countsTransitions hn l s).trans hc) hside
  obtain ⟨hrise, hfall, hcnt⟩ := transition_counts hn _ _ _ heq
  refine ⟨countTransition n (l.val == 1) (bandLeft n l s), ?_, ?_, ?_, ?_, ?_, ?_, ?_⟩
  · rw [exec_rinLevelChange_beyond h hp hd hl, hg]
    rfl
  · rw [hcnt.regs _ (fun g hg => (hkey g hg).1), hlev]
  · rw [hcnt.regs _ (fun g hg => (hkey g hg).2), hmid]
  · simp only [hrise, level_high, hk.regs _ (fun g hg => (hfld g hg).2.2.1)]
  · simp only [hfall, level_high, hk.regs _ (fun g hg => (hfld g hg).2.2.2)]
  · rwa [State.frec_of_flt (hcnt.part .flt (by decide))]
  · exact (hk.mono (by simp) (fun _ hq => hq)).trans (hcnt.mono (by simp) (by simp))

theorem rinLevelChange_restarts (hp : s.powered = true) (hd : s.domOn 11 = true) (hl : l ≠ 2) (hg : passesGlitch s n h.toNat = true)
    (hc : countsTransitions s n = true) (hs : (s.ref n).side = some (l == 1)) (hw : (s.ref n).dwelt = true) :
    ∃ t, exec (.rinLevelChange n l h) s = .next t ∧ t.rd (F.refRisecnt n) = 0 ∧ t.rd (F.refFallcnt n) = 0 ∧
      Keeps [F.refLevel n, F.refMidband n, F.refRisecnt n, F.refFallcnt n] [.rf, .flt] s t := by
  have hn : n.val < 10 := by omega
  have hside : ((bandLeft n l s).ref n).side = some (l.val == 1) := by
    rw [bandLeft_ref, ← (level_sides l).1]
    exact hs
  have heq := countTransition_back ((bandLeft_countsTransitions hn l s).trans hc) hside (by rw [bandLeft_ref]; exact hw)
  obtain ⟨hrise, hfall, hcnt⟩ := transition_restarts hn _ _ heq
  refine ⟨countTransition n (l.val == 1) (bandLeft n l s), ?_, hrise, hfall, ?_⟩
  · rw [exec_rinLevelChange_beyond h hp hd hl, hg]
    rfl
  · exact ((bandLeft_keeps n l s).mono (by simp) (fun _ hq => hq)).trans (hcnt.mono (by simp) (by simp))

/-! ## SETTLED and MIDBAND -/

theorem thresholdSettled_settles (hp : s.powered = true) (hd : s.domOn 11 = true) (hf : s.is (F.refThrfrz n) = false)
    (hhi : (s.ref n).seenHi = true) (hlo : (s.ref n).seenLo = true) (hs : threshStill (s.ref n) = true) :
    ∃ t, exec (.thresholdSettled n) s = .next t ∧ t.rd (F.refSettled n) = 1 ∧ Keeps [F.refSettled n] [] s t :=
  ⟨_, (rfl : _ = execThresholdSettled n s).trans (when_true (by simp [hp, hd, hf, hhi, hlo, hs])), State.rd_set1 _ rfl,
    (Keeps.refl _ _ s).set1 List.mem_cons_self⟩

theorem refMidband_key_ne : ∀ n < 10, (F.refMidband n).key ≠ FC.rinMidband.cnt.key ∧ (F.refMidband n).key ≠ F.dMode.key := by decide

theorem rinMidband_raises (dt : Dt) (hp : s.powered = true) (hd : s.domOn 11 = true) (hl : s.rd (F.refLevel n) = 2)
    (hb : 2048 < (s.ref n).bandBeats) (hlive : bit (s.frec .rinMidband).live n = false) :
    ∃ t, exec (.rinMidband n dt) s = .next t ∧ t.rd (F.refMidband n) = 1 ∧ Recorded .rinMidband n n s t ∧
      Keeps [F.refMidband n, FC.rinMidband.cnt] [.flt, .br, .pr] s t := by
  have hset : Keeps [F.refMidband n] [] s (s.set1 (F.refMidband n)) := (Keeps.refl _ _ s).set1 List.mem_cons_self
  have hocc : Keeps [FC.rinMidband.cnt] [.flt, .br, .pr] (s.set1 (F.refMidband n))
      ((s.set1 (F.refMidband n)).liveSet .rinMidband n n 9 dt.toNat) :=
    (Keeps.refl _ _ _).liveSet .rinMidband n n 9 dt.toNat List.mem_cons_self (by decide) (by decide) (by decide)
  obtain ⟨hcnt, hmode⟩ := refMidband_key_ne n (by omega)
  refine ⟨_, (rfl : _ = execRinMidband n dt s).trans (when_true (by simp [hp, hd, hl, hb])), ?_, ?_, ?_⟩
  · rw [hocc.regs _ (fun g hg => List.mem_singleton.1 hg ▸ hcnt.symm)]
    exact State.rd_set1 _ rfl
  · exact ((State.liveSet_recorded (s.set1 (F.refMidband n)) .rinMidband n n 9 dt.toNat hlive).1.unbound (.inr (by decide))).of_keeps hset
      (fun g hg => List.mem_singleton.1 hg ▸ hcnt) (fun g hg => List.mem_singleton.1 hg ▸ hmode) (by decide) (by decide) (by decide)
  · exact (hset.mono (by simp) (by simp)).trans (hocc.mono (by simp) (by simp))

end

/-! ## The highest-ranked reference (R158) -/

/-- One reference more is taken into the search for the highest-ranked one. -/
def bestStep (s : State) (p : Nat → Bool) (b : Option Nat) (n : Nat) : Option Nat :=
  if s.refQual n && prio s n != 0 && p n then
    match b with
    | none => some n
    | some m => if ranksAbove s n m then some n else some m
  else b

theorem bestRef_eq (s : State) (p : Nat → Bool) : bestRef s p = (List.range 10).foldl (bestStep s p) none := rfl

/-- The search has found reference `n` or one that ranks above it. -/
def Covers (s : State) (b : Option Nat) (n : Nat) : Prop := ∃ r, b = some r ∧ (r = n ∨ ranksAbove s r n = true)

theorem ranksAbove_trans {s : State} {a b c : Nat} (h : ranksAbove s a b = true) (k : ranksAbove s b c = true) :
    ranksAbove s a c = true := by
  simp only [ranksAbove, Bool.or_eq_true, Bool.and_eq_true, decide_eq_true_eq, beq_iff_eq] at h k ⊢
  omega

theorem ranksAbove_total {s : State} {a b : Nat} (h : ranksAbove s a b = false) : b = a ∨ ranksAbove s b a = true := by
  simp only [ranksAbove, Bool.or_eq_false_iff, Bool.or_eq_true, Bool.and_eq_true, decide_eq_true_eq, beq_iff_eq,
    decide_eq_false_iff_not, Bool.and_eq_false_imp] at h ⊢
  omega

section
variable {s : State} {p : Nat → Bool} {b : Option Nat} {n : Nat}

/-- What the search has found it gives up only for a reference that ranks above it. -/
theorem Covers.step (h : Covers s b n) (k : Nat) : Covers s (bestStep s p b k) n := by
  obtain ⟨m, rfl, hm⟩ := h
  unfold bestStep
  split
  · dsimp only
    split
    · rename_i ha
      refine ⟨k, rfl, .inr ?_⟩
      obtain rfl | hm := hm
      · exact ha
      · exact ranksAbove_trans ha hm
    · exact ⟨m, rfl, hm⟩
  · exact ⟨m, rfl, hm⟩

theorem Covers.own (hq : s.refQual n = true) (hp : prio s n ≠ 0) (hn : p n = true) : Covers s (bestStep s p b n) n := by
  have hc : (s.refQual n && prio s n != 0 && p n) = true := by simp [hq, hp, hn]
  unfold bestStep
  rw [if_pos hc]
  cases b with
  | none => exact ⟨n, rfl, .inl rfl⟩
  | some m =>
    cases ha : ranksAbove s n m with
    | true => exact ⟨n, by simp [ha], .inl rfl⟩
    | false => exact ⟨m, by simp [ha], ranksAbove_total ha⟩

theorem Covers.foldl (h : Covers s b n) (ks : List Nat) : Covers s (ks.foldl (bestStep s p) b) n := by
  induction ks generalizing b with
  | nil => exact h
  | cons k ks ih => exact ih (h.step k)

theorem foldl_covers {ks : List Nat} (hk : n ∈ ks) (hq : s.refQual n = true) (hp : prio s n ≠ 0) (hn : p n = true) :
    Covers s (ks.foldl (bestStep s p) b) n := by
  induction ks generalizing b with
  | nil => exact absurd hk List.not_mem_nil
  | cons k ks ih =>
    obtain rfl | hk := List.mem_cons.1 hk
    · exact (Covers.own hq hp hn).foldl ks
    · exact ih hk

/-- No QUALIFIED reference that the search admits ranks above what it finds. -/
theorem bestRef_covers (hq : s.refQual n = true) (hp : prio s n ≠ 0) (hn : p n = true) : Covers s (bestRef s p) n := by
  have hlt : n < 10 := by
    simp only [State.refQual, Bool.and_eq_true, decide_eq_true_eq] at hq
    exact hq.1
  exact foldl_covers (List.mem_range.2 hlt) hq hp hn

end

/-! ## A revertive switch (R158, rule 5) -/

theorem selectRef_revertive {s : State} {n : Nat} (hr : s.is F.dRevert = true) (hm : s.is F.dManual = false) (hs : selHeld s = true)
    (hq : s.refQual n = true) (hp : prio s n ≠ 0) (ha : ranksAbove s n (s.rd F.dSelref) = true) (hw : (s.ref n).wtrDone = true) :
    selectRef s = n ∨ ranksAbove s (selectRef s) n = true := by
  obtain ⟨r, hbest, hover⟩ :=
    bestRef_covers (p := fun n => ranksAbove s n (s.rd F.dSelref) && (s.ref n).wtrDone) hq hp (by simp [ha, hw])
  have hsel : selectRef s = r := by simp [selectRef, hm, hs, hr, hbest]
  rwa [hsel]

/-- With MANUAL clear selection gives what the rules of R158 prefer. -/
theorem refSelection_choice {s : State} (hr : refsRun s = true) (hm : s.is F.dManual = false) :
    (refSelection s).rf.choice = selectRef s := by
  simp [refSelection, hr, hm, selPut]

/-- WTR has run out for reference `n`. -/
def wtrOut (n : Nat) (s : State) : State := s.setRef n { s.ref n with wtrDone := true }

theorem wtrExpiry_switches {n : Fin 10} {s : State} (hrun : refsRun s = true) (hr : s.is F.dRevert = true) (hm : s.is F.dManual = false)
    (hs : selHeld s = true) (hq : s.refQual n = true) (hp : prio s n ≠ 0) (ha : ranksAbove s n (s.rd F.dSelref) = true)
    (hw : s.rd (F.refWtr n) * 1024 ≤ (s.ref n).qualBeats) :
    ∃ t, exec (.wtrExpiry n) s = .next t ∧ (t.ref n).wtrDone = true ∧
      (t.rf.choice = n ∨ ranksAbove s t.rf.choice n = true) ∧ Keeps selectFlds [.rf] s t := by
  have hcond : (refsRun s && s.is F.dRevert && s.refQual n && prio s n != 0 && ranksAbove s n (s.rd F.dSelref) &&
      s.rd (F.refWtr n) * 1024 ≤ (s.ref n).qualBeats) = true := by simp [hrun, hr, hq, hp, ha, hw]
  have hdone : ((wtrOut n s).ref n).wtrDone = true := congrArg RefRec.wtrDone (State.ref_setRef_same _ _ _)
  have hk : Keeps selectFlds [.rf] s (wtrOut n s) := (Keeps.refl _ _ s).setRef n _ (by decide)
  have hchoice : (refSelection (wtrOut n s)).rf.choice = selectRef (wtrOut n s) := refSelection_choice hrun hm
  have hexec : exec (.wtrExpiry n) s = .next (refSelection (wtrOut n s)) := (rfl : _ = execWtrExpiry n s).trans (when_true hcond)
  refine ⟨_, hexec, ?_, ?_, hk.trans (refSelection_keeps _)⟩
  · rw [refSelection_ref, hdone]
  · rw [hchoice]
    exact selectRef_revertive (s := wtrOut n s) hr hm hs hq hp ha hdone

/-- Settles O32: each clause is one effect of an input's front end, and the switch is the search among those that have waited out WTR. -/
theorem inputFrontEndAndRevertiveSwitch : Obligations.InputFrontEndAndRevertiveSwitch := by
  unfold Obligations.InputFrontEndAndRevertiveSwitch
  refine ⟨fun n s hp hd hf hhi hlo hs => thresholdSettled_settles hp hd hf hhi hlo hs, fun n h s hp hd => rinLevelChange_band hp hd,
    fun n l h s hp hd hl hg => rinLevelChange_glitch hp hd hl hg, fun n l h s hp hd hl hg h1 hset hcal hs => ?_,
    fun n l h s hp hd hl hg h1 hset hcal hs hw => ?_, fun n dt s hp hd hl hb hlive => rinMidband_raises dt hp hd hl hb hlive,
    fun n s hrun hr hm hs hq hp ha hw => wtrExpiry_switches hrun hr hm hs hq hp ha hw⟩
  · exact rinLevelChange_counts hp hd hl hg (by simp [countsTransitions, h1, hset, hcal]) hs
  · exact rinLevelChange_restarts hp hd hl hg (by simp [countsTransitions, h1, hset, hcal]) hs hw

end Sys2Proof.Machine
end

section
/-! GNSS time of day (R160 to R164): what a sentence labels, the 3 s without a label, and the UART's two buffers. -/
namespace Sys2Proof.Machine

/-! ## The pairing -/

theorem pairedRin_of {s : State} (h : paired s (s.rd F.refGnssrin) = true) : pairedRin s = some (s.rd F.refGnssrin) := if_pos h

/-- A pairing that stands is followed already. -/
theorem gnssRepair_of {s : State} (h : paired s (s.rd F.refGnssrin) = true) (hr : s.rf.gn.rin = some (s.rd F.refGnssrin)) :
    gnssRepair s = s := if_pos (hr.trans (pairedRin_of h).symm)

/-! ## The label of a sentence -/

theorem nmeaLabel_noLeap {s : State} (u : Nat) (h : s.rd F.timeLeappend = 0) :
    nmeaLabel s (.utc u) = some ((u : Int) + s.rdS F.timeUtcoff).toNat := by
  simp [nmeaLabel, State.is, h]

/-! ## The sentence -/

section
variable {text : List (BitVec 8)} {dt : Dt} {s : State}

theorem exec_nmeaSentence_other (hr : refsRun s = true) (hd : s.domOn 11 = true) (hg : s.is F.refGnssen = true)
    (hj : nmeaJudge text = .other) : exec (.nmeaSentence text dt) s = .next s := by
  change execNmeaSentence text dt s = _
  rw [execNmeaSentence, when_true (by simp [hr, hd, hg])]
  simp only [hj]
  rfl

theorem exec_nmeaSentence_bad (hr : refsRun s = true) (hd : s.domOn 11 = true) (hg : s.is F.refGnssen = true)
    (hj : nmeaJudge text = .bad) : exec (.nmeaSentence text dt) s = .next (s.inc F.refNmeabad) := by
  change execNmeaSentence text dt s = _
  rw [execNmeaSentence, when_true (by simp [hr, hd, hg])]
  simp only [hj]

theorem exec_nmeaSentence_label (hr : refsRun s = true) (hd : s.domOn 11 = true) (hg : s.is F.refGnssen = true)
    (hp : paired s (s.rd F.refGnssrin) = true) (hrin : s.rf.gn.rin = some (s.rd F.refGnssrin)) {lbl : Nat}
    (hl : nmeaLabel s (nmeaJudge text) = some lbl) :
    exec (.nmeaSentence text dt) s = .next (gnssSentence (s.rd F.refGnssrin) lbl (s.at dt.toNat) dt.toNat s) := by
  change execNmeaSentence text dt s = _
  rw [execNmeaSentence, when_true (by simp [hr, hd, hg])]
  cases hj : nmeaJudge text with
  | bad => simp [hj, nmeaLabel] at hl
  | other | utc _ | leap _ =>
    rw [hj] at hl
    simp only [hl, hp, if_true, gnssRepair_of hp hrin]

end

section
variable {n lbl e dt : Nat} {s : State}

theorem gnssSentence_late {t : Nat} (he : s.rf.gn.edge = some e) (h : ¬ (e + 655360000000 ≤ t ∧ t ≤ e + 64880640000000)) :
    gnssSentence n lbl t dt s = s.inc F.refNmealate := by
  simp only [gnssSentence, he, if_neg h]

theorem gnssSentence_first {t : Nat} (he : s.rf.gn.edge = some e) (hn : s.rf.gn.named = none)
    (h : e + 655360000000 ≤ t ∧ t ≤ e + 64880640000000) : gnssSentence n lbl t dt s = gnssLabel n lbl e dt s := by
  simp only [gnssSentence, he, if_pos h, hn]

/-! ## The label put -/

theorem putLabel_shown : (putLabel n lbl e s).rd F.refLastlabel = lbl % 2 ^ 64 ∧ (putLabel n lbl e s).rf.gn.named = some lbl ∧
    (putLabel n lbl e s).rf.gn.since = 0 := by
  unfold putLabel
  dsimp only
  split <;> exact ⟨State.rd_wr_same _ _ _, rfl, rfl⟩

theorem Keeps.putLabel : Keeps [F.refLastlabel] [.rf] s (putLabel n lbl e s) := by
  have hk (g : GnssSt) : Keeps [F.refLastlabel] [.rf] s (({ s with rf.gn := g } : State).wr F.refLastlabel lbl) :=
    ((Keeps.refl _ _ s).rfOnly _ (by decide)).wr lbl List.mem_cons_self
  unfold Machine.putLabel
  dsimp only
  split
  · exact hk _
  · exact (hk _).setRef n _ (by decide)

/-! ## The label held against the one before it (R163) -/

/-- The edge that a sentence labels: the last one, or the next (R162). -/
def labelledEdge (s : State) (e : Nat) : Nat := if s.is F.refTodedge then e + unitsPerSec else e

theorem gnssLabel_unheld (h : s.rf.gn.last = none ∨ 3072 ≤ s.rf.gn.since) : gnssLabel n lbl e dt s = putLabel n lbl e s := by
  unfold gnssLabel
  obtain h | h := h
  · simp only [h]
  · dsimp only
    split
    · exact if_pos h
    · rfl

theorem gnssLabel_due {p : Nat × Nat} (hp : s.rf.gn.last = some p) (hs : s.rf.gn.since < 3072)
    (hd : labelDue s.rf.gn (labelledEdge s e) = some lbl) :
    gnssLabel n lbl e dt s = if lbl = p.1 + 1 then (putLabel n lbl e s).set1 F.dGnsstod else putLabel n lbl e s := by
  rw [labelledEdge] at hd
  simp [gnssLabel, hp, hd, Nat.not_le.2 hs]

theorem gnssLabel_mismatch {p : Nat × Nat} (hp : s.rf.gn.last = some p) (hs : s.rf.gn.since < 3072)
    (hd : labelDue s.rf.gn (labelledEdge s e) ≠ some lbl) :
    gnssLabel n lbl e dt s = todMismatch n true dt (putLabel n lbl e s) := by
  rw [labelledEdge] at hd
  cases hl : labelDue s.rf.gn (if s.is F.refTodedge then e + unitsPerSec else e) with
  | none => simp [labelDue, hp] at hl
  | some l =>
    have hne : l ≠ lbl := fun h => hd (h ▸ hl)
    simp [gnssLabel, hp, hl, Nat.not_le.2 hs, hne]

/-- The violation of time of day noted for the beat's check (R162). -/
def todMarked (n : Nat) (s : State) : State := s.setRef n { s.ref n with todViol := true }

theorem todMismatch_fault : todMismatch n true dt s = (todMarked n s).occ .gnssTod n n 2 dt := rfl

theorem todMismatch_effect : ((todMismatch n true dt s).ref n).todViol = true ∧ (todMismatch n true dt s).rf.gn = s.rf.gn ∧
    Recorded .gnssTod n n s (todMismatch n true dt s) ∧
    Keeps [FC.gnssTod.cnt] [.rf, .flt, .br, .pr] s (todMismatch n true dt s) := by
  have hmark : Keeps [] [.rf] s (todMarked n s) := (Keeps.refl _ _ s).setRef n _ (by decide)
  have hocc : Keeps [FC.gnssTod.cnt] [.flt, .br, .pr] (todMarked n s) (todMismatch n true dt s) :=
    (Keeps.refl _ _ _).occ .gnssTod n n 2 dt List.mem_cons_self (by decide) (by decide) (by decide)
  have hrf : (todMismatch n true dt s).rf = (todMarked n s).rf := hocc.part .rf (by decide)
  refine ⟨?_, ?_, ?_, (hmark.mono (by simp) (by simp)).trans (hocc.mono (by simp) (by simp))⟩
  · rw [State.ref, hrf]
    exact congrArg RefRec.todViol (State.ref_setRef_same _ _ _)
  · rw [hrf]
    rfl
  · exact ((State.occ_recorded (todMarked n s) .gnssTod n n 2 dt).unbound (.inl (by decide))).of_keeps hmark nofun nofun
      (by decide) (by decide) (by decide)

/-- Whether it agrees with the label before it or not, the label stands. -/
theorem gnssLabel_shown : (gnssLabel n lbl e dt s).rd F.refLastlabel = lbl % 2 ^ 64 ∧
    (gnssLabel n lbl e dt s).rf.gn.named = some lbl ∧ (gnssLabel n lbl e dt s).rf.gn.since = 0 := by
  have hput := putLabel_shown (n := n) (lbl := lbl) (e := e) (s := s)
  have hset : ((putLabel n lbl e s).set1 F.dGnsstod).rd F.refLastlabel = (putLabel n lbl e s).rd F.refLastlabel :=
    State.rd_wr_ne _ _ (by decide)
  obtain ⟨-, hgn, -, hk⟩ := todMismatch_effect (n := n) (dt := dt) (s := putLabel n lbl e s)
  by_cases h : s.rf.gn.last = none ∨ 3072 ≤ s.rf.gn.since
  · rwa [gnssLabel_unheld h]
  · obtain ⟨hlast, hs⟩ := not_or.1 h
    obtain ⟨p, hp⟩ := Option.ne_none_iff_exists'.1 hlast
    by_cases hd : labelDue s.rf.gn (labelledEdge s e) = some lbl
    · rw [gnssLabel_due hp (Nat.not_le.1 hs) hd]
      split
      · exact ⟨hset.trans hput.1, hput.2⟩
      · exact hput
    · rw [gnssLabel_mismatch hp (Nat.not_le.1 hs) hd, hgn]
      exact ⟨(hk.regs _ (by decide)).trans hput.1, hput.2⟩

theorem gnssLabel_agrees {p : Nat × Nat} (hp : s.rf.gn.last = some p) (hs : s.rf.gn.since < 3072)
    (hd : labelDue s.rf.gn (labelledEdge s e) = some lbl) :
    (gnssLabel n lbl e dt s).rd F.dGnsstod = (if lbl = p.1 + 1 then 1 else s.rd F.dGnsstod) ∧
      Keeps [F.refLastlabel, F.dGnsstod] [.rf] s (gnssLabel n lbl e dt s) := by
  have hput : Keeps [F.refLastlabel] [.rf] s (putLabel n lbl e s) := Keeps.putLabel
  have hk : Keeps [F.refLastlabel, F.dGnsstod] [.rf] s (putLabel n lbl e s) := hput.mono (by simp) (fun _ hq => hq)
  rw [gnssLabel_due hp hs hd]
  split
  · exact ⟨State.rd_set1 _ rfl, hk.set1 (by simp)⟩
  · exact ⟨hput.regs _ (by decide), hk⟩

theorem gnssLabel_violates {p : Nat × Nat} (hp : s.rf.gn.last = some p) (hs : s.rf.gn.since < 3072)
    (hd : labelDue s.rf.gn (labelledEdge s e) ≠ some lbl) : ((gnssLabel n lbl e dt s).ref n).todViol = true ∧
      Recorded .gnssTod n n s (gnssLabel n lbl e dt s) ∧
      Keeps [F.refLastlabel, FC.gnssTod.cnt] [.rf, .flt, .br, .pr] s (gnssLabel n lbl e dt s) := by
  have hput : Keeps [F.refLastlabel] [.rf] s (putLabel n lbl e s) := Keeps.putLabel
  obtain ⟨hviol, -, hrec, hk⟩ := todMismatch_effect (n := n) (dt := dt) (s := putLabel n lbl e s)
  rw [gnssLabel_mismatch hp hs hd]
  exact ⟨hviol, hrec.of_keeps hput (by decide) (by decide) (by decide) (by decide) (by decide),
    (hput.mono (by simp) (by simp)).trans (hk.mono (by simp) (fun _ hq => hq))⟩

end

/-! ## The time-out and the UART -/

/-- A counter rises by a number and holds at its end. -/
theorem State.rd_incBy (s : State) (f : Fld) (k : Nat) : (s.incBy f k).rd f = min (s.rd f + k) (2 ^ f.w - 1) := by
  have hp : 0 < 2 ^ f.w := Nat.two_pow_pos _
  simp only [State.incBy, State.rd_wr_same, satUns]
  exact Nat.mod_eq_of_lt (by omega)

section
variable {s : State}

theorem gnssTodTimeout_clears (hr : refsRun s = true) (ht : s.is F.dGnsstod = true) (hs : 3072 ≤ s.rf.gn.since) :
    ∃ t, exec .gnssTodTimeout s = .next t ∧ t.rd F.dGnsstod = 0 ∧ Keeps [F.dGnsstod] [] s t :=
  ⟨_, (rfl : _ = execGnssTodTimeout s).trans (when_true (by simp [hr, ht, hs])), State.rd_clr _ _,
    (Keeps.refl _ _ s).clr List.mem_cons_self⟩

theorem uartOverflow_counts (l : List (BitVec 8)) (hp : s.powered = true) (hd : s.domOn 11 = true) :
    ∃ t, exec (.uartOverflow l) s = .next t ∧
      t.rf = { s.rf with gn := { s.rf.gn with uart := (s.rf.gn.uart ++ l).take 256 } } ∧
      t.rd F.refUartovf = min (s.rd F.refUartovf + (s.rf.gn.uart.length + l.length - 256)) 65535 ∧
      Keeps [F.refUartovf] [.rf] s t := by
  refine ⟨_, (rfl : _ = execUartOverflow l s).trans (when_true (by simp [hp, hd])), rfl, ?_,
    ((Keeps.refl _ _ s).rfOnly _ (by decide)).incBy _ List.mem_cons_self⟩
  rw [← List.length_append, State.rd_incBy]
  rfl

theorem gnssTx_sends (ho : gnssTxOn s = true) (hg : s.rf.gn.txGo = true) :
    ∃ t, exec .gnssTx s = .next t ∧
      t.rf = { s.rf with gn := { s.rf.gn with txGo := false, txd := gnssTxBytes s } } ∧ Keeps [] [.rf] s t :=
  ⟨_, (rfl : _ = execGnssTx s).trans (when_true (by simp [ho, hg])), rfl, (Keeps.refl _ _ s).rfOnly _ (by decide)⟩

end

/-- Settles O33: a sentence is judged, labelled, placed in its window and held against the label before it; the rest is one write each. -/
theorem gnssTimeOfDay : Obligations.GnssTimeOfDay := by
  unfold Obligations.GnssTimeOfDay
  refine ⟨fun text dt s hr hd hg => ⟨fun hj => ?_, fun hj => ?_, fun u hj h0 => ?_,
      fun hp hrin lbl e hl he => ⟨fun hw => ?_, fun hn h1 h2 => ?_⟩⟩,
    fun s hr ht hs => gnssTodTimeout_clears hr ht hs, fun l s hp hd => uartOverflow_counts l hp hd,
    fun s ho hg => gnssTx_sends ho hg⟩
  · exact exec_nmeaSentence_other hr hd hg hj
  · exact ⟨_, exec_nmeaSentence_bad hr hd hg hj, s.rd_inc F.refNmeabad, Keeps.incOnly s _⟩
  · rw [hj, nmeaLabel_noLeap u h0]
  · rw [exec_nmeaSentence_label hr hd hg hp hrin hl, gnssSentence_late he hw]
    exact ⟨_, rfl, s.rd_inc F.refNmealate, Keeps.incOnly s _⟩
  · rw [exec_nmeaSentence_label hr hd hg hp hrin hl, gnssSentence_first he hn ⟨h1, h2⟩]
    obtain ⟨hlast, hnamed, hsince⟩ := gnssLabel_shown (n := s.rd F.refGnssrin) (lbl := lbl) (e := e) (dt := dt.toNat) (s := s)
    refine ⟨_, rfl, hlast, hnamed, hsince, fun p hp hs hdue => gnssLabel_agrees hp hs hdue,
      fun p hp hs hdue => gnssLabel_violates hp hs hdue, fun hun => ?_⟩
    rw [gnssLabel_unheld hun]
    exact Keeps.putLabel

end Sys2Proof.Machine
end

section
/-! The fit of the model (R191): signed fields, the coefficients, and what a fitted second leaves. -/
namespace Sys2Proof.Machine

/-! ## Signed fields -/

/-- A number between the ends of a signed field is read back from the field that holds it. -/
theorem sgn_uns {w : Nat} (hw : 0 < w) {i : Int} (hlo : -((2 ^ (w - 1) : Nat) : Int) ≤ i) (hhi : i < ((2 ^ (w - 1) : Nat) : Int)) :
    sgn w (uns w i % 2 ^ w) = i := by
  obtain ⟨k, rfl⟩ : ∃ k, w = k + 1 := ⟨w - 1, by omega⟩
  have hpow : 2 ^ (k + 1) = 2 * 2 ^ k := by rw [Nat.pow_succ, Nat.mul_comm]
  have hpos : 0 < 2 ^ k := Nat.two_pow_pos k
  simp only [sgn, uns, Nat.add_sub_cancel, Nat.mod_mod, hpow] at hlo hhi ⊢
  generalize 2 ^ k = m at hlo hhi hpos ⊢
  by_cases hneg : i < 0
  · have hmod : i % ((2 * m : Nat) : Int) = i + (2 * m : Nat) := by
      rw [← Int.add_emod_right, Int.emod_eq_of_lt (by omega) (by omega)]
    rw [hmod, Nat.mod_eq_of_lt (by omega), if_neg (by omega)]
    omega
  · rw [Int.emod_eq_of_lt (by omega) (by omega), Nat.mod_eq_of_lt (by omega), if_pos (by omega)]
    omega

theorem satSgn_lo (w : Nat) (i : Int) : -((2 ^ (w - 1) : Nat) : Int) ≤ satSgn w i := by
  unfold satSgn
  omega

theorem satSgn_hi (w : Nat) (i : Int) : satSgn w i < ((2 ^ (w - 1) : Nat) : Int) := by
  have hpos : 0 < 2 ^ (w - 1) := Nat.two_pow_pos _
  unfold satSgn
  omega

/-- A signed field reads the saturated number that was put into it. -/
theorem State.rdS_wrSat (s : State) {f : Fld} (hw : 0 < f.w) (i : Int) : (s.wrSat f i).rdS f = satSgn f.w i := by
  rw [State.rdS, State.wrSat, State.rd_wr_same]
  exact sgn_uns hw (satSgn_lo _ _) (satSgn_hi _ _)

/-- A one-bit field reads the Bool that was put into it. -/
theorem State.rd_wrB (s : State) {f : Fld} (hw : f.w = 1) (b : Bool) : (s.wrB f b).rd f = b2n b := by
  rw [State.wrB, State.rd_wr_same, hw]
  cases b <;> rfl

theorem State.rd_used (s : State) (f : Fld) : s.used.rd f = s.rd f := rfl

theorem Keeps.rdS {l : List Fld} {p : List Part} {s t : State} (h : Keeps l p s t) {f : Fld} (hf : ∀ g ∈ l, g.key ≠ f.key) :
    t.rdS f = s.rdS f := congrArg (sgn f.w) (h.regs f hf)

section
variable {l : List Fld} {p : List Part} {s t : State}

theorem Keeps.moOnly (h : Keeps l p s t) (x : ModelSt) (hp : Part.mo ∈ p) : Keeps l p s { t with mo := x } :=
  h.upd rfl rfl (fun q hq => by cases q <;> first | rfl | exact absurd hp hq)

theorem Keeps.addF64 (h : Keeps l p s t) {f : Fld} (d : Int) (hf : f ∈ l) : Keeps l p s (addF64 f d t) := h.wr _ hf

/-- The residual of a fitted second touches RESID and the model's own record of the last 24 h. -/
theorem Keeps.residPush (h : Keeps l p s t) (r : Int) (hp : Part.mo ∈ p) (hf : F.servoResid ∈ l) : Keeps l p s (residPush r t) :=
  (h.moOnly _ hp).wr _ hf

end

/-! ## The coefficients (R191) -/

/-- The coefficients that every fitted second moves. -/
def coeffFlds : List Fld :=
  [F.servoA 0, F.servoA 1, F.servoA 2, F.servoA 3, F.servoA 4, F.servoA 5, F.servoAgea, F.servoAgeb]

/-- The coefficients of a fitted second with their numbers; RETK is one of them where R191 fits it. -/
def fittedFlds (retk : Bool) : List (Fld × Nat) := (coeffFlds ++ if retk then [F.servoRetk] else []).zipIdx

/-- A coefficient after its part of the least-squares step, before it is cut to its width. -/
def fitVal (r : Int) (s : State) (c : Fld × Nat) : Nat :=
  fixF64 (f64Fix (s.rd c.1) + Config.fitGain (s.rd F.servoTaufit) c.2 s.freeCount * r * 2 ^ 80)

theorem fitStep_eq (r : Int) (s : State) (c : Fld × Nat) : fitStep r s c = s.wr c.1 (fitVal r s c) := rfl

theorem fitVal_wr_ne (r : Int) (s : State) {f : Fld} {c : Fld × Nat} (v : Nat) (hc : f.key ≠ c.1.key)
    (ht : f.key ≠ F.servoTaufit.key) : fitVal r (s.wr f v) c = fitVal r s c := by
  rw [fitVal, State.rd_wr_ne _ _ hc, State.rd_wr_ne _ _ ht]
  rfl

section
variable {l : List Fld} {p : List Part} {s t : State} {r : Int}

theorem Keeps.fitSteps (h : Keeps l p s t) {cs : List (Fld × Nat)} (hl : ∀ c ∈ cs, c.1 ∈ l) :
    Keeps l p s (cs.foldl (fitStep r) t) := by
  induction cs generalizing t with
  | nil => exact h
  | cons c cs ih =>
    exact ih (h.wr (fitVal r t c) (hl c List.mem_cons_self)) (fun x hx => hl x (List.mem_cons_of_mem _ hx))

/-- Each coefficient moves by its own gain from where it stood: no part of the step reads what another part has written. -/
theorem fitSteps_rd {cs : List (Fld × Nat)} (hd : (cs.map (·.1.key)).Nodup) (ht : ∀ c ∈ cs, c.1.key ≠ F.servoTaufit.key)
    {c : Fld × Nat} (hc : c ∈ cs) : (cs.foldl (fitStep r) s).rd c.1 = fitVal r s c % 2 ^ c.1.w := by
  induction cs generalizing s with
  | nil => exact absurd hc List.not_mem_nil
  | cons x xs ih =>
    obtain ⟨hx, hxs⟩ := List.nodup_cons.1 hd
    have hne {y : Fld × Nat} (hy : y ∈ xs) : x.1.key ≠ y.1.key := fun e => hx (List.mem_map.2 ⟨y, hy, e.symm⟩)
    have htx := ht x List.mem_cons_self
    rw [List.foldl_cons, fitStep_eq]
    obtain rfl | hc := List.mem_cons.1 hc
    · have hk : Keeps (xs.map (·.1)) [] (s.wr c.1 (fitVal r s c)) (xs.foldl (fitStep r) (s.wr c.1 (fitVal r s c))) :=
        (Keeps.refl _ _ _).fitSteps (fun y hy => List.mem_map_of_mem hy)
      rw [hk.regs c.1 (fun g hg => ?_), State.rd_wr_same]
      obtain ⟨y, hy, rfl⟩ := List.mem_map.1 hg
      exact (hne hy).symm
    · rw [ih hxs (fun y hy => ht y (List.mem_cons_of_mem _ hy)) hc, fitVal_wr_ne r s _ (hne hc) htx]

end

theorem fittedFlds_keys : ∀ retk, ((fittedFlds retk).map (·.1.key)).Nodup ∧
    ∀ c ∈ fittedFlds retk, c.1.key ≠ F.servoTaufit.key ∧ c.1.key ≠ F.servoAgesig.key ∧ c.1.w = 64 := by decide
theorem coeffFlds_fitted : ∀ retk, ∀ c ∈ coeffFlds.zipIdx, c ∈ fittedFlds retk := by decide
theorem retk_fitted : (F.servoRetk, 8) ∈ fittedFlds true := by decide
theorem retk_unfitted : ∀ c ∈ fittedFlds false, c.1.key ≠ F.servoRetk.key := by decide

theorem fitCoeffs_eq (r : Int) (s : State) : fitCoeffs r s = (((fittedFlds (retkFits s)).foldl (fitStep r) s).wr F.servoAgesig
    (Config.ageSig (s.rd F.servoTaufit) s.freeCount).toNat).used := rfl

/-- The fields that the step of a fitted second writes. -/
def fitCoeffFlds : List Fld := F.servoAgesig :: F.servoRetk :: coeffFlds

theorem fittedFlds_mem : ∀ retk, ∀ c ∈ fittedFlds retk, c.1 ∈ fitCoeffFlds := by decide

section
variable (r : Int) (s : State)

theorem fitCoeffs_keeps : Keeps fitCoeffFlds [.freeCount] s (fitCoeffs r s) := by
  rw [fitCoeffs_eq]
  exact (((Keeps.refl _ _ s).fitSteps (fittedFlds_mem _)).wr _ (by decide)).used (by decide)

theorem fitCoeffs_fitted {c : Fld × Nat} (hc : c ∈ fittedFlds (retkFits s)) : (fitCoeffs r s).rd c.1 = fitVal r s c % 2 ^ 64 := by
  obtain ⟨hd, hcs⟩ := fittedFlds_keys (retkFits s)
  obtain ⟨-, hsig, hw⟩ := hcs c hc
  rw [fitCoeffs_eq, State.rd_used, State.rd_wr_ne _ _ hsig.symm, fitSteps_rd hd (fun y hy => (hcs y hy).1) hc, hw]

theorem fitCoeffs_retk :
    (fitCoeffs r s).rd F.servoRetk = if retkFits s then fitVal r s (F.servoRetk, 8) % 2 ^ 64 else s.rd F.servoRetk := by
  cases hr : retkFits s with
  | true => exact fitCoeffs_fitted r s (c := (F.servoRetk, 8)) (hr ▸ retk_fitted)
  | false =>
    have hk : Keeps ((fittedFlds false).map (·.1)) [] s ((fittedFlds false).foldl (fitStep r) s) :=
      (Keeps.refl _ _ s).fitSteps (fun c hc => List.mem_map_of_mem hc)
    rw [fitCoeffs_eq, hr, State.rd_used, State.rd_wr_ne _ _ (by decide), hk.regs _ (fun g hg => ?_)]
    · rfl
    obtain ⟨c, hc, rfl⟩ := List.mem_map.1 hg
    exact retk_unfitted c hc

theorem fitCoeffs_agesig : (fitCoeffs r s).rd F.servoAgesig = (Config.ageSig (s.rd F.servoTaufit) s.freeCount).toNat := by
  rw [fitCoeffs_eq, State.rd_used, State.rd_wr_same]
  exact Nat.mod_eq_of_lt (BitVec.isLt _)

end

/-! ## The fitted second (R191 to R197) -/

/-- The fields of a fitted second beside the coefficients. -/
def fitTailFlds : List Fld := [F.servoLearns, F.servoInnov, F.servoResid, F.servoRetnow, F.dRetrace]

section
variable {p : Int × Int} {s : State}

/-- LEARNS and INNOV after the coefficients. -/
def fitCounted (p : Int × Int) (s : State) : State :=
  ((fitCoeffs (rdiv p.2 1024) s.used).inc F.servoLearns).wrS F.servoInnov (innovOf (rdiv p.2 1024) s)

theorem fitCounted_keeps : Keeps [F.servoLearns, F.servoInnov] [] (fitCoeffs (rdiv p.2 1024) s.used) (fitCounted p s) :=
  ((Keeps.refl _ _ _).inc (by simp)).wrS _ (by simp)

theorem modelFit_after_counts : Keeps [F.servoResid, F.servoRetnow, F.dRetrace] [.mo] (fitCounted p s) (modelFit p s) :=
  (((Keeps.refl _ _ (fitCounted p s)).residPush (rdiv p.2 1024) (by decide) (by simp)).moOnly _ (by decide)).retraceShow
    (by simp) (by simp)

theorem modelFit_after_coeffs : Keeps fitTailFlds [.mo] (fitCoeffs (rdiv p.2 1024) s.used) (modelFit p s) :=
  (fitCounted_keeps.mono (by decide) (by decide)).trans (modelFit_after_counts.mono (by decide) (by decide))

/-- Every field that a fitted second writes. -/
def fitFlds : List Fld := fitCoeffFlds ++ fitTailFlds

theorem modelFit_keeps : Keeps fitFlds [.mo, .freeCount] s (modelFit p s) :=
  (((Keeps.refl _ _ s).used (by decide)).trans ((fitCoeffs_keeps _ _).mono (by decide) (by decide))).trans
    (modelFit_after_coeffs.mono (by decide) (by decide))

theorem modelFit_learns : (modelFit p s).rd F.servoLearns = min (s.rd F.servoLearns + 1) (2 ^ 32 - 1) := by
  have hcoeffs : (fitCoeffs (rdiv p.2 1024) s.used).rd F.servoLearns = s.rd F.servoLearns :=
    (fitCoeffs_keeps _ s.used).regs _ (by decide)
  rw [modelFit_after_counts.regs _ (by decide), fitCounted, State.wrS, State.rd_wr_ne _ _ (by decide), State.rd_inc, hcoeffs]
  rfl

theorem innovOf_of_resid {r : Int} (h : s.rd F.servoResid ≠ 0) :
    innovOf r s = satSgn 16 (rdiv (256 * r) (s.rd F.servoResid)) := if_neg h

theorem modelFit_innov (h : s.rd F.servoResid ≠ 0) :
    (modelFit p s).rdS F.servoInnov = satSgn 16 (rdiv (256 * rdiv p.2 1024) (s.rd F.servoResid)) := by
  rw [modelFit_after_counts.rdS (by decide), fitCounted, innovOf_of_resid h]
  exact State.rdS_wrSat _ (by decide) _

theorem coeff_untouched : ∀ c ∈ coeffFlds.zipIdx, ∀ g ∈ fitTailFlds, g.key ≠ c.1.key := by decide

theorem modelFit_coeff {c : Fld × Nat} (hc : c ∈ coeffFlds.zipIdx) :
    (modelFit p s).rd c.1 = fitVal (rdiv p.2 1024) s.used c % 2 ^ 64 := by
  rw [modelFit_after_coeffs.regs _ (coeff_untouched c hc), fitCoeffs_fitted _ _ (coeffFlds_fitted _ c hc)]

theorem exec_modelFitUpdate (hr : fitRuns s = true) (hf : s.mo.fit = some p) : exec .modelFitUpdate s = .next (modelFit p s) := by
  have hrun : exec .modelFitUpdate s = .next (fitPending s) :=
    (rfl : _ = execModelFitUpdate s).trans (when_true (by simp [hr, hf]))
  rw [hrun, fitPending, hf]
  rfl

end

end Sys2Proof.Machine
end

section
/-! The gain loop of the fit (R192), model quality (R197), and the copy of the model (R196). -/
namespace Sys2Proof.Machine

/-! ## The gain loop (R192) -/

/-- A product divided again by no more than its factor is no less than it was, however the quotient is rounded. -/
theorem le_rdiv_mul {n c d : Nat} (hd : 0 < d) (h : d ≤ c) : n ≤ (rdiv (n * c : Nat) d).toNat := by
  have hdiv : (n : Int) ≤ ((n * c : Nat) : Int) / (d : Int) := by
    rw [Int.le_ediv_iff_mul_le (by omega)]
    exact_mod_cast Nat.mul_le_mul_left n h
  have hup : (0 : Int) ≤ if ((n * c : Nat) : Int) % (d : Int) = 0 then 0 else if Config.roundUp (n * c : Nat) d then 1 else 0 := by
    split
    · decide
    · split <;> decide
  unfold rdiv
  omega

section
variable {s : State}

/-- TAUFIT takes its next value, and the runs that led there start anew. -/
def tauTaken (s : State) : State := { s.wr F.servoTaufit (tauNext s) with mo.runHigh := 0, mo.innSq := [] }

theorem tauTaken_keeps : Keeps [F.servoTaufit] [.mo] s (tauTaken s) :=
  ((Keeps.refl _ _ s).wr _ List.mem_cons_self).moOnly _ (by decide)

theorem tauTaken_rd : (tauTaken s).rd F.servoTaufit = tauNext s % 2 ^ 32 := State.rd_wr_same _ _ _

theorem exec_taufitAdjust (hp : s.powered = true) (hf : s.is F.servoFitfrz = false) (h : 10 ≤ s.mo.runHigh ∨ tauGrows s = true) :
    exec .taufitAdjust s = .next (tauTaken s) :=
  (rfl : _ = execTaufitAdjust s).trans (when_true (by simp [hp, hf, h]))

theorem tauNext_halved (h : 10 ≤ s.mo.runHigh) : tauNext s = max 21600 (s.rd F.servoTaufit / 2) := if_pos h

theorem tauNext_grown (h : s.mo.runHigh < 10) :
    tauNext s = min 2592000 (rdiv (s.rd F.servoTaufit * 10905077326652577 : Nat) 10000000000000000).toNat := if_neg (Nat.not_le.2 h)

theorem taufitAdjust_grows (hp : s.powered = true) (hf : s.is F.servoFitfrz = false) (hh : s.mo.runHigh < 10)
    (hg : tauGrows s = true) : ∃ t, exec .taufitAdjust s = .next t ∧
      t.rd F.servoTaufit = min 2592000 (rdiv (s.rd F.servoTaufit * 10905077326652577 : Nat) 10000000000000000).toNat ∧
      (s.rd F.servoTaufit ≤ 2592000 → s.rd F.servoTaufit ≤ t.rd F.servoTaufit) ∧ Keeps [F.servoTaufit] [.mo] s t := by
  have hrd : (tauTaken s).rd F.servoTaufit =
      min 2592000 (rdiv (s.rd F.servoTaufit * 10905077326652577 : Nat) 10000000000000000).toNat := by
    rw [tauTaken_rd, tauNext_grown hh]
    exact Nat.mod_eq_of_lt (Nat.lt_of_le_of_lt (Nat.min_le_left _ _) (by decide))
  refine ⟨_, exec_taufitAdjust hp hf (.inr hg), hrd, fun hle => ?_, tauTaken_keeps⟩
  rw [hrd]
  exact Nat.le_min.2 ⟨hle, le_rdiv_mul (by decide) (by decide)⟩

theorem modelDiverge_raises (hp : s.powered = true) (hr : 600 ≤ s.mo.runLong) :
    ∃ t, exec .modelDiverge s = .next t ∧ Recorded .modelDiverge 0 0 s t ∧ t.mo = { s.mo with runLong := 0 } ∧
      Keeps [FC.modelDiverge.cnt] [.mo, .flt, .br, .pr] s t := by
  have hocc : Keeps [FC.modelDiverge.cnt] [.flt, .br, .pr] s (s.occ .modelDiverge 0 0 1 0) :=
    (Keeps.refl _ _ s).occ .modelDiverge 0 0 1 0 List.mem_cons_self (by decide) (by decide) (by decide)
  have hmo : (s.occ .modelDiverge 0 0 1 0).mo = s.mo := hocc.part .mo (by decide)
  have hrec : Recorded .modelDiverge 0 0 s (s.occ .modelDiverge 0 0 1 0) :=
    (s.occ_recorded .modelDiverge 0 0 1 0).unbound (.inl (by decide))
  refine ⟨{ s.occ .modelDiverge 0 0 1 0 with mo.runLong := 0 },
    (rfl : _ = execModelDiverge s).trans (when_true (by simp [hp, hr])), ?_, ?_,
    (hocc.mono (by simp) (by simp)).moOnly _ (by decide)⟩
  · exact hrec.keeps ((Keeps.refl [] [.mo] _).moOnly _ (by decide)) nofun (by decide) (by decide) (by decide)
  · exact congrArg (fun m : ModelSt => { m with runLong := 0 }) hmo

end

/-! ## Model quality (R197) -/

section
variable {s : State}

theorem putMq_mq {mq : Nat} (h : mq < 256) : (putMq mq s).rd F.dMq = mq := by
  unfold putMq
  dsimp only
  rw [State.wrB, State.rd_wr_ne _ _ (by decide), State.rd_wr_same]
  exact Nat.mod_eq_of_lt h

theorem putMq_ready (mq : Nat) :
    (putMq mq s).rd F.dReady = if 192 ≤ mq then 1 else if mq < 184 then 0 else b2n (s.is F.dReady) := by
  unfold putMq
  dsimp only
  rw [State.rd_wrB _ rfl]
  split
  · rfl
  · split <;> rfl

/-- MQ of R197 written out. -/
def mqOf (s : State) : Nat := min (if thermoLive s then 63 else 255) (min (min 255 (s.rd F.servoLearns / 1350))
  (255 - min 255 (s.rd F.servoResid * 5000000000000 / 2 ^ 48)))

/-- TSCORE and RSCORE stand in their fields. -/
def scored (s : State) : State := (s.wr F.servoTscore (tscore s)).wr F.servoRscore (rscore s)

theorem scored_keeps : Keeps [F.servoTscore, F.servoRscore] [] s (scored s) := ((Keeps.refl _ _ s).wr _ (by simp)).wr _ (by simp)

theorem mqNow_scored : mqNow (scored s) = mqOf s := by
  have hlearns : (scored s).rd F.servoLearns = s.rd F.servoLearns := scored_keeps.regs _ (by decide)
  have hresid : (scored s).rd F.servoResid = s.rd F.servoResid := scored_keeps.regs _ (by decide)
  rw [mqNow, tscore, rscore, hlearns, hresid]
  rfl

theorem mqForm_eq (s : State) : mqForm s = putMq (mqOf s) (scored s) := by
  rw [← mqNow_scored]
  rfl

theorem mqOf_lt (s : State) : mqOf s < 256 := by
  unfold mqOf
  omega

theorem mqForm_tscore (s : State) : (mqForm s).rd F.servoTscore = min 255 (s.rd F.servoLearns / 1350) := by
  have hput : (putMq (mqOf s) (scored s)).rd F.servoTscore = (scored s).rd F.servoTscore :=
    ((Keeps.refl [F.dHoldChg, F.dMq, F.dReady] [] _).putMq _ (by simp) (by simp) (by simp)).regs _ (by decide)
  rw [mqForm_eq, hput, scored, State.rd_wr_ne _ _ (by decide), State.rd_wr_same]
  exact Nat.mod_eq_of_lt (Nat.lt_of_le_of_lt (Nat.min_le_left _ _) (by decide))

theorem mqForm_ready (s : State) :
    (mqForm s).rd F.dReady = if 192 ≤ mqOf s then 1 else if mqOf s < 184 then 0 else b2n (s.is F.dReady) := by
  have hready : (scored s).is F.dReady = s.is F.dReady := congrArg (· != 0) (scored_keeps.regs _ (by decide))
  rw [mqForm_eq, putMq_ready, hready]

theorem mqForm_mo (s : State) : (mqForm s).mo = s.mo :=
  ((Keeps.refl [F.servoTscore, F.servoRscore, F.dHoldChg, F.dMq, F.dReady] [] s).mqForm (fun _ hf => hf)).part .mo (by decide)

theorem exec_mqUpdate (hp : s.powered = true) (hd : s.mo.mqDue = true) :
    exec .mqUpdate s = .next (mqForm { s with mo.mqDue := false }) :=
  (rfl : _ = execMqUpdate s).trans (when_true (by simp [hp, hd]))

end

/-! ## The copy of the model (R196) -/

theorem modelCopy_copies {s : State} (hp : s.powered = true) (hr : s.scRuns = true) (hm : s.mode ≠ .replay)
    (hc : 3600 ≤ s.mo.copySecs) (hs : s.st.store = none) :
    ∃ t, exec .modelCopy s = .next t ∧ t.st.shadow.model = some (modelRec s) ∧ t.mo = { s.mo with copySecs := 0 } ∧
      Keeps [] [.mo, .st] s t := by
  have hcopy : copyModel s = shadowApply (.model (modelRec s)) { s with mo.copySecs := 0 } := if_pos (by rw [hs]; rfl)
  have hrun : exec .modelCopy s = .next (copyModel s) :=
    (rfl : _ = execModelCopy s).trans (when_true (by simp [hp, hr, hm, hc]))
  rw [hcopy] at hrun
  exact ⟨_, hrun, rfl, rfl, ((Keeps.refl _ _ s).moOnly _ (by decide)).stOnly _ (by decide)⟩

end Sys2Proof.Machine
end

section
/-! The wake windows of DORMANT (R199 to R204): a window opens, and what its end leaves. -/
namespace Sys2Proof.Machine

section
variable {l : List Fld} {p : List Part} {s t : State}

theorem Keeps.mdOnly (h : Keeps l p s t) (x : ModeSt) (hp : Part.md ∈ p) : Keeps l p s { t with md := x } :=
  h.upd rfl rfl (fun q hq => by cases q <;> first | rfl | exact absurd hp hq)

theorem Keeps.planWake (h : Keeps l p s t) (n : Nat) (hp : Part.mo ∈ p) (hf : F.servoNextwake ∈ l) :
    Keeps l p s (planWake n t) := (h.moOnly _ hp).wr _ hf

theorem Keeps.ptpWake (h : Keeps l p s t) (hp : Part.pt ∈ p) : Keeps l p s (ptpWake t) :=
  h.forN 4 (fun _ _ _ hu => hu.upd rfl rfl (fun q hq => by cases q <;> first | rfl | exact absurd hp hq))

theorem Keeps.holdEntry (h : Keeps l p s t) (hp : Part.mo ∈ p) (h1 : F.servoHoldt ∈ l) (h2 : F.servoHest ∈ l) :
    Keeps l p s (holdEntry t) := ((h.moOnly _ hp).wr _ h1).wr _ h2

theorem Keeps.wakeClose (h : Keeps l p s t) (hp : Part.mo ∈ p) (hf : F.dWake ∈ l) : Keeps l p s (wakeClose t) :=
  (h.clr hf).moOnly _ hp

/-- A bias capture touches a0 and the corrections that the fitted seconds keep (R193). -/
theorem Keeps.biasCapture (h : Keeps l p s t) (hp : Part.mo ∈ p) (hf : F.servoA 0 ∈ l) : Keeps l p s (biasCapture t) := by
  unfold Machine.biasCapture
  split
  · exact h
  · exact (h.addF64 _ hf).moOnly _ hp

theorem Keeps.fitPending (h : Keeps l p s t) (hm : Part.mo ∈ p) (hc : Part.freeCount ∈ p) (hl : ∀ f ∈ fitFlds, f ∈ l) :
    Keeps l p s (fitPending t) := by
  unfold Machine.fitPending
  cases t.mo.fit with
  | none => exact h
  | some x => exact h.trans (modelFit_keeps.mono hl (by simp [hm, hc]))

end

/-! ## HOLD_BOUND (R199) -/

theorem holdBound_raises {s : State} (hp : s.powered = true) (hh : holding s = true) (he : s.rd F.servoHlimit < s.rd F.servoHest)
    (hlive : bit (s.frec .holdBound).live 0 = false) :
    ∃ t, exec .holdBound s = .next t ∧ Recorded .holdBound 0 0 s t ∧ Keeps [FC.holdBound.cnt] [.flt, .br, .pr] s t :=
  ⟨_, (rfl : _ = execHoldBound s).trans (when_true (by simp [hp, hh, he])),
    (s.liveSet_recorded .holdBound 0 0 1 0 hlive).1.unbound (.inl (by decide)),
    (Keeps.refl _ _ s).liveSet .holdBound 0 0 1 0 List.mem_cons_self (by decide) (by decide) (by decide)⟩

/-! ## A window opens (R200) -/

section
variable {s : State}

theorem wakeOpen_keeps : Keeps [F.dWake, F.servoNextwake] [.br, .mo] s (wakeOpen s) :=
  ((((Keeps.refl _ _ s).set1 (by simp)).fire 34 (by decide)).planWake s.sec (by decide) (by simp)).moOnly _ (by decide)

theorem wakeOpen_wake : (wakeOpen s).rd F.dWake = 1 := by
  have hplan : (wakeOpen s).rd F.dWake = (s.set1 F.dWake).rd F.dWake :=
    ((Keeps.refl [F.servoNextwake] [.mo] ((s.set1 F.dWake).fire 34)).planWake s.sec (by decide) (by simp)).regs _ (by decide)
  rw [hplan]
  exact State.rd_set1 _ rfl

theorem wakeOpen_br : (wakeOpen s).br = { s.br with due := s.br.due ||| 2 ^ 34 } := rfl

/-- The settings that a window keeps are those it starts with (R204). -/
theorem wakeOpen_win : (wakeOpen s).mo.win = some ⟨0, s.rd F.servoWlen * 1024, s.rd F.servoWmeas * 1024, s.rd F.servoWakeset,
    s.rd F.servoWper, true⟩ := rfl

theorem wakeFrom_ge (n : Nat) : n ≤ wakeFrom s n := Nat.le_add_right _ _

theorem wakeOpen_next : s.sec < (wakeOpen s).mo.nextWake := wakeFrom_ge (s := (s.set1 F.dWake).fire 34) (s.sec + 1)

theorem wakeWindowStart_opens (hd : wakeDue s = true) :
    ∃ u, exec .wakeWindowStart s = .next (domsFollow u) ∧ u.rd F.dWake = 1 ∧ u.br = { s.br with due := s.br.due ||| 2 ^ 34 } ∧
      u.mo.win = some ⟨0, s.rd F.servoWlen * 1024, s.rd F.servoWmeas * 1024, s.rd F.servoWakeset, s.rd F.servoWper, true⟩ ∧
      s.sec < u.mo.nextWake ∧ Keeps [F.dWake, F.servoNextwake] [.br, .mo, .pt] s u := by
  have hptp : Keeps [] [.pt] (wakeOpen s) (ptpWake (wakeOpen s)) := (Keeps.refl _ _ _).ptpWake (by decide)
  have hbr : (ptpWake (wakeOpen s)).br = (wakeOpen s).br := hptp.part .br (by decide)
  have hmo : (ptpWake (wakeOpen s)).mo = (wakeOpen s).mo := hptp.part .mo (by decide)
  refine ⟨ptpWake (wakeOpen s), (rfl : _ = execWakeWindowStart s).trans (when_true hd), (hptp.regs _ nofun).trans wakeOpen_wake,
    hbr.trans wakeOpen_br, ?_, ?_, (wakeOpen_keeps.mono (by simp) (by simp)).trans (hptp.mono (by simp) (by simp))⟩
  · rw [hmo, wakeOpen_win]
  · rw [hmo]
    exact wakeOpen_next

end

/-! ## The end-of-window actions (R202) -/

/-- The window's verdict: the mean of its good samples, an empty window more, or neither. -/
def wakeVerdict (w : WakeWin) (s : State) : State :=
  if s.refQual (s.rd F.dSelref) && 8 ≤ (goodOf s w).length then wakeDelta w (rdiv (sumInt (goodOf s w)) (goodOf s w).length) s
  else if s.bitOf F.servoJrefmask (s.rd F.dSelref) || !(List.range 10).any s.refQual then
    (s.wr F.servoEmptywin (satUns 2 (s.rd F.servoEmptywin + 1))).wr F.servoLastdelta 0
  else s.wr F.servoLastdelta 0

theorem wakeActions_eq (w : WakeWin) (s : State) : wakeActions w s =
    biasCapture (if fitRuns (wakeVerdict w s) then fitPending (wakeVerdict w s) else wakeVerdict w s) := rfl

/-- The fields that a window's verdict writes. -/
def verdictFlds : List Fld := [F.servoA 0, F.servoSlewrem, F.servoEmptywin, F.servoLastdelta, F.dSlewing]

section
variable {s : State} {w : WakeWin}

theorem wakeDelta_keeps (delta : Int) : Keeps verdictFlds [.sv] s (wakeDelta w delta s) :=
  ((((((Keeps.refl _ _ s).addF64 _ (by decide)).wrSat _ (by decide)).wr _ (by decide)).wrSat _ (by decide)).svOnly _
    (by decide)).set1 (by decide)

theorem wakeVerdict_keeps : Keeps verdictFlds [.sv] s (wakeVerdict w s) := by
  unfold wakeVerdict
  split
  · exact wakeDelta_keeps _
  · split
    · exact ((Keeps.refl _ _ s).wr _ (by decide)).wr _ (by decide)
    · exact (Keeps.refl _ _ s).wr _ (by decide)

/-- The fit and the bias capture after a verdict leave what it shows. -/
theorem wakeActions_after_verdict : Keeps fitFlds [.mo, .freeCount] (wakeVerdict w s) (wakeActions w s) := by
  have hfit : Keeps fitFlds [.mo, .freeCount] (wakeVerdict w s)
      (if fitRuns (wakeVerdict w s) then fitPending (wakeVerdict w s) else wakeVerdict w s) := by
    split
    · exact (Keeps.refl _ _ _).fitPending (by decide) (by decide) (fun _ hf => hf)
    · exact Keeps.refl _ _ _
  rw [wakeActions_eq]
  exact hfit.biasCapture (by decide) (by decide)

theorem wakeActions_keeps : Keeps (verdictFlds ++ fitFlds) [.sv, .mo, .freeCount] s (wakeActions w s) :=
  (wakeVerdict_keeps.mono (by decide) (by decide)).trans (wakeActions_after_verdict.mono (by decide) (by decide))

/-- a0 and SLEWREM have taken the mean error of a window. -/
def wakeSlewed (w : WakeWin) (delta : Int) (s : State) : State :=
  let s1 := addF64 (F.servoA 0) (rdiv (delta * s.rd F.servoDkf * 2 ^ 136) (1000000000 * w.wper)) s
  s1.wrSat F.servoSlewrem (s1.rdS F.servoSlewrem + delta)

theorem wakeSlewed_slewrem (delta : Int) :
    (wakeSlewed w delta s).rdS F.servoSlewrem = satSgn 48 (s.rdS F.servoSlewrem + delta) := by
  have hbias : (addF64 (F.servoA 0) (rdiv (delta * s.rd F.servoDkf * 2 ^ 136) (1000000000 * w.wper)) s).rdS F.servoSlewrem =
      s.rdS F.servoSlewrem := ((Keeps.refl [F.servoA 0] [] s).addF64 _ (by simp)).rdS (by decide)
  rw [← hbias]
  exact State.rdS_wrSat _ (by decide) _

theorem wakeDelta_shown (delta : Int) : (wakeDelta w delta s).rd F.servoEmptywin = 0 ∧
    (wakeDelta w delta s).rdS F.servoSlewrem = satSgn 48 (s.rdS F.servoSlewrem + delta) ∧
    (wakeDelta w delta s).rdS F.servoLastdelta = satSgn 32 (rdiv delta 65536) := by
  have hslewing : Keeps [F.dSlewing] [.sv]
      (((wakeSlewed w delta s).wr F.servoEmptywin 0).wrSat F.servoLastdelta (rdiv delta 65536)) (wakeDelta w delta s) :=
    ((Keeps.refl _ _ _).svOnly _ (by decide)).set1 (by simp)
  have hlast : Keeps [F.servoLastdelta, F.dSlewing] [.sv] ((wakeSlewed w delta s).clr F.servoEmptywin) (wakeDelta w delta s) :=
    ((Keeps.refl _ _ _).wrSat _ (by simp)).trans (hslewing.mono (by simp) (fun _ hq => hq))
  have hempty : Keeps [F.servoEmptywin, F.servoLastdelta, F.dSlewing] [.sv] (wakeSlewed w delta s) (wakeDelta w delta s) :=
    ((Keeps.refl _ _ _).clr (by simp)).trans (hlast.mono (by simp) (fun _ hq => hq))
  refine ⟨?_, ?_, ?_⟩
  · rw [hlast.regs _ (by decide), State.rd_clr]
  · rw [hempty.rdS (by decide), wakeSlewed_slewrem]
  · rw [hslewing.rdS (by decide)]
    exact State.rdS_wrSat _ (by decide) _

theorem wakeVerdict_good (hq : s.refQual (s.rd F.dSelref) = true) (hl : 8 ≤ (goodOf s w).length) :
    wakeVerdict w s = wakeDelta w (rdiv (sumInt (goodOf s w)) (goodOf s w).length) s := if_pos (by simp [hq, hl])

theorem wakeVerdict_empty (hq : ∀ n, s.refQual n = false) :
    wakeVerdict w s = (s.wr F.servoEmptywin (satUns 2 (s.rd F.servoEmptywin + 1))).wr F.servoLastdelta 0 := by
  simp [wakeVerdict, hq]

theorem wakeVerdict_empty_shown (hq : ∀ n, s.refQual n = false) :
    (wakeVerdict w s).rd F.servoEmptywin = min (s.rd F.servoEmptywin + 1) 3 ∧ (wakeVerdict w s).rd F.servoLastdelta = 0 := by
  rw [wakeVerdict_empty hq]
  refine ⟨?_, State.rd_clr _ _⟩
  rw [State.rd_wr_ne _ _ (by decide)]
  exact State.rd_inc s F.servoEmptywin

/-! ## The end of a window (R202) -/

/-- The window is counted, its event is due, and the gap of DORMANT begins. -/
def windowClosed (w : WakeWin) (s : State) : State := holdEntry (wakeClose (((wakeActions w s).inc F.servoWincnt).fire 35))

theorem wakeEnd_eq (w : WakeWin) (s : State) : wakeEnd w s = { windowClosed w s with
    md.refQualAtWake := s.refQual (s.rd F.dSelref)
    md.exit := if 2 ≤ (windowClosed w s).rd F.servoEmptywin then some .empty else (windowClosed w s).md.exit } := rfl

/-- What is left after the gap has begun: HOLDT, HEST and the window's own record. -/
theorem wakeEnd_after_count : Keeps [F.dWake, F.servoHoldt, F.servoHest] [.mo, .md]
    (((wakeActions w s).inc F.servoWincnt).fire 35) (wakeEnd w s) := by
  rw [wakeEnd_eq]
  exact (((Keeps.refl _ _ _).wakeClose (by decide) (by simp)).holdEntry (by decide) (by simp) (by simp)).mdOnly _ (by decide)

theorem wakeEnd_after_verdict :
    Keeps ([F.servoWincnt, F.dWake, F.servoHoldt, F.servoHest] ++ fitFlds) [.mo, .md, .br, .freeCount] (wakeVerdict w s) (wakeEnd w s) :=
  ((wakeActions_after_verdict.mono (by decide) (by decide)).trans
    (((Keeps.refl _ _ _).inc (by decide)).fire 35 (by decide))).trans (wakeEnd_after_count.mono (by decide) (by decide))

theorem wakeEnd_wake : (wakeEnd w s).rd F.dWake = 0 := by
  have hgap : Keeps [F.servoHoldt, F.servoHest] [.mo, .md] (wakeClose (((wakeActions w s).inc F.servoWincnt).fire 35)) (wakeEnd w s) := by
    rw [wakeEnd_eq]
    exact ((Keeps.refl _ _ _).holdEntry (by decide) (by simp) (by simp)).mdOnly _ (by decide)
  rw [hgap.regs _ (by decide)]
  exact State.rd_clr _ _

theorem holdEntry_holdt (s : State) : (holdEntry s).rd F.servoHoldt = 0 :=
  (State.rd_wr_ne _ _ (by decide)).trans (State.rd_clr _ _)

theorem wakeEnd_wincnt : (wakeEnd w s).rd F.servoWincnt = min (s.rd F.servoWincnt + 1) 65535 := by
  have hacts : (wakeActions w s).rd F.servoWincnt = s.rd F.servoWincnt := wakeActions_keeps.regs _ (by decide)
  rw [wakeEnd_after_count.regs _ (by decide), ← hacts]
  exact State.rd_inc (wakeActions w s) F.servoWincnt

theorem wakeEnd_br : (wakeEnd w s).br = { s.br with due := s.br.due ||| 2 ^ 35 } := by
  have hacts : (wakeActions w s).br = s.br := wakeActions_keeps.part .br (by decide)
  have hend : (wakeEnd w s).br = (((wakeActions w s).inc F.servoWincnt).fire 35).br := wakeEnd_after_count.part .br (by decide)
  rw [hend, ← hacts]
  rfl

theorem wakeEnd_exit :
    (wakeEnd w s).md.exit = if 2 ≤ (wakeVerdict w s).rd F.servoEmptywin then some .empty else s.md.exit := by
  have hempty : (windowClosed w s).rd F.servoEmptywin = (wakeVerdict w s).rd F.servoEmptywin :=
    wakeEnd_after_verdict.regs (t := wakeEnd w s) _ (by decide)
  have hacts : (wakeActions w s).md = s.md := wakeActions_keeps.part .md (by decide)
  rw [← hempty, ← hacts]
  rfl

theorem exec_wakeWindowEnd (hl : s.live = true) (hm : s.mode = .dormant) (hw : s.mo.win = some w) (he : w.wlen ≤ w.elapsed)
    (ha : s.md.exit ≠ some .alarm) : exec .wakeWindowEnd s = .next (domsFollow (wakeEnd w s)) := by
  change execWakeWindowEnd s = _
  simp only [execWakeWindowEnd, hw]
  exact when_true (by simp [hl, hm, he, ha])

/-- Eight good samples of a qualified SELREF: what the mean of the samples has left at the window's end. -/
theorem wakeEnd_good (hq : s.refQual (s.rd F.dSelref) = true) (hl : 8 ≤ (goodOf s w).length) :
    (wakeEnd w s).rd F.servoEmptywin = 0 ∧
    (wakeEnd w s).rdS F.servoSlewrem = satSgn 48 (s.rdS F.servoSlewrem + rdiv (sumInt (goodOf s w)) (goodOf s w).length) ∧
    (wakeEnd w s).rdS F.servoLastdelta = satSgn 32 (rdiv (rdiv (sumInt (goodOf s w)) (goodOf s w).length) 65536) ∧
    (wakeEnd w s).md.exit = s.md.exit := by
  obtain ⟨hempty, hslew, hlast⟩ := wakeDelta_shown (w := w) (s := s) (rdiv (sumInt (goodOf s w)) (goodOf s w).length)
  rw [← wakeVerdict_good hq hl] at hempty hslew hlast
  refine ⟨(wakeEnd_after_verdict.regs _ (by decide)).trans hempty, (wakeEnd_after_verdict.rdS (by decide)).trans hslew,
    (wakeEnd_after_verdict.rdS (by decide)).trans hlast, ?_⟩
  rw [wakeEnd_exit, hempty]
  rfl

theorem wakeEnd_empty (hq : ∀ n, s.refQual n = false) : (wakeEnd w s).rd F.servoEmptywin = min (s.rd F.servoEmptywin + 1) 3 ∧
    (wakeEnd w s).rd F.servoLastdelta = 0 ∧ (1 ≤ s.rd F.servoEmptywin → (wakeEnd w s).md.exit = some .empty) := by
  obtain ⟨hempty, hlast⟩ := wakeVerdict_empty_shown (w := w) hq
  refine ⟨(wakeEnd_after_verdict.regs _ (by decide)).trans hempty, (wakeEnd_after_verdict.regs _ (by decide)).trans hlast,
    fun h1 => ?_⟩
  rw [wakeEnd_exit, hempty, if_pos (by omega)]

end

/-- Settles O37: each clause is one command of the model's chapter, the fit and the window's end read off their last writes. -/
theorem modelFitQualityAndWakeWindows : Obligations.ModelFitQualityAndWakeWindows := by
  unfold Obligations.ModelFitQualityAndWakeWindows
  refine ⟨fun s p hr hf => ?_, fun s hp hf => ⟨fun hh => ?_, fun hh hg => taufitAdjust_grows hp hf hh hg⟩,
    fun s hp hr => modelDiverge_raises hp hr, fun s hp hd => ?_, fun s hp hr hm hc hs => modelCopy_copies hp hr hm hc hs,
    fun s hp hh he hl => holdBound_raises hp hh he hl, fun s hd => wakeWindowStart_opens hd, fun s w hl hm hw he ha => ?_⟩
  · refine ⟨_, exec_modelFitUpdate hr hf, modelFit_learns, rfl, rfl, fun c hc => modelFit_coeff hc, ?_, ?_,
      fun h0 => modelFit_innov h0, modelFit_keeps.mono (by decide) (fun _ hq => hq)⟩
    · rw [modelFit_after_coeffs.regs _ (by decide), fitCoeffs_agesig]
      rfl
    · rw [modelFit_after_coeffs.regs _ (by decide), fitCoeffs_retk]
      rfl
  · exact ⟨_, exec_taufitAdjust hp hf (.inl hh), by rw [tauTaken_rd, tauNext_halved hh], rfl, tauTaken_keeps⟩
  · refine ⟨_, exec_mqUpdate hp hd, ?_, mqForm_tscore _, mqForm_ready _, mqForm_mo _, ?_⟩
    · rw [mqForm_eq]
      exact putMq_mq (mqOf_lt _)
    · exact ((Keeps.refl _ _ s).moOnly _ (by decide)).mqForm (by decide)
  · exact ⟨_, exec_wakeWindowEnd hl hm hw he ha, wakeEnd_wake, rfl, wakeEnd_wincnt, holdEntry_holdt _, wakeEnd_br,
      fun hq h8 => wakeEnd_good hq h8, fun hq => wakeEnd_empty hq⟩

end Sys2Proof.Machine
end
